-- ==== Sys2Proof/Word.lean ====
section
/-! DEFINITION. The 32-bit word, the byte, the tick and their plainest arithmetic, and tables of a fixed size. -/

namespace Sys2Proof

/-- A 32-bit word of the statement memory (00_scope, Memory). -/
abbrev Word := BitVec 32

/-- A byte of the statement memory. -/
abbrev Byte := BitVec 8

/-- A value of the 32-bit free-running tick counter (R1). -/
abbrev Tick := BitVec 32

/-- A tray, trays 1 to 4 counted from 0. -/
abbrev Tray := Fin 4

/-- A speed code 0 to 7. -/
abbrev SpeedCode := Fin 8

/-- A media class 0 to 3. -/
abbrev MediaClass := Fin 4

/-- A sheet handle 0 to 15: an index into the sheet table (R76). -/
abbrev Handle := Fin 16

/-- A buffer number 0 to 63: an index into the buffer residency table (R39). -/
abbrev BufferNo := Fin 64

/-- A leg of the paper path, legs 1 to 18 counted from 0 (R3). -/
abbrev Leg := Fin 18

/-- `a` is later than `b` (R2): the difference modulo 2^32, read as a signed value, is above zero. -/
def laterThan (a b : Tick) : Bool := decide (0 < (a - b).toInt)

/-- `a` is not earlier than `b` (R2): the same difference is zero or above. -/
def notEarlier (a b : Tick) : Bool := decide (0 ≤ (a - b).toInt)

/-- The tick `n` ticks after `t`. -/
def after (t : Tick) (n : Nat) : Tick := t + BitVec.ofNat 32 n

/-- The ticks from `a` to a later `b`. -/
def elapsed (a b : Tick) : Nat := (b - a).toNat

/-- The quotient of `a` by `b` rounded up (00_scope, Units). -/
def ceilDiv (a b : Nat) : Nat := (a + b - 1) / b

/-- The list of `f 0` to `f (n - 1)`. -/
def tabulateList {α : Type} : (n : Nat) → (Fin n → α) → List α
  | 0, _ => []
  | n + 1, f => f 0 :: tabulateList n (fun i => f i.succ)

theorem tabulateList_length {α : Type} (n : Nat) (f : Fin n → α) : (tabulateList n f).length = n := by
  induction n with
  | zero => rfl
  | succ n ih => simp [tabulateList, ih]

/-- The table of `n` entries whose entry `i` is `f i`. -/
def tabulate {α : Type} (n : Nat) (f : Fin n → α) : Vector α n := ⟨⟨tabulateList n f⟩, tabulateList_length n f⟩

/-- The table with entry `i` replaced. -/
def put {α : Type} {n : Nat} (v : Vector α n) (i : Fin n) (x : α) : Vector α n := v.set i.val x i.isLt

/-- The table with entry `i` changed by `f`. -/
def modifyAt {α : Type} {n : Nat} (v : Vector α n) (i : Fin n) (f : α → α) : Vector α n := put v i (f v[i])

/-- All indices of a table, in rising order. -/
def indices (n : Nat) : List (Fin n) := tabulateList n id

/-- The first index in rising order that has the property. -/
def firstIndex (n : Nat) (p : Fin n → Bool) : Option (Fin n) := (indices n).find? p

end Sys2Proof
end

