-- ==== Sys2Proof/Syntax.lean ====
section
/-! DEFINITION. The commands of the block: every row of spec/opcode_table.json is one constructor of `Instr`,
with the operands the row's rule gives the event (the table itself gives no operand fields). -/

namespace Sys2Proof.Machine

/-- The two upstream ports of the part (00_scope, Setting). -/
inductive Port where
  /-- the engine controller's port -/
  | E
  /-- the page processor's port -/
  | P
  deriving DecidableEq, Repr

/-- The fifteen sensors, in the code order of R192. -/
inductive Sensor where
  | F1 | F2 | F3 | F4 | MG | RG | TR | FX | LI | LH | XO | AC | K1 | K2 | PB
  deriving DecidableEq, Repr

/-- The two stackers. -/
inductive Stacker where
  | k1 | k2
  deriving DecidableEq, Repr

/-- What an expectation names: a sheet of the sheet table, or the accumulator set (R80). -/
inductive Item where
  | sheet (h : Handle)
  | set
  deriving DecidableEq, Repr

/-- The two values of the ACTIVATE word that make an anchor event (R185, R193). -/
inductive ActivateValue where
  /-- value 1: activate or reconfigure -/
  | activate
  /-- value 2: deactivate -/
  | deactivate
  deriving DecidableEq, Repr

/-- The sizes an upstream access can have (R177). -/
inductive AccessSize where
  | bytes1 | bytes2 | bytes4 | bytes8 | burst
  deriving DecidableEq, Repr

/-- The number of bytes of an access size. -/
def AccessSize.bytes : AccessSize → Nat
  | .bytes1 => 1
  | .bytes2 => 2
  | .bytes4 => 4
  | .bytes8 => 8
  | .burst => 32

/-- An upstream access (R177): a read, or a write with its bytes in rising address order. -/
structure Access where
  write : Bool
  addr : BitVec 28
  size : AccessSize
  data : List Byte
  deriving DecidableEq, Repr

end Sys2Proof.Machine

namespace Sys2Proof

open Machine

/-- The commands of the block, in the order of spec/opcode_table.json.  Each docstring names the rule of the row. -/
inductive Instr where
  /-- POWER RESET (R136). -/
  | powerReset
  /-- Assertion of ENGINE RESET (R151). -/
  | engineReset
  /-- Assertion of COVER OPEN (R149). -/
  | coverOpen
  /-- Assertion of a sensor line (R84). -/
  | leadingEdge (x : Sensor)
  /-- Deassertion of a sensor line (R91). -/
  | trailingEdge (x : Sensor)
  /-- Assertion of IMAGE FAULT (R96). -/
  | imageFault
  /-- Deassertion of TRAY EMPTY t (R68). -/
  | trayEmptyDeasserted (t : Tray)
  /-- Assertion (`level` true) or deassertion of the STACKER FULL line of a stacker (R120). -/
  | stackerFull (k : Stacker) (level : Bool)
  /-- Assertion (`level` true) or deassertion of PURGE FULL (R120). -/
  | purgeFull (level : Bool)
  /-- A pulse on ENCODER (R123). -/
  | encoder
  /-- The close of the open encoder window (R123). -/
  | encoderWindowClose
  /-- Expiry of the lock deadline (R127). -/
  | lockTimeout
  /-- Expiry of the current slot's transfer time (R58). -/
  | slotPasses
  /-- Expiry of the pick due timer of a sheet (R66, R67). -/
  | pickDue (h : Handle)
  /-- Expiry of the release due timer of a sheet (R70). -/
  | releaseDue (h : Handle)
  /-- Expiry of the late release timer of a sheet (R70). -/
  | lateRelease (h : Handle)
  /-- Expiry of the window close of an expectation at a sensor (R90). -/
  | windowExpiry (x : Sensor) (i : Item)
  /-- Expiry of the cover timer of a sensor (R92). -/
  | stall (x : Sensor)
  /-- Expiry of the stop grace (R140). -/
  | graceExpiry
  /-- An access arrives at an upstream port and is taken (R177, R179). -/
  | upstreamAccess (p : Port) (a : Access)
  /-- The last M-port beat of the granted upstream access is done (R177). -/
  | accessComplete
  /-- An upstream write that is dropped with OKAY (R180). -/
  | droppedWrite (p : Port) (a : Access)
  /-- A commit event for a plan slot (R20). -/
  | commitEvent (slot : Fin 256)
  /-- A tag commit event for a buffer (R45). -/
  | tagCommitEvent (b : BufferNo)
  /-- A code event of the command block (R154). -/
  | codeEvent
  /-- A consumer write: the word written and the bytes of it the access wrote (R173). -/
  | consumerWrite (data : Word) (mask : BitVec 4)
  /-- An anchor event (R185). -/
  | anchorEvent (v : ActivateValue)
  /-- A P-port read of the CLAIM cell (R41). -/
  | claim (a : Access)
  /-- An E-port read of the CLAIM cell (R42). -/
  | claimInspection (a : Access)
  /-- A P-port write of the ABANDON cell (R43). -/
  | abandon (a : Access)
  /-- A read of an attention summary by its own port (R175). -/
  | summaryRead (p : Port) (a : Access)
  /-- A read of the capture's second view word (R183). -/
  | captureRearm (p : Port) (a : Access)
  /-- Completion of a plan fetch (R25). -/
  | planFetchComplete
  /-- Completion of a plan commit word write (R22). -/
  | planCommitWordWritten
  /-- Completion of a tag fetch (R46). -/
  | tagFetchComplete
  /-- Completion of a tag commit word write (R47). -/
  | tagCommitWordWritten
  /-- A command read completes and finds a code that names no command (R156). -/
  | unknownCommandCode
  /-- A command read completes and finds START (R158). -/
  | start
  /-- A command read completes and finds STOP (R159). -/
  | stop
  /-- A command read completes and finds PAUSE FEED (R161). -/
  | pauseFeed
  /-- A command read completes and finds RESUME FEED (R161). -/
  | resumeFeed
  /-- A command read completes and finds CHANGE SPEED (R132, R162). -/
  | changeSpeed
  /-- A command read completes and finds CANCEL SPEED CHANGE (R134, R162). -/
  | cancelSpeedChange
  /-- A command read completes and finds HALT (R160). -/
  | halt
  /-- A command read completes and finds CLEAR (R163). -/
  | clear
  /-- A command read completes and finds WITHDRAW (R164). -/
  | withdraw
  /-- A command read completes and finds RELEASE BUFFER (R165). -/
  | releaseBuffer
  /-- A command read completes and finds RECLAIM BUFFER (R165). -/
  | reclaimBuffer
  /-- A command read completes and finds GUARD ON (R166). -/
  | guardOn
  /-- A command read completes and finds GUARD OFF (R166). -/
  | guardOff
  /-- A command read completes and finds SELECT STACKER (R167). -/
  | selectStacker
  /-- Completion of the write of a command's result and DONE, or of an abandoned command's IDLE (R156, R157). -/
  | commandFinishWritten
  /-- Completion of a log record write (R170). -/
  | logRecordWritten
  /-- Completion of the configuration record read (R186). -/
  | configReadComplete
  /-- Completion of the final RESULT write of an anchor operation (R185). -/
  | anchorResultWritten
  /-- Assertion of TRAY EMPTY t (R67). -/
  | trayEmptyAsserted (t : Tray)
  /-- Deassertion of COVER OPEN (R149). -/
  | coverOpenDeasserted
  /-- Deassertion of IMAGE FAULT (R96). -/
  | imageFaultDeasserted
  /-- Completion of the anchor read of an anchor operation (R185). -/
  | anchorReadComplete
  deriving DecidableEq, Repr

end Sys2Proof
end

