-- ==== Sys2Proof/Decode.lean ====
section
/-! DEFINITION. The command that a word spells by the bits of spec/opcode_table.json.  No row of the table gives bits:
the part takes its commands as line events, timer expiries, memory accesses and completions, and the one encoding the
manual gives for commands, the code word of the command block (R190), is read from memory by
`Machine.CommandCode.ofWord`. -/

namespace Sys2Proof

/-- The command a word spells: none, for the table gives no row any bits. -/
def decodeTableWord (_nbits _w : Nat) : Option Instr := none

end Sys2Proof
end

