-- ==== Sys2Proof/Config.lean ====
section
/-! DEFINITION. The configured figures (R6, R124, R136, R168, R186, R193), and the free values: constants without a
body that stand for what the manual leaves open. -/

namespace Sys2Proof

/-- FREE VALUE (notes/assumptions/2.md).  Which of several timers that expire at one tick is taken first: R2 and the
rules that own the timers give the outcome of either order and fix none. -/
opaque Config.expiryChoice : Nat → Nat

/-- FREE VALUE (notes/assumptions/3.md).  The byte read at a view offset whose value the manual does not state: the
fields of a FREE sheet table entry, and the slot ring area while there is no run grid. -/
opaque Config.viewByte : Nat → Nat → Byte

/-- FREE VALUE (notes/assumptions/3.md).  The view's code of a sheet entry state, FREE being 0 and the states of R77
following in order: chapter 12 gives no codes for them. -/
opaque Config.sheetStateCode : Nat → Byte

/-- FREE VALUE (notes/assumptions/3.md).  The view's code of the pick as a current leg, which has no leg number (R3). -/
opaque Config.pickLegCode : Byte

/-- FREE VALUE (notes/assumptions/4.md).  The RESULT detail of an OVERLAP that lies in a special window containing an
anchor address: R186 gives the detail of a pair of windows only. -/
opaque Config.anchorOverlapDetail : Nat → Byte

end Sys2Proof

namespace Sys2Proof.Machine

/-- The kinds of window (R193). -/
inductive WindowKind where
  | plain | plan | tag | buffer | log | command | view
  deriving DecidableEq, Repr

/-- The arbiter modes (R178). -/
inductive ArbiterMode where
  | rotating | fixed
  deriving DecidableEq, Repr

/-- A window descriptor as the configuration record holds it (R193).  `kind` is none for an unknown kind code. -/
structure Descriptor where
  base : Nat
  enabled : Bool
  kind : Option WindowKind
  sizeLog2 : Nat
  eReads : Bool
  pReads : Bool
  eWrites : Bool
  pWrites : Bool
  deriving DecidableEq, Repr

/-- A leg's configured figures (R6). -/
structure LegFigures where
  length : Nat
  factor : Nat
  deriving DecidableEq, Repr

/-- The figures of a configuration record, as read from memory (R193).  `arbiter` is none for an unknown mode code. -/
structure Configuration where
  descriptors : Vector Descriptor 8
  arbiter : Option ArbiterMode
  bufferCount : Nat
  bufferSizeLog2 : Nat
  accumulatorCapacity : Nat
  planSlots : Nat
  logEntries : Nat
  legs : Vector LegFigures 18
  pickDelay : Vector Nat 4
  earlyRatio : Nat
  lateRatio : Nat
  coverRatio : Nat
  encoderPerMm : Nat
  earlyFixed : Nat
  lateFixed : Nat
  coverFixed : Nat
  mediaLength : Vector Nat 4
  pitchLength : Nat
  minimumGap : Nat
  speed : Vector Nat 8
  lockTolerance : Nat
  runTolerance : Nat
  lockTimeout : Nat
  minimumDwell : Nat
  stopGrace : Nat
  deriving DecidableEq, Repr

end Sys2Proof.Machine
end

