-- ==== Sys2Proof/Machine/State.lean ====
section
/-! DEFINITION. The state of the block, one structure for each of the part's blocks (00_scope, Block Overview), its
values right after POWER RESET, and the reasons a command can end without a next state. -/

namespace Sys2Proof.Machine

/-! ## The reasons of a stop -/

/-- No command of this block faults: the manual gives every row its effect in every state, so no constructor stands
here.  (The empty type is safe: nothing can raise it.) -/
inductive Fault where
  deriving DecidableEq, Repr

/-- The one refusal: a command whose meaning is not written.  No arm of `exec` raises it. -/
inductive Refusal where
  /-- Raised by an arm of `exec` that has no meaning yet; none is left.  Safe: the model stops. -/
  | notModelled (mnemonic : String)
  deriving DecidableEq, Repr

/-! ## Names of states, causes and results -/

/-- The run states (R136). -/
inductive RunState where
  | inactive | idle | starting | running | draining | respeed | stopping | stopped | clearing
  deriving DecidableEq, Repr

/-- The drive states (R122). -/
inductive DriveState where
  | off | spinUp | locked | relock | coasting
  deriving DecidableEq, Repr

/-- The change status (7.5). -/
inductive ChangeStatus where
  | none | draining | relocking | returning | done | cancelled | failed | aborted
  deriving DecidableEq, Repr

/-- The command state (R153). -/
inductive CommandState where
  | idle | accepted | done
  deriving DecidableEq, Repr

/-- The command codes (R190). -/
inductive CommandCode where
  | start | stop | pauseFeed | resumeFeed | changeSpeed | cancelSpeedChange | halt | clear | withdraw
  | releaseBuffer | reclaimBuffer | guardOn | guardOff | selectStacker
  deriving DecidableEq, Repr

/-- The result codes of a command (R190). -/
inductive ResultCode where
  | done | redundant | refusedState | badOperand | notClear | inUse | busy | cancelled | failed
  deriving DecidableEq, Repr

/-- The stop causes (8.3, R192). -/
inductive Cause where
  | stray | early | late | short | stall | holdCollision | accumulatorCollision | coverOpen | driveLoss
  | driveDeviation | operator | engineReset
  deriving DecidableEq, Repr

/-- The admission wait reasons (R65). -/
inductive WaitReason where
  | notRunning | queueEmpty | hold | liveLimit | logReserve | horizon
  deriving DecidableEq, Repr

/-- The plan slot states (2.1). -/
inductive SlotState where
  | free | pending | taken
  deriving DecidableEq, Repr

/-- The refusal codes of a plan record (R24). -/
inductive PlanRefusal where
  | sequence | field | sides | buffer | identity | continuity
  deriving DecidableEq, Repr

/-- The buffer states (3.1). -/
inductive BufferState where
  | free | filling | closing | held
  deriving DecidableEq, Repr

/-- The side a tag gives (3.1). -/
inductive TagSide where
  | front | back | any
  deriving DecidableEq, Repr

/-- The sides of a sheet (R27). -/
inductive Sides where
  | simplex | duplex
  deriving DecidableEq, Repr

/-- The output modes (R31). -/
inductive OutputMode where
  | set | direct
  deriving DecidableEq, Repr

/-- The states of a live sheet entry (R77). -/
inductive SheetState where
  | scheduled | feeding | approach | printing | looping | held | returning | exiting | stranded
  deriving DecidableEq, Repr

/-- The routes (R76, R103). -/
inductive Route where
  | accumulate | k1 | k2 | purge
  deriving DecidableEq, Repr

/-- The destinations of a set (6.4). -/
inductive Destination where
  | k1 | k2 | purge
  deriving DecidableEq, Repr

/-- The loop gate's positions (6.1). -/
inductive LoopPosition where
  | loop | out
  deriving DecidableEq, Repr

/-- The jog levels (R108). -/
inductive JogLevel where
  | home | offset
  deriving DecidableEq, Repr

/-- The states of the accumulator set (6.4). -/
inductive SetState where
  | empty | collecting | complete | ejecting | dumping
  deriving DecidableEq, Repr

/-- The conditions of the accumulator set (6.4). -/
inductive SetCondition where
  | sound | disturbed | scattered
  deriving DecidableEq, Repr

/-- The reasons of a STACKER SWITCH (R192). -/
inductive SwitchReason where
  | selected | breakFlag | full | setPending
  deriving DecidableEq, Repr

/-- The causes of a capture (R183). -/
inductive CaptureCause where
  | permission | planGuard | tagGuard | bufferGuard | logGuard | viewBurst
  deriving DecidableEq, Repr

/-- The requesters of the M-port (R178). -/
inductive Requester where
  | E | P | agent
  deriving DecidableEq, Repr

/-- The occupant of a sensor (R79). -/
inductive Occupant where
  | none | sheet (h : Handle) | set | untracked
  deriving DecidableEq, Repr

/-- A stretch of travel (R3): a pick, or one of the eighteen legs. -/
inductive Stretch where
  | pick (t : Tray)
  | leg (l : Leg)
  deriving DecidableEq, Repr

/-- The pulses the part issues on its lines: PICK1 to PICK4, HOLD RELEASE and EJECT with its destination. -/
inductive Pulse where
  | pick (t : Tray)
  | holdRelease
  | eject (d : Destination)
  deriving DecidableEq, Repr

/-! ## Plan intake -/

/-- A statement copy: the statement number with the opening sequence (2.3). -/
structure Copy where
  statement : Nat
  opening : Nat
  deriving DecidableEq, Repr

/-- A plan entry: the fields of R21 with those R31 gives it. -/
structure PlanEntry where
  sequence : Nat
  statement : Nat
  k : Nat
  n : Nat
  tray : Tray
  media : MediaClass
  sides : Sides
  front : Option BufferNo
  back : Option BufferNo
  breakFlag : Bool
  opening : Nat
  mode : OutputMode
  slot : Nat
  deriving DecidableEq, Repr

/-- The continuity tail when it is a position (R32). -/
structure Tail where
  statement : Nat
  k : Nat
  n : Nat
  opening : Nat
  deriving DecidableEq, Repr

/-- Plan intake's state (R19, R32, R33).  The head of `queue` is its first element; a `tail` of none is BOUNDARY. -/
structure PlanIntake where
  slots : List SlotState
  queue : List PlanEntry
  lastAccepted : Nat
  tail : Option Tail
  deriving DecidableEq, Repr

/-! ## Buffer residency -/

/-- A buffer's tag (3.1). -/
structure Tag where
  statement : Nat
  sheet : Nat
  side : TagSide
  deriving DecidableEq, Repr

/-- An entry of the buffer table (3.1). -/
structure Buffer where
  state : BufferState
  tag : Option Tag
  count : Nat
  persistent : Bool
  replay : Bool
  deriving DecidableEq, Repr

/-- The residency table's state (R39). -/
structure Residency where
  table : Vector Buffer 64
  claimWaiting : Bool
  deriving DecidableEq, Repr

/-! ## Timing sets and the slot scheduler -/

/-- The nominal travel of a stretch with its margins (R7, R8). -/
structure StretchTime where
  nominal : Nat
  early : Nat
  late : Nat
  deriving DecidableEq, Repr

/-- Cover min and cover max (R11). -/
structure CoverLimits where
  min : Nat
  max : Nat
  deriving DecidableEq, Repr

/-- The timing set of one speed code (1.9).  `cover` gives, for a media class, the limits at factor 256 (the pick's)
and then at the factor of each leg. -/
structure TimingSet where
  code : SpeedCode
  legs : Vector StretchTime 18
  picks : Vector StretchTime 4
  pickCover : Vector CoverLimits 4
  cover : Vector (Vector CoverLimits 18) 4
  pitch : Nat
  lead : Vector Nat 4
  returnLead : Nat
  loopPitches : Nat
  setGap : Nat
  encoderCount : Nat
  deriving DecidableEq, Repr

/-- An entry of the slot ring (R59). -/
inductive RingEntry where
  | free
  | front (h : Handle)
  | back (h : Handle)
  deriving DecidableEq, Repr

/-- The run grid with its ring (R56, R58, R59).  `ring` stands for the 32 slots from `current`, in slot order. -/
structure Grid where
  t0 : Tick
  pitch : Nat
  lead : Vector Nat 4
  returnLead : Nat
  loopPitches : Nat
  setGap : Nat
  current : Nat
  ring : List RingEntry
  deriving DecidableEq, Repr

/-- One set of order bounds (R60). -/
structure Bounds where
  front : Nat
  final : Nat
  pickDue : Tick
  deriving DecidableEq, Repr

/-- The scheduler's timers of one sheet (R63, R69, R70): pick due, release due and late release, whether a late
release is pending on the arrival at LH, and the time of that arrival. -/
structure SheetTimers where
  pick : Option Tick
  release : Option Tick
  late : Option Tick
  latePending : Bool
  arrival : Option Tick
  deriving DecidableEq, Repr

/-- The slot scheduler's state (chapter 4). -/
structure Scheduler where
  grid : Option Grid
  admissionBounds : Option Bounds
  pickBounds : Option Bounds
  waitReason : WaitReason
  timers : Vector SheetTimers 16
  deriving DecidableEq, Repr

/-! ## Sheet tracker -/

/-- A live sheet (R76).  `resting` is the model's own mark of a sheet matched at LH as halted or in STOPPING, whose
cover R93 counts from its arrival. -/
structure Sheet where
  plan : PlanEntry
  pass : Nat
  frontSlot : Nat
  backSlot : Option Nat
  finalSlot : Nat
  state : SheetState
  leg : Option Stretch
  reference : Tick
  lastSensor : Option Sensor
  route : Option Route
  frontFaulted : Bool
  backFaulted : Bool
  broken : Bool
  halted : Bool
  covering : Bool
  coverStart : Tick
  resting : Bool
  deriving DecidableEq, Repr

/-- An expectation (R80, R81).  `armed` says that its expiry timer runs. -/
structure Expectation where
  item : Item
  opens : Tick
  closes : Tick
  coverMin : Nat
  coverMax : Nat
  armed : Bool
  deriving DecidableEq, Repr

/-- A sensor's record with its expectations (R79, R80).  The list is ordered by window open; a set expectation, which
the manual keeps in the sensor's set place, stands in the list at the place R80 gives it as a head. -/
structure SensorRecord where
  covered : Bool
  occupant : Occupant
  coverStart : Tick
  coverMin : Nat
  coverMax : Nat
  coverTimer : Option Tick
  expectations : List Expectation
  deriving DecidableEq, Repr

/-- The sheet tracker's state (chapter 5), with the current timing set its windows come from (R18). -/
structure Tracker where
  timing : Option TimingSet
  sheets : Vector (Option Sheet) 16
  sensors : Vector SensorRecord 15
  deriving DecidableEq, Repr

/-! ## Output unit -/

/-- A gate: position, holder with its cleared mark, and pending position with its pending holder (6.1, R104). -/
structure Gate (α : Type) where
  position : α
  holder : Option Handle
  cleared : Bool
  pending : Option (α × Handle)
  deriving DecidableEq, Repr

/-- A sheet held in the accumulator, a member or an overrun sheet (6.4). -/
structure Member where
  sequence : Nat
  statement : Nat
  k : Nat
  front : Option BufferNo
  back : Option BufferNo
  slot : Nat
  media : MediaClass
  faulted : Bool
  deriving DecidableEq, Repr

/-- The set record (6.4). -/
structure SetRecord where
  state : SetState
  copy : Option Copy
  n : Nat
  breakFlag : Bool
  members : List Member
  overruns : List Member
  broken : Bool
  condition : SetCondition
  destination : Option Destination
  arrived : Bool
  deriving DecidableEq, Repr

/-- A broken-copy record (R118). -/
structure BrokenCopy where
  copy : Copy
  mode : OutputMode
  withdrawalPending : Bool
  deriving DecidableEq, Repr

/-- The output unit's state (6.1). -/
structure OutputUnit where
  loopGate : Gate LoopPosition
  routeGate : Gate Route
  active : Stacker
  selection : Option Stacker
  latest : Option (Copy × Bool)
  committed : Option (Copy × Stacker)
  top1 : Option (Copy × Nat)
  top2 : Option (Copy × Nat)
  jog1 : JogLevel
  jog2 : JogLevel
  set : SetRecord
  broken : List BrokenCopy
  deriving DecidableEq, Repr

/-! ## Drive monitor -/

/-- The drive monitor's state and its two lines (R122). -/
structure Drive where
  state : DriveState
  current : SpeedCode
  target : SpeedCode
  count : Nat
  lastCount : Nat
  windowClose : Option Tick
  inBandRun : Nat
  deviationRun : Nat
  zeroRun : Nat
  lockDeadline : Option Tick
  enable : Bool
  speed : SpeedCode
  deriving DecidableEq, Repr

/-! ## Run controller -/

/-- A jam record (R136). -/
structure Jam where
  cause : Cause
  sensor : Option Sensor
  sequence : Option Nat
  setMark : Bool
  time : Tick
  secondary : Option (Cause × Option Sensor)
  multiple : Bool
  deriving DecidableEq, Repr

/-- The feed hold set (R68, R120). -/
structure FeedHolds where
  tray : Vector Bool 4
  operator : Bool
  stackersFull : Bool
  purgeFull : Bool
  deriving DecidableEq, Repr

/-- The command being run (R153): its code once read, its operands as fetched, and OVERRUN. -/
structure RunningCommand where
  code : Option CommandCode
  operand1 : Word
  operand2 : Word
  operand3 : Word
  overrun : Bool
  deriving DecidableEq, Repr

/-- The run controller's state (R131, R136, R153). -/
structure RunControl where
  state : RunState
  holds : FeedHolds
  jam : Option Jam
  lastJam : Option Jam
  graceDeadline : Option Tick
  clearanceMark : Bool
  outstanding : Nat
  drainTarget : Option SpeedCode
  changeStatus : ChangeStatus
  command : CommandState
  running : Option RunningCommand
  deriving DecidableEq, Repr

/-! ## Log writer and attention -/

/-- What every disposition record carries (R172). -/
structure Disposition where
  sequence : Nat
  statement : Nat
  k : Nat
  slot : Nat
  deriving DecidableEq, Repr

/-- The kinds of log record with their fields (R172). -/
inductive LogBody where
  | delivered (d : Disposition) (k : Stacker)
  | dumped (d : Disposition)
  | purged (d : Disposition)
  | stranded (d : Disposition) (last : Option Sensor)
  | withdrawn (d : Disposition)
  | jam (j : Jam)
  | topNotice (statement : Nat) (k : Stacker) (count : Nat)
  | stackerSwitch (old new : Stacker) (reason : SwitchReason)
  | speedSet (old new : SpeedCode)
  deriving DecidableEq, Repr

/-- A log record before it is given its index (R172). -/
structure LogRecord where
  time : Tick
  body : LogBody
  deriving DecidableEq, Repr

/-- The log writer's state (R168). `waiting` holds the records handed over and not yet taken, and `inFlight` the record
taken, with its index. A record in flight is not yet written, so it is still one of the pending list, which
`LogWriter.pendingList` gives. (DEDUCED, notes/assumptions/50.md.) -/
structure LogWriter where
  producer : Word
  consumer : Word
  waiting : List LogRecord
  inFlight : Option (Word × LogRecord)
  overrun : Bool
  deriving DecidableEq, Repr

/-- The E attention summary (R174). -/
structure ESummary where
  commandDone : Bool
  stop : Bool
  speedChangeEnd : Bool
  logRecord : Bool
  logOverrun : Bool
  capture : Bool
  deriving DecidableEq, Repr

/-- The P attention summary (R174). -/
structure PSummary where
  bufferAvailable : Bool
  capture : Bool
  deriving DecidableEq, Repr

/-- The attention summaries and their two lines (R174). -/
structure Attention where
  e : ESummary
  p : PSummary
  lineE : Bool
  lineP : Bool
  deriving DecidableEq, Repr

/-! ## Memory junction -/

/-- What the agent writes into a plan slot's commit word (R22). -/
inductive PlanAnswer where
  | taken
  | refused (code : PlanRefusal)
  | released
  deriving DecidableEq, Repr

/-- What the agent writes into a tag slot's commit word (R45, R46, R47). -/
inductive TagAnswer where
  | taken | refusedState | refusedFormat
  deriving DecidableEq, Repr

/-- The record operations (R184).  An anchor operation passes through `anchorRun`, `configRead` and `anchorResult`
as its parts are done; a BUSY answer and a deactivation's DONE are `anchorResult` alone. -/
inductive RecordOp where
  | planFetch (slot : Nat)
  | planWrite (slot : Nat) (answer : PlanAnswer)
  | tagFetch (b : BufferNo)
  | tagWrite (b : BufferNo) (answer : TagAnswer)
  | commandOp (abandoned : Bool)
  | commandFinish (result : Word)
  | commandAbandon
  | logWrite (index : Word) (r : LogRecord)
  | anchorRun (reconfigure : Bool)
  | configRead (reconfigure : Bool) (format : Word) (address : Word)
  | anchorResult (result : Word)
  deriving DecidableEq, Repr

/-- An event the junction delivers at the completion of an access (R181, R185). -/
inductive PortEvent where
  | commit (slot : Fin 256)
  | tagCommit (b : BufferNo)
  | code
  | consumer (data : Word) (mask : BitVec 4)
  | anchor (v : ActivateValue)
  deriving DecidableEq, Repr

/-- An upstream access that has been judged to reach memory and has not completed (R177): the bytes it will write and
the events it will carry, both fixed when it was taken (R186). -/
structure InFlight where
  access : Access
  bytes : List Host.Cell
  events : List PortEvent
  deriving DecidableEq, Repr

/-- The response to an upstream access (00_scope, Port responses). -/
structure Response where
  okay : Bool
  data : List Byte
  deriving DecidableEq, Repr

/-- The capture latch when it is FULL (R183). -/
structure Capture where
  address : BitVec 28
  port : Port
  write : Bool
  cause : CaptureCause
  more : Bool
  deriving DecidableEq, Repr

/-- The memory junction's state (chapter 11).  `holder` holds the M-port; the agent's operation in progress is the
head of `agentQueue` while the agent is the holder. -/
structure Junction where
  arbiter : ArbiterMode
  rotation : Requester
  holder : Option Requester
  accessE : Option InFlight
  accessP : Option InFlight
  responseE : Option Response
  responseP : Option Response
  guardOn : Bool
  latch : Option Capture
  anchorFlag : Bool
  lastResult : Word
  agentQueue : List RecordOp
  deriving DecidableEq, Repr

/-! ## The lines read -/

/-- The levels of the lines the part reads, the sensor lines apart (they are the `covered` fields). -/
structure Lines where
  trayEmpty : Vector Bool 4
  stackerFull1 : Bool
  stackerFull2 : Bool
  purgeFull : Bool
  coverOpen : Bool
  imageFault : Bool
  deriving DecidableEq, Repr

/-! ## The state -/

/-- The state of the block.  `config` is none in PASS-ALL and the configuration in force in WINDOWED.  `memory` is the
statement memory behind the M-port, as (address, byte) pairs in rising address order.  `pulses` are the pulses of the
step just made, `freeCount` the model's own counter of free values, and `pending` the queue of waiting commands. -/
structure State where
  tick : Tick
  config : Option Configuration
  lines : Lines
  memory : List Host.Cell
  junction : Junction
  plan : PlanIntake
  buffers : Residency
  scheduler : Scheduler
  tracker : Tracker
  output : OutputUnit
  drive : Drive
  run : RunControl
  log : LogWriter
  attention : Attention
  pulses : List Pulse
  freeCount : Nat
  pending : List Instr
  deriving DecidableEq, Repr

/-! ## POWER RESET values -/

/-- A FREE buffer entry (R39). -/
def Buffer.free : Buffer := ⟨.free, none, 0, false, false⟩

/-- No timer of a sheet (R57). -/
def SheetTimers.none : SheetTimers := ⟨Option.none, Option.none, Option.none, false, Option.none⟩

/-- A clear sensor with nothing expected (R79, R80). -/
def SensorRecord.clear : SensorRecord := ⟨false, .none, 0, 0, 0, none, []⟩

/-- The EMPTY set (R102, R113). -/
def SetRecord.empty : SetRecord := ⟨.empty, none, 0, false, [], [], false, .sound, none, false⟩

/-- Plan intake after POWER RESET (R19, R38). -/
def PlanIntake.reset : PlanIntake := ⟨[], [], 0, none⟩

/-- The residency table after POWER RESET (R39). -/
def Residency.reset : Residency := ⟨Vector.replicate 64 Buffer.free, false⟩

/-- The scheduler after POWER RESET (R57, R60, R65). -/
def Scheduler.reset : Scheduler := ⟨none, none, none, .notRunning, Vector.replicate 16 SheetTimers.none⟩

/-- The tracker after POWER RESET with every sensor clear (R18, R76, R79, R80). -/
def Tracker.reset : Tracker := ⟨none, Vector.replicate 16 none, Vector.replicate 15 SensorRecord.clear⟩

/-- The output unit after POWER RESET (R102). -/
def OutputUnit.reset : OutputUnit :=
  ⟨⟨.out, none, false, none⟩, ⟨.accumulate, none, false, none⟩, .k1, none, none, none, none, none, .home, .home,
    SetRecord.empty, []⟩

/-- The drive monitor after POWER RESET (R122). -/
def Drive.reset : Drive := ⟨.off, 0, 0, 0, 0, none, 0, 0, 0, none, false, 0⟩

/-- No feed hold (R68). -/
def FeedHolds.empty : FeedHolds := ⟨Vector.replicate 4 false, false, false, false⟩

/-- The run controller after POWER RESET (R131, R136, R153). -/
def RunControl.reset : RunControl :=
  ⟨.inactive, FeedHolds.empty, none, none, none, false, 0, none, .none, .idle, none⟩

/-- The log writer after POWER RESET (R168). -/
def LogWriter.reset : LogWriter := ⟨0, 0, [], none, false⟩

/-- An empty E summary (R176). -/
def ESummary.empty : ESummary := ⟨false, false, false, false, false, false⟩

/-- An empty P summary (R176). -/
def PSummary.empty : PSummary := ⟨false, false⟩

/-- Both summaries empty and both lines low (R176). -/
def Attention.reset : Attention := ⟨ESummary.empty, PSummary.empty, false, false⟩

/-- The junction after POWER RESET (R178, R180, R183, R184, R185, R187, R194). -/
def Junction.reset : Junction :=
  ⟨.rotating, .E, none, none, none, none, none, true, none, false, 0, []⟩

/-- Every line deasserted (notes/assumptions/1.md: the manual gives the lines no level at reset). -/
def Lines.low : Lines := ⟨Vector.replicate 4 false, false, false, false, false, false⟩

/-- The machine right after POWER RESET, with every line the part reads deasserted and no memory listed
(notes/assumptions/1.md). -/
def State.reset : State where
  tick := 0
  config := none
  lines := Lines.low
  memory := []
  junction := Junction.reset
  plan := PlanIntake.reset
  buffers := Residency.reset
  scheduler := Scheduler.reset
  tracker := Tracker.reset
  output := OutputUnit.reset
  drive := Drive.reset
  run := RunControl.reset
  log := LogWriter.reset
  attention := Attention.reset
  pulses := []
  freeCount := 0
  pending := []

end Sys2Proof.Machine
end

