-- ==== Sys2Proof/Machine/Update.lean ====
section
/-! DEFINITION. The updates of the state, one per field: every operation changes the state through these, so that its
frame can be read off block by block. -/

namespace Sys2Proof.Machine

/-- The state with `tick` replaced. -/
def State.setTick (s : State) (x : Tick) : State := { s with tick := x }

/-- The state with `config` replaced. -/
def State.setConfig (s : State) (x : Option Configuration) : State := { s with config := x }

/-- The state with `lines` replaced. -/
def State.setLines (s : State) (x : Lines) : State := { s with lines := x }

/-- The state with `memory` replaced. -/
def State.setMemory (s : State) (x : List Host.Cell) : State := { s with memory := x }

/-- The state with `junction` replaced. -/
def State.setJunction (s : State) (x : Junction) : State := { s with junction := x }

/-- The state with `plan` replaced. -/
def State.setPlan (s : State) (x : PlanIntake) : State := { s with plan := x }

/-- The state with `buffers` replaced. -/
def State.setBuffers (s : State) (x : Residency) : State := { s with buffers := x }

/-- The state with `scheduler` replaced. -/
def State.setScheduler (s : State) (x : Scheduler) : State := { s with scheduler := x }

/-- The state with `tracker` replaced. -/
def State.setTracker (s : State) (x : Tracker) : State := { s with tracker := x }

/-- The state with `output` replaced. -/
def State.setOutput (s : State) (x : OutputUnit) : State := { s with output := x }

/-- The state with `drive` replaced. -/
def State.setDrive (s : State) (x : Drive) : State := { s with drive := x }

/-- The state with `run` replaced. -/
def State.setRun (s : State) (x : RunControl) : State := { s with run := x }

/-- The state with `log` replaced. -/
def State.setLog (s : State) (x : LogWriter) : State := { s with log := x }

/-- The state with `attention` replaced. -/
def State.setAttention (s : State) (x : Attention) : State := { s with attention := x }

/-- The state with `pulses` replaced. -/
def State.setPulses (s : State) (x : List Pulse) : State := { s with pulses := x }

/-- The state with `freeCount` replaced. -/
def State.setFreeCount (s : State) (x : Nat) : State := { s with freeCount := x }

/-- The state with `pending` replaced. -/
def State.setPending (s : State) (x : List Instr) : State := { s with pending := x }

/-- How every command begins: the pulses of the step before are over, and the counter of free values advances. (DESIGN
CHOICE, notes/assumptions/27.md and 29.md.) -/
def State.begin (s : State) : State := (s.setPulses []).setFreeCount (s.freeCount + 1)

/-- A pulse is issued on a line. -/
def State.pulse (s : State) (p : Pulse) : State := s.setPulses (s.pulses ++ [p])

end Sys2Proof.Machine
end

