-- ==== Sys2Proof/Machine/Memory.lean ====
section
/-! DEFINITION. The statement memory: reads and writes of a byte, and the little-endian fields built from them
(00_scope, Memory; chapter 12). -/

namespace Sys2Proof.Machine

/-- What a byte of memory that nothing has written reads as (DESIGN CHOICE, notes/assumptions/1.md). -/
def Memory.blank : Byte := 0

/-- The byte at an address. -/
def Memory.read : List Host.Cell → Nat → Byte
  | [], _ => Memory.blank
  | (k, v) :: m, a => if k = a then v else Memory.read m a

/-- The memory with one byte written, in canonical form: rising addresses, no entry equal to a blank byte. -/
def Memory.write : List Host.Cell → Nat → Byte → List Host.Cell
  | [], a, v => if v = Memory.blank then [] else [(a, v)]
  | (k, w) :: m, a, v =>
    if a < k then (if v = Memory.blank then (k, w) :: m else (a, v) :: (k, w) :: m)
    else if a = k then (if v = Memory.blank then m else (a, v) :: m)
    else (k, w) :: Memory.write m a v

/-- Every address of the list is above `b`, the addresses rise, and no byte is blank. -/
def Memory.wfAbove : Nat → List Host.Cell → Bool
  | _, [] => true
  | b, (k, v) :: m => decide (b ≤ k) && decide (v ≠ Memory.blank) && Memory.wfAbove (k + 1) m

/-- The canonical form of memory. -/
def Memory.wf (m : List Host.Cell) : Bool := Memory.wfAbove 0 m

/-- The memory with several bytes written, in the order given. -/
def Memory.writeAll : List Host.Cell → List Host.Cell → List Host.Cell
  | m, [] => m
  | m, (a, v) :: cs => Memory.writeAll (Memory.write m a v) cs

/-- `n` bytes from an address up. -/
def Memory.bytes (m : List Host.Cell) (a : Nat) : Nat → List Byte
  | 0 => []
  | n + 1 => Memory.read m a :: Memory.bytes m (a + 1) n

/-- Bytes laid out from an address up. -/
def layOut (a : Nat) : List Byte → List Host.Cell
  | [] => []
  | v :: vs => (a, v) :: layOut (a + 1) vs

/-- The number little-endian bytes stand for. -/
def littleEndian : List Byte → Nat
  | [] => 0
  | b :: bs => b.toNat + 256 * littleEndian bs

/-- The `n` little-endian bytes of a number. -/
def toBytes : Nat → Nat → List Byte
  | 0, _ => []
  | n + 1, x => BitVec.ofNat 8 x :: toBytes n (x / 256)

/-- A byte field as a number. -/
def Memory.byte (m : List Host.Cell) (a : Nat) : Nat := (Memory.read m a).toNat

/-- A halfword field as a number. -/
def Memory.half (m : List Host.Cell) (a : Nat) : Nat := littleEndian (Memory.bytes m a 2)

/-- A word field as a number. -/
def Memory.wordNat (m : List Host.Cell) (a : Nat) : Nat := littleEndian (Memory.bytes m a 4)

/-- A word field. -/
def Memory.word (m : List Host.Cell) (a : Nat) : Word := BitVec.ofNat 32 (Memory.wordNat m a)

/-- A flag byte, read by its bit 0 (R188). -/
def Memory.flag (m : List Host.Cell) (a : Nat) : Bool := Memory.byte m a % 2 == 1

/-- The memory with a word written. -/
def Memory.writeWord (m : List Host.Cell) (a : Nat) (w : Word) : List Host.Cell :=
  Memory.writeAll m (layOut a (toBytes 4 w.toNat))

end Sys2Proof.Machine
end

