-- ==== Sys2Proof/Machine/Travel.lean ====
section
/-! DEFINITION. Chapter 1: the topology of the path and the travel arithmetic, from leg travel to timing sets. -/

namespace Sys2Proof.Machine

/-! ## Topology (R3) -/

/-- Leg `t` of tray `t` (legs 1 to 4). -/
def trayLeg (t : Tray) : Leg := ⟨t.val, by omega⟩

/-- Leg 5, MG to RG. -/
def legMgRg : Leg := 4
/-- Leg 6, RG to TR. -/
def legRgTr : Leg := 5
/-- Leg 7, TR to FX. -/
def legTrFx : Leg := 6
/-- Leg 8, FX to LI. -/
def legFxLi : Leg := 7
/-- Leg 9, LI to LH. -/
def legLiLh : Leg := 8
/-- Leg 10, LH to MG. -/
def legLhMg : Leg := 9
/-- Leg 11, FX to XO. -/
def legFxXo : Leg := 10
/-- Leg 12, XO to AC. -/
def legXoAc : Leg := 11
/-- Leg 13, XO to K1. -/
def legXoK1 : Leg := 12
/-- Leg 14, XO to K2. -/
def legXoK2 : Leg := 13
/-- Leg 15, XO to PB. -/
def legXoPb : Leg := 14
/-- Leg 16, AC to K1. -/
def legAcK1 : Leg := 15
/-- Leg 17, AC to K2. -/
def legAcK2 : Leg := 16
/-- Leg 18, AC to PB. -/
def legAcPb : Leg := 17

/-- The sensor just after the pick roller of a tray. -/
def traySensor : Tray → Sensor
  | 0 => .F1
  | 1 => .F2
  | 2 => .F3
  | 3 => .F4

/-- The sensors the legs 1 to 18 start from (R3). -/
def legStarts : Vector Sensor 18 :=
  #v[.F1, .F2, .F3, .F4, .MG, .RG, .TR, .FX, .LI, .LH, .FX, .XO, .XO, .XO, .XO, .AC, .AC, .AC]

/-- The sensors the legs 1 to 18 end at (R3). -/
def legEnds : Vector Sensor 18 :=
  #v[.MG, .MG, .MG, .MG, .RG, .TR, .FX, .LI, .LH, .MG, .XO, .AC, .K1, .K2, .PB, .K1, .K2, .PB]

/-- The sensor a leg starts from (R3). -/
def legFrom (l : Leg) : Sensor := legStarts[l]

/-- The sensor a leg ends at (R3). -/
def legTo (l : Leg) : Sensor := legEnds[l]

/-- The sensor a stretch ends at (R4). -/
def Stretch.dest : Stretch → Sensor
  | .pick t => traySensor t
  | .leg l => legTo l

/-- The leg from XO that a route takes (R86). -/
def Route.leg : Route → Leg
  | .accumulate => legXoAc
  | .k1 => legXoK1
  | .k2 => legXoK2
  | .purge => legXoPb

/-- The destination sensor of a route (R78). -/
def Route.sensor : Route → Sensor
  | .accumulate => .AC
  | .k1 => .K1
  | .k2 => .K2
  | .purge => .PB

/-- The eject leg to a destination (R3). -/
def Destination.leg : Destination → Leg
  | .k1 => legAcK1
  | .k2 => legAcK2
  | .purge => legAcPb

/-- The entry sensor of a destination. -/
def Destination.sensor : Destination → Sensor
  | .k1 => .K1
  | .k2 => .K2
  | .purge => .PB

/-- The other stacker. -/
def Stacker.other : Stacker → Stacker
  | .k1 => .k2
  | .k2 => .k1

/-- A stacker as a destination. -/
def Stacker.destination : Stacker → Destination
  | .k1 => .k1
  | .k2 => .k2

/-- A stacker as a route. -/
def Stacker.route : Stacker → Route
  | .k1 => .k1
  | .k2 => .k2

/-! ## Travel, margins and cover (R7 to R12) -/

/-- The nominal travel of a length at a drive speed and a speed factor (R7). -/
def nominal (length speed factor : Nat) : Nat :=
  (length * 2560000 + speed * factor / 2) / (speed * factor)

/-- A nominal travel with its margins (R8). -/
def withMargins (c : Configuration) (n : Nat) : StretchTime :=
  ⟨n, n * c.earlyRatio / 256 + c.earlyFixed, n * c.lateRatio / 256 + c.lateFixed⟩

/-- The close of a stretch: nominal plus late margin (R8). -/
def StretchTime.close (t : StretchTime) : Nat := t.nominal + t.late

/-- When the arrival window opens after its reference (R9). -/
def StretchTime.openAfter (t : StretchTime) : Nat := max 1 (t.nominal - t.early)

/-- The travel of a leg at a drive speed. -/
def legTime (c : Configuration) (v : Nat) (l : Leg) : StretchTime :=
  withMargins c (nominal c.legs[l].length v c.legs[l].factor)

/-- The cover limits of a length at a drive speed and a speed factor (R11). -/
def coverLimits (c : Configuration) (v length factor : Nat) : CoverLimits :=
  let n := nominal length v factor
  let m := n * c.coverRatio / 256 + c.coverFixed
  ⟨max 1 (n - m), n + m⟩

/-- The media class with the greatest length among a list of classes (R6, R12); class `d` for an empty list. -/
def longestOf (c : Configuration) (d : MediaClass) : List MediaClass → MediaClass
  | [] => d
  | m :: ms => longestOf c (if c.mediaLength[d] < c.mediaLength[m] then m else d) ms

/-- The longest media class (R6). -/
def longestMedia (c : Configuration) : MediaClass := longestOf c 0 [1, 2, 3]

/-! ## Pitch, leads, loop pitches, set gap (R13 to R16) -/

/-- The pitch (R13). -/
def pitchOf (c : Configuration) (v : Nat) : Nat := nominal c.pitchLength v 256

/-- The lead of a tray (R14). -/
def leadOf (c : Configuration) (v : Nat) (t : Tray) : Nat :=
  c.pickDelay[t] + (legTime c v (trayLeg t)).nominal + (legTime c v legMgRg).nominal + (legTime c v legRgTr).nominal

/-- The return lead (R14). -/
def returnLeadOf (c : Configuration) (v : Nat) : Nat :=
  (legTime c v legLhMg).nominal + (legTime c v legMgRg).nominal + (legTime c v legRgTr).nominal

/-- Cover max of the longest media class at the factor of a leg. -/
def longestCover (c : Configuration) (v : Nat) (l : Leg) : Nat :=
  (coverLimits c v c.mediaLength[longestMedia c] c.legs[l].factor).max

/-- The loop sum (R15). -/
def loopSum (c : Configuration) (v : Nat) : Nat :=
  (legTime c v legRgTr).late + (legTime c v legTrFx).close + (legTime c v legFxLi).close + longestCover c v legFxLi
    + (legTime c v legLiLh).close + c.minimumDwell + (legTime c v legLhMg).nominal + (legTime c v legMgRg).nominal
    + (legTime c v legRgTr).nominal

/-- The loop pitches Lp (R15). -/
def loopPitchesOf (c : Configuration) (v : Nat) : Nat := ceilDiv (loopSum c v) (pitchOf c v)

/-- The eject total of an eject leg (R16). -/
def ejectTotal (c : Configuration) (v : Nat) (l : Leg) : Nat := (legTime c v l).close + longestCover c v l

/-- The set gap Ge (R16). -/
def setGapOf (c : Configuration) (v : Nat) : Nat :=
  1 + ceilDiv (max (ejectTotal c v legAcK1) (max (ejectTotal c v legAcK2) (ejectTotal c v legAcPb))) (pitchOf c v)

/-- The expected encoder count at a speed (R124). -/
def encoderCountOf (c : Configuration) (v : Nat) : Nat := v * c.encoderPerMm / 100

/-! ## Timing sets (1.9) -/

/-- The timing set of a speed code. -/
def timingSet (c : Configuration) (code : SpeedCode) : TimingSet :=
  let v := c.speed[code]
  { code := code
    legs := tabulate 18 (legTime c v)
    picks := tabulate 4 (fun t => withMargins c c.pickDelay[t])
    pickCover := tabulate 4 (fun m => coverLimits c v c.mediaLength[m] 256)
    cover := tabulate 4 (fun m => tabulate 18 (fun l => coverLimits c v c.mediaLength[m] c.legs[l].factor))
    pitch := pitchOf c v
    lead := tabulate 4 (leadOf c v)
    returnLead := returnLeadOf c v
    loopPitches := loopPitchesOf c v
    setGap := setGapOf c v
    encoderCount := encoderCountOf c v }

/-- The travel of a stretch in a timing set. -/
def TimingSet.time (t : TimingSet) : Stretch → StretchTime
  | .pick tr => t.picks[tr]
  | .leg l => t.legs[l]

/-- The cover limits of a media class at the end of a stretch (R5, R11, R12). -/
def TimingSet.coverAt (t : TimingSet) (m : MediaClass) : Stretch → CoverLimits
  | .pick _ => t.pickCover[m]
  | .leg l => t.cover[m][l]

/-- The timing check of one speed code (R17): the four checks in order, as one condition. -/
def timingPasses (c : Configuration) (code : SpeedCode) : Bool :=
  let v := c.speed[code]
  decide (c.mediaLength[longestMedia c] + c.minimumGap ≤ c.pitchLength)
    && decide (1 ≤ loopPitchesOf c v) && decide (loopPitchesOf c v ≤ 24)
    && decide (2 ≤ setGapOf c v) && decide (setGapOf c v ≤ 8)
    && decide (8 ≤ encoderCountOf c v)

/-- The first speed code that fails the timing check (R17). -/
def timingFailure (c : Configuration) : Option SpeedCode := firstIndex 8 (fun code => !timingPasses c code)

end Sys2Proof.Machine
end

