-- ==== Sys2Proof/Machine/Formats.lean ====
section
/-! DEFINITION. Chapter 12: the codes of states, causes and results, the records the agent fetches and writes, and
the configuration record with its validation (R186, R188 to R193). -/

namespace Sys2Proof.Machine

/-! ## Codes -/

/-- The run state codes (R191). -/
def RunState.code : RunState → Nat
  | .inactive => 0 | .idle => 1 | .starting => 2 | .running => 3 | .draining => 4
  | .respeed => 5 | .stopping => 6 | .stopped => 7 | .clearing => 8

/-- The cause codes (R192). -/
def Cause.code : Cause → Nat
  | .stray => 1 | .early => 2 | .late => 3 | .short => 4 | .stall => 5 | .holdCollision => 6
  | .accumulatorCollision => 7 | .coverOpen => 8 | .driveLoss => 9 | .driveDeviation => 10
  | .operator => 11 | .engineReset => 12

/-- A sensor's place in the sensor table, 0 to 14. -/
def Sensor.index : Sensor → Fin 15
  | .F1 => 0 | .F2 => 1 | .F3 => 2 | .F4 => 3 | .MG => 4 | .RG => 5 | .TR => 6 | .FX => 7
  | .LI => 8 | .LH => 9 | .XO => 10 | .AC => 11 | .K1 => 12 | .K2 => 13 | .PB => 14

/-- The sensors in code order (R192). -/
def Sensor.all : List Sensor := [.F1, .F2, .F3, .F4, .MG, .RG, .TR, .FX, .LI, .LH, .XO, .AC, .K1, .K2, .PB]

/-- The sensor codes 1 to 15 (R192). -/
def Sensor.code (s : Sensor) : Nat := s.index.val + 1

/-- A sensor's code, 0 for none. -/
def sensorCode : Option Sensor → Nat
  | none => 0
  | some s => s.code

/-- The command codes (R190). -/
def CommandCode.code : CommandCode → Nat
  | .start => 1 | .stop => 2 | .pauseFeed => 3 | .resumeFeed => 4 | .changeSpeed => 5 | .cancelSpeedChange => 6
  | .halt => 7 | .clear => 8 | .withdraw => 9 | .releaseBuffer => 10 | .reclaimBuffer => 11 | .guardOn => 12
  | .guardOff => 13 | .selectStacker => 14

/-- The command a code word names (R190). -/
def CommandCode.ofWord (w : Word) : Option CommandCode :=
  [CommandCode.start, .stop, .pauseFeed, .resumeFeed, .changeSpeed, .cancelSpeedChange, .halt, .clear, .withdraw,
    .releaseBuffer, .reclaimBuffer, .guardOn, .guardOff, .selectStacker].find? (fun c => c.code == w.toNat)

/-- The result codes (R190). -/
def ResultCode.code : ResultCode → Nat
  | .done => 1 | .redundant => 2 | .refusedState => 3 | .badOperand => 4 | .notClear => 5 | .inUse => 6
  | .busy => 7 | .cancelled => 8 | .failed => 9

/-- The plan refusal codes (R24). -/
def PlanRefusal.code : PlanRefusal → Nat
  | .sequence => 1 | .field => 2 | .sides => 3 | .buffer => 4 | .identity => 5 | .continuity => 6

/-- The buffer state codes (R191). -/
def BufferState.code : BufferState → Nat
  | .free => 0 | .filling => 1 | .closing => 2 | .held => 3

/-- The stacker codes (R192). -/
def Stacker.code : Stacker → Nat
  | .k1 => 1 | .k2 => 2

/-- The destination codes (R192). -/
def Destination.code : Destination → Nat
  | .k1 => 1 | .k2 => 2 | .purge => 3

/-- The STACKER SWITCH reason codes (R192). -/
def SwitchReason.code : SwitchReason → Nat
  | .selected => 1 | .breakFlag => 2 | .full => 3 | .setPending => 4

/-- 1 for a set flag, 0 for a clear one. -/
def flagCode (b : Bool) : Nat := if b then 1 else 0

/-! ## Words the part writes -/

/-- The commit word of a plan slot (R22, R189). -/
def PlanAnswer.word : PlanAnswer → Word
  | .taken => 2
  | .refused c => BitVec.ofNat 32 (3 + 256 * c.code)
  | .released => 0

/-- The commit word of a tag slot (R45, R46, R47, R189). -/
def TagAnswer.word : TagAnswer → Word
  | .taken => 2
  | .refusedState => BitVec.ofNat 32 (3 + 256 * 7)
  | .refusedFormat => BitVec.ofNat 32 (3 + 256 * 8)

/-- The result word of a command: result code, OVERRUN, detail (R190). -/
def resultWord (r : ResultCode) (overrun : Bool) (detail : Nat) : Word :=
  BitVec.ofNat 32 (r.code + 256 * flagCode overrun + 65536 * detail)

/-- The detail of a stop cause or an interrupting cause (R191). -/
def Cause.detail (c : Cause) : Nat := 0x100 + c.code

/-- The RESULT word of an anchor operation: code and detail (R193). -/
def anchorWord (code detail : Nat) : Word := BitVec.ofNat 32 (code + 256 * detail)

/-- RESULT codes (R193). -/
def anchorInProgress : Nat := 1
/-- RESULT DONE (R193). -/
def anchorDone : Nat := 2
/-- RESULT BLANK (R193). -/
def anchorBlank : Nat := 3
/-- RESULT BUSY (R193). -/
def anchorBusy : Nat := 4

/-! ## Windows -/

/-- The size of a window in bytes. -/
def Descriptor.bytes (d : Descriptor) : Nat := 2 ^ d.sizeLog2

/-- The window contains an address (R179). -/
def Descriptor.contains (d : Descriptor) (a : Nat) : Bool := d.enabled && decide (d.base ≤ a) && decide (a < d.base + d.bytes)

/-- The window admits a read or a write by a port (R179). -/
def Descriptor.admits (d : Descriptor) (p : Port) (write : Bool) : Bool :=
  match p, write with
  | .E, false => d.eReads
  | .P, false => d.pReads
  | .E, true => d.eWrites
  | .P, true => d.pWrites

/-- The base of the enabled window of a kind; an accepted configuration has exactly one of each special kind (R186). -/
def Configuration.windowBase (c : Configuration) (k : WindowKind) : Nat :=
  match c.descriptors.toList.find? (fun d => d.enabled && d.kind == some k) with
  | some d => d.base
  | none => 0

/-! ## Addresses of the structures in memory -/

/-- The first address of the anchor (R193). -/
def anchorBase : Nat := 0xFFFFF00

/-- Plan slot `i` (2.1). -/
def planSlotAddress (c : Configuration) (i : Nat) : Nat := c.windowBase .plan + 32 * i

/-- Tag slot `b` (R39). -/
def tagSlotAddress (c : Configuration) (b : BufferNo) : Nat := c.windowBase .tag + 16 * b.val

/-- The command block (R190). -/
def commandBlock (c : Configuration) : Nat := c.windowBase .command

/-- The position of the log record with an index (R168). -/
def logPosition (c : Configuration) (index : Word) : Nat :=
  c.windowBase .log + 64 + 32 * (index.toNat % c.logEntries)

/-! ## Plan slots and tag slots (R189) -/

/-- The fields of a fetched plan slot, each as the whole byte, halfword or word it occupies (R188, R189). -/
structure PlanRecord where
  sequence : Nat
  statement : Nat
  k : Nat
  n : Nat
  tray : Nat
  media : Nat
  sides : Nat
  breakFlag : Bool
  front : Nat
  back : Nat
  deriving DecidableEq, Repr

/-- The plan record at an address (R189). -/
def readPlanRecord (m : List Host.Cell) (a : Nat) : PlanRecord :=
  ⟨Memory.wordNat m a, Memory.wordNat m (a + 4), Memory.half m (a + 8), Memory.half m (a + 10),
    Memory.byte m (a + 12), Memory.byte m (a + 13), Memory.byte m (a + 14), Memory.flag m (a + 15),
    Memory.byte m (a + 16), Memory.byte m (a + 17)⟩

/-- A buffer field: 0xFF is NONE (R189). -/
def isNamed (b : Nat) : Bool := b != 0xFF

/-- The buffer number of a field already checked, or none (R189). -/
def bufferField (b : Nat) : Option BufferNo := if h : b < 64 then some ⟨b, h⟩ else none

/-- The fields of a fetched tag slot (R189). -/
structure TagRecord where
  statement : Nat
  sheet : Nat
  side : Nat
  persistent : Bool
  deriving DecidableEq, Repr

/-- The tag record at an address (R189). -/
def readTagRecord (m : List Host.Cell) (a : Nat) : TagRecord :=
  ⟨Memory.wordNat m a, Memory.half m (a + 4), Memory.byte m (a + 6), Memory.flag m (a + 7)⟩

/-- The tag a record gives when it has one of the two forms of R46. -/
def TagRecord.tag (r : TagRecord) : Option Tag :=
  if r.persistent then
    if r.statement = 0 ∧ r.sheet = 0 ∧ r.side = 3 then some ⟨0, 0, .any⟩ else none
  else if r.statement = 0 ∨ r.sheet = 0 ∨ 1023 < r.sheet then none
  else if r.side = 1 then some ⟨r.statement, r.sheet, .front⟩
  else if r.side = 2 then some ⟨r.statement, r.sheet, .back⟩
  else none

/-! ## Log records (R192) -/

/-- A disposition record is one that R171 never discards. -/
def LogBody.disposition : LogBody → Option Disposition
  | .delivered d _ => some d
  | .dumped d => some d
  | .purged d => some d
  | .stranded d _ => some d
  | .withdrawn d => some d
  | .jam _ => none
  | .topNotice _ _ _ => none
  | .stackerSwitch _ _ _ => none
  | .speedSet _ _ => none

/-- An event record, which may be discarded (R171). -/
def LogBody.isEvent (b : LogBody) : Bool := b.disposition.isNone

/-- A STRANDED record, every one of which a CLEAR hands over (R172). -/
def LogBody.isStranded : LogBody → Bool
  | .stranded _ _ => true
  | _ => false

/-- The record kind codes (R192). -/
def LogBody.kind : LogBody → Nat
  | .delivered _ _ => 1 | .dumped _ => 2 | .purged _ => 3 | .stranded _ _ => 4 | .withdrawn _ => 5
  | .jam _ => 6 | .topNotice _ _ _ => 7 | .stackerSwitch _ _ _ => 8 | .speedSet _ _ => 9

/-- The bytes 12 to 31 of a disposition record. -/
def dispositionBytes (d : Disposition) (destination last : Nat) : List Byte :=
  toBytes 4 d.sequence ++ toBytes 4 d.statement ++ toBytes 2 d.k ++ toBytes 1 d.slot ++ toBytes 1 destination
    ++ toBytes 1 last ++ toBytes 7 0

/-- The flags of a JAM record: set mark and MULTIPLE (R192). -/
def Jam.flags (j : Jam) : Nat := flagCode j.setMark + 2 * flagCode j.multiple

/-- The secondary cause code of a JAM record, 0 for none. -/
def Jam.secondaryCause (j : Jam) : Nat :=
  match j.secondary with
  | none => 0
  | some (c, _) => c.code

/-- The secondary sensor code of a JAM record, 0 for none. -/
def Jam.secondarySensor (j : Jam) : Nat :=
  match j.secondary with
  | none => 0
  | some (_, s) => sensorCode s

/-- The bytes 9 to 31 of a log record (R192). -/
def LogBody.bytes : LogBody → List Byte
  | .delivered d k => toBytes 3 0 ++ dispositionBytes d k.code 0
  | .dumped d => toBytes 3 0 ++ dispositionBytes d 3 0
  | .purged d => toBytes 3 0 ++ dispositionBytes d 3 0
  | .stranded d last => toBytes 3 0 ++ dispositionBytes d 0 (sensorCode last)
  | .withdrawn d => toBytes 3 0 ++ dispositionBytes d 0 0
  | .jam j =>
    toBytes 1 j.cause.code ++ toBytes 1 (sensorCode j.sensor) ++ toBytes 1 j.flags ++ toBytes 4 (j.sequence.getD 0)
      ++ toBytes 8 0 ++ toBytes 1 j.secondaryCause ++ toBytes 1 j.secondarySensor ++ toBytes 6 0
  | .topNotice st k n =>
    toBytes 7 0 ++ toBytes 4 st ++ toBytes 2 n ++ toBytes 1 0 ++ toBytes 1 k.code ++ toBytes 8 0
  | .stackerSwitch old new r =>
    toBytes 15 0 ++ toBytes 1 old.code ++ toBytes 1 new.code ++ toBytes 1 r.code ++ toBytes 5 0
  | .speedSet old new => toBytes 15 0 ++ toBytes 1 old.val ++ toBytes 1 new.val ++ toBytes 6 0

/-- The 32 bytes of a log record (R192). -/
def LogRecord.bytes (r : LogRecord) (index : Word) : List Byte :=
  toBytes 4 index.toNat ++ toBytes 4 r.time.toNat ++ toBytes 1 r.body.kind ++ r.body.bytes

/-! ## The configuration record (R193) and its validation (R186) -/

/-- The window kind of a kind code (R193). -/
def WindowKind.ofCode : Nat → Option WindowKind
  | 0 => some .plain | 1 => some .plan | 2 => some .tag | 3 => some .buffer
  | 4 => some .log | 5 => some .command | 6 => some .view | _ => none

/-- The descriptor at an address (R193); bits 4 to 7 of its port-sets byte are disregarded. (DEDUCED,
notes/assumptions/45.md.) -/
def readDescriptor (m : List Host.Cell) (a : Nat) : Descriptor :=
  let ports := Memory.byte m (a + 7)
  ⟨Memory.wordNat m a, Memory.flag m (a + 4), WindowKind.ofCode (Memory.byte m (a + 5)), Memory.byte m (a + 6),
    ports.testBit 0, ports.testBit 1, ports.testBit 2, ports.testBit 3⟩

/-- The arbiter mode of a mode code (R193). -/
def ArbiterMode.ofCode : Nat → Option ArbiterMode
  | 0 => some .rotating | 1 => some .fixed | _ => none

/-- The configuration record at an address (R193). -/
def readConfiguration (m : List Host.Cell) (a : Nat) : Configuration where
  descriptors := tabulate 8 (fun i => readDescriptor m (a + 8 * i.val))
  arbiter := ArbiterMode.ofCode (Memory.byte m (a + 64))
  bufferCount := Memory.byte m (a + 65)
  bufferSizeLog2 := Memory.byte m (a + 66)
  accumulatorCapacity := Memory.byte m (a + 67)
  planSlots := Memory.half m (a + 68)
  logEntries := Memory.half m (a + 70)
  legs := tabulate 18 (fun l => ⟨Memory.half m (a + 72 + 4 * l.val), Memory.half m (a + 74 + 4 * l.val)⟩)
  pickDelay := tabulate 4 (fun t => Memory.half m (a + 144 + 2 * t.val))
  earlyRatio := Memory.byte m (a + 152)
  lateRatio := Memory.byte m (a + 153)
  coverRatio := Memory.byte m (a + 154)
  encoderPerMm := Memory.byte m (a + 155)
  earlyFixed := Memory.half m (a + 156)
  lateFixed := Memory.half m (a + 158)
  coverFixed := Memory.half m (a + 160)
  mediaLength := tabulate 4 (fun t => Memory.half m (a + 162 + 2 * t.val))
  pitchLength := Memory.half m (a + 170)
  minimumGap := Memory.half m (a + 172)
  speed := tabulate 8 (fun t => Memory.half m (a + 174 + 2 * t.val))
  lockTolerance := Memory.byte m (a + 190)
  runTolerance := Memory.byte m (a + 191)
  lockTimeout := Memory.wordNat m (a + 192)
  minimumDwell := Memory.half m (a + 196)
  stopGrace := Memory.half m (a + 198)

/-- A figure lies in a range, both ends included. -/
def within (lo hi x : Nat) : Bool := decide (lo ≤ x) && decide (x ≤ hi)

/-- An enabled descriptor has a known kind, a size of 12 to 28, a base that is a multiple of its size, and ends inside
the address space (R186, WINDOW). -/
def Descriptor.sound (d : Descriptor) : Bool :=
  d.kind.isSome && within 12 28 d.sizeLog2 && d.base % d.bytes == 0 && decide (d.base + d.bytes ≤ 0x10000000)

/-- The number of enabled descriptors of a kind. -/
def Configuration.countKind (c : Configuration) (k : WindowKind) : Nat :=
  (c.descriptors.toList.filter (fun d => d.enabled && d.kind == some k)).length

/-- Exactly one window of each special kind and at most two PLAIN (R186, WINDOW). -/
def Configuration.kindsCounted (c : Configuration) : Bool :=
  [WindowKind.plan, .tag, .buffer, .log, .command, .view].all (fun k => c.countKind k == 1)
    && decide (c.countKind .plain ≤ 2)

/-- The descriptor is an enabled special window (R186). -/
def Descriptor.special (d : Descriptor) : Bool := d.enabled && d.kind != some .plain

/-- Two windows share an address. -/
def Descriptor.meets (d e : Descriptor) : Bool := decide (d.base < e.base + e.bytes) && decide (e.base < d.base + d.bytes)

/-- A pair of enabled windows, one of them special, that share an address (R186, OVERLAP). -/
def Descriptor.overlaps (d e : Descriptor) : Bool := d.enabled && e.enabled && (d.special || e.special) && d.meets e

/-- The lower index of the first overlapping pair, taking pairs by index (R186, OVERLAP). -/
def Configuration.overlapIndex (c : Configuration) : Option (Fin 8) :=
  firstIndex 8 (fun i => (indices 8).any (fun j => decide (i < j) && c.descriptors[i].overlaps c.descriptors[j]))

/-- A special window contains an anchor address (R186, OVERLAP). -/
def Configuration.anchorOverlapped (c : Configuration) : Bool :=
  c.descriptors.toList.any (fun d => d.special && decide (anchorBase < d.base + d.bytes))

/-- The size of the enabled window of a kind. -/
def Configuration.windowBytes (c : Configuration) (k : WindowKind) : Nat :=
  match c.descriptors.toList.find? (fun d => d.enabled && d.kind == some k) with
  | some d => d.bytes
  | none => 0

/-- A power of two from 64 to 4,096 (R168). -/
def logEntriesAllowed (n : Nat) : Bool := [64, 128, 256, 512, 1024, 2048, 4096].contains n

/-- Every geometry figure lies in its range (R6). -/
def Configuration.geometryInRange (c : Configuration) : Bool :=
  c.legs.toList.all (fun l => within 100 40000 l.length && within 128 512 l.factor)
    && c.pickDelay.toList.all (within 500 20000)
    && within 0 64 c.earlyRatio && within 0 64 c.lateRatio && within 0 64 c.coverRatio
    && within 0 10000 c.earlyFixed && within 0 10000 c.lateFixed && within 0 10000 c.coverFixed
    && c.mediaLength.toList.all (within 1000 4320)
    && within 1100 40000 c.pitchLength && within 100 1000 c.minimumGap
    && c.speed.toList.all (within 200 2000)
    && within 1 64 c.encoderPerMm && within 0 20000 c.minimumDwell

/-- Every other configured figure lies in its range (R124, R136, R168, R186). -/
def Configuration.figuresInRange (c : Configuration) : Bool :=
  within 1 64 c.lockTolerance && within 1 128 c.runTolerance && decide (c.lockTolerance ≤ c.runTolerance)
    && within 10000 1000000 c.lockTimeout && within 1000 50000 c.stopGrace
    && logEntriesAllowed c.logEntries && within 1 64 c.bufferCount && within 16 22 c.bufferSizeLog2
    && within 8 256 c.planSlots && within 2 24 c.accumulatorCapacity && c.arbiter.isSome

/-- Every window holds what it must hold (R186, RANGE). -/
def Configuration.windowsHold (c : Configuration) : Bool :=
  decide (32 * c.planSlots ≤ c.windowBytes .plan) && decide (16 * c.bufferCount ≤ c.windowBytes .tag)
    && decide (c.bufferCount * 2 ^ c.bufferSizeLog2 ≤ c.windowBytes .buffer)
    && decide (64 + 32 * c.logEntries ≤ c.windowBytes .log)

/-- The RANGE check (R186). -/
def Configuration.inRange (c : Configuration) : Bool := c.geometryInRange && c.figuresInRange && c.windowsHold

/-- The FORMAT check of the format word and the record's address (R186). -/
def formatPasses (format address : Word) : Bool :=
  format == 1 && address.toNat % 32 == 0 && decide (address.toNat + 512 ≤ anchorBase)

/-- The first check of R186 after FORMAT that a configuration fails, as its RESULT word; `free` feeds the one detail
the manual leaves open. -/
def Configuration.refusal (c : Configuration) (free : Nat) : Option Word :=
  match firstIndex 8 (fun i => c.descriptors[i].enabled && !c.descriptors[i].sound) with
  | some i => some (anchorWord 6 i.val)
  | none =>
    if !c.kindsCounted then some (anchorWord 6 8)
    else match c.overlapIndex with
      | some i => some (anchorWord 7 i.val)
      | none =>
        if c.anchorOverlapped then some (anchorWord 7 (Config.anchorOverlapDetail free).toNat)
        else if !c.inRange then some (anchorWord 8 0)
        else match timingFailure c with
          | some code => some (anchorWord 9 code.val)
          | none => none

end Sys2Proof.Machine
end

