-- ==== Sys2Proof/Machine/Ops.lean ====
section
/-! DEFINITION. The operations every block shares: attention (chapter 10), the record agent's queue and the M-port
grant (chapter 11), the log writer (chapter 10), the finish of a command (R156) and the set-clearance mark (R143). -/

namespace Sys2Proof.Machine

/-! ## Attention (R174) -/

/-- The conditions of the E summary. -/
inductive ECondition where
  | commandDone | stop | speedChangeEnd | logRecord | logOverrun | capture
  deriving DecidableEq, Repr

/-- The conditions of the P summary. -/
inductive PCondition where
  | bufferAvailable | capture
  deriving DecidableEq, Repr

/-- The E summary with a condition added. -/
def ESummary.add (e : ESummary) : ECondition → ESummary
  | .commandDone => { e with commandDone := true }
  | .stop => { e with stop := true }
  | .speedChangeEnd => { e with speedChangeEnd := true }
  | .logRecord => { e with logRecord := true }
  | .logOverrun => { e with logOverrun := true }
  | .capture => { e with capture := true }

/-- The P summary with a condition added. -/
def PSummary.add (p : PSummary) : PCondition → PSummary
  | .bufferAvailable => { p with bufferAvailable := true }
  | .capture => { p with capture := true }

/-- A condition is raised in the E summary; its line is then asserted. -/
def State.raiseE (s : State) (c : ECondition) : State :=
  s.setAttention { s.attention with e := s.attention.e.add c, lineE := true }

/-- A condition is raised in the P summary; its line is then asserted. -/
def State.raiseP (s : State) (c : PCondition) : State :=
  s.setAttention { s.attention with p := s.attention.p.add c, lineP := true }

/-- The E summary is emptied and its line lowered (R151, R175). -/
def State.clearE (s : State) : State := s.setAttention { s.attention with e := ESummary.empty, lineE := false }

/-- The P summary is emptied and its line lowered (R175). -/
def State.clearP (s : State) : State := s.setAttention { s.attention with p := PSummary.empty, lineP := false }

/-! ## The record agent and the arbiter (R178, R184) -/

/-- The agent is asked for an operation. -/
def State.ask (s : State) (op : RecordOp) : State :=
  s.setJunction { s.junction with agentQueue := s.junction.agentQueue ++ [op] }

/-- The requester waits for the M-port, the port being free. -/
def Junction.waits (j : Junction) : Requester → Bool
  | .E => j.accessE.isSome
  | .P => j.accessP.isSome
  | .agent => !j.agentQueue.isEmpty

/-- The cycle E, P, agent started at a requester (R178). -/
def Requester.cycle : Requester → List Requester
  | .E => [.E, .P, .agent]
  | .P => [.P, .agent, .E]
  | .agent => [.agent, .E, .P]

/-- The requester after one in the cycle. -/
def Requester.next : Requester → Requester
  | .E => .P
  | .P => .agent
  | .agent => .E

/-- The order in which the arbiter looks at the requesters (R178). -/
def Junction.order (j : Junction) : List Requester :=
  match j.arbiter with
  | .rotating => j.rotation.cycle
  | .fixed => [.agent, .E, .P]

/-- The junction after the grant of a free M-port to a waiting requester (R178). -/
def Junction.grant (j : Junction) : Junction :=
  match j.holder with
  | some _ => j
  | none =>
    match j.order.find? j.waits with
    | none => j
    | some r =>
      { j with
        holder := some r
        rotation := match j.arbiter with
          | .rotating => r.next
          | .fixed => j.rotation }

/-- The grant of R178, made at the end of every step (notes/assumptions/6.md). -/
def State.grant (s : State) : State := s.setJunction s.junction.grant

/-- The agent's operation in progress: the head of its queue while it holds the M-port. -/
def State.inProgress (s : State) : Option RecordOp :=
  if s.junction.holder = some .agent then s.junction.agentQueue.head? else none

/-- The operation in progress completes: it leaves the queue and the M-port is released (R184). -/
def State.releasePort (s : State) : State :=
  s.setJunction { s.junction with agentQueue := s.junction.agentQueue.tail, holder := none }

/-- The operation in progress goes on as another part of itself, the M-port still held (R184, R185). -/
def State.continueOp (s : State) (op : RecordOp) : State :=
  s.setJunction { s.junction with agentQueue := op :: s.junction.agentQueue.tail }

/-! ## The log writer (R169 to R171) -/

/-- The log ring's entry count; 0 while no configuration is in force. -/
def State.logEntries (s : State) : Nat :=
  match s.config with
  | some c => c.logEntries
  | none => 0

/-- The used count (R169). -/
def State.logUsed (s : State) : Nat := (s.log.producer - s.log.consumer).toNat

/-- The free count (R169). -/
def State.logFree (s : State) : Nat := s.logEntries - s.logUsed

/-- The pending list: the records handed over and not yet written or discarded (R168), the one in flight the first of
them. (DEDUCED, notes/assumptions/50.md.) -/
def LogWriter.pendingList (l : LogWriter) : List LogRecord := (l.inFlight.map (fun x => x.2)).toList ++ l.waiting

/-- The number of event records in the pending list (R171). -/
def LogWriter.eventsPending (l : LogWriter) : Nat := (l.pendingList.filter (fun r => r.body.isEvent)).length

/-- What the writer takes from the pending list: what stays pending, the record taken, and whether an event record was
discarded on the way (R170, R171). -/
def takeFrom (free : Nat) : List LogRecord → List LogRecord × Option LogRecord × Bool
  | [] => ([], none, false)
  | r :: rs =>
    if 1 ≤ free then (rs, some r, false)
    else if r.body.isEvent then
      let t := takeFrom free rs
      (t.1, t.2.1, true)
    else (r :: rs, none, false)

/-- An event record is discarded: LOG OVERRUN is set, and raised when it was clear (R171). -/
def State.discardEvent (s : State) : State :=
  if s.log.overrun then s else (s.setLog { s.log with overrun := true }).raiseE .logOverrun

/-- The writer takes the next pending record when no write is in flight (R170, R171). The record taken becomes the
write in flight, and stays in the pending list until it is written (R168, notes/assumptions/50.md). -/
def State.takeRecord (s : State) : State :=
  match s.log.inFlight with
  | some _ => s
  | none =>
    let t := takeFrom s.logFree s.log.waiting
    let s1 := s.setLog { s.log with waiting := t.1, inFlight := t.2.1.map (fun r => (s.log.producer, r)) }
    let s2 := if t.2.2 then s1.discardEvent else s1
    match t.2.1 with
    | none => s2
    | some r => s2.ask (.logWrite s.log.producer r)

/-- A record is handed to the log writer (R170); an event record that finds 32 pending is discarded (R171). -/
def State.handOver (s : State) (time : Tick) (body : LogBody) : State :=
  if body.isEvent && decide (32 ≤ s.log.eventsPending) then s.discardEvent
  else (s.setLog { s.log with waiting := s.log.waiting ++ [⟨time, body⟩] }).takeRecord

/-- A record whose time is that of the present event. -/
def State.record (s : State) (body : LogBody) : State := s.handOver s.tick body

/-! ## Commands (R156) -/

/-- The command being run, when it is the command of a code. -/
def State.runs (s : State) (c : CommandCode) : Bool :=
  match s.run.running with
  | some r => r.code == some c
  | none => false

/-- The finish of the command being run: the state becomes DONE and the result write is asked for (R156).  With no
command being run nothing is written (R157). -/
def State.finish (s : State) (result : ResultCode) (detail : Nat) : State :=
  match s.run.running with
  | none => s
  | some r =>
    (s.setRun { s.run with command := .done, running := none }).ask
      (.commandFinish (resultWord result r.overrun detail))

/-- The finish of a command if it is the one being run. -/
def State.finishIf (s : State) (c : CommandCode) (result : ResultCode) (detail : Nat) : State :=
  if s.runs c then s.finish result detail else s

/-! ## The set's condition and the set-clearance mark (R114, R143, R148) -/

/-- The set's condition becomes another: the mark is set, and a CLEAR in CLEARING is interrupted with the cause. -/
def State.doubt (s : State) (c : SetCondition) (cause : Cause) : State :=
  let s1 := s.setOutput { s.output with set := { s.output.set with condition := c } }
  let s2 := s1.setRun { s1.run with clearanceMark := true }
  if s2.run.state = .clearing then s2.finishIf .clear .failed cause.detail else s2

/-- A SOUND set becomes DISTURBED (R110, R114). -/
def State.disturb (s : State) (cause : Cause) : State :=
  if s.output.set.condition = .sound then s.doubt .disturbed cause else s

/-- A set becomes SCATTERED unless it is already (R114). -/
def State.scatter (s : State) (cause : Cause) : State :=
  if s.output.set.condition = .scattered then s else s.doubt .scattered cause

/-- The set is EJECTING or DUMPING. -/
def SetRecord.inFlight (r : SetRecord) : Bool := r.state == .ejecting || r.state == .dumping

end Sys2Proof.Machine
end

