-- ==== Sys2Proof/Machine/Residency.lean ====
section
/-! DEFINITION. Chapter 3: the buffer residency table, its claims, references and freeings. -/

namespace Sys2Proof.Machine

/-- The entry of a buffer. -/
def State.buffer (s : State) (b : BufferNo) : Buffer := s.buffers.table[b]

/-- An entry of the table is replaced. -/
def State.putBuffer (s : State) (b : BufferNo) (x : Buffer) : State :=
  s.setBuffers { s.buffers with table := put s.buffers.table b x }

/-- The claim-waiting flag is set or cleared. -/
def State.setClaimWaiting (s : State) (w : Bool) : State := s.setBuffers { s.buffers with claimWaiting := w }

/-- The configured buffer count; 0 while no configuration is in force. -/
def State.bufferCount (s : State) : Nat :=
  match s.config with
  | some c => c.bufferCount
  | none => 0

/-- The buffer is FILLING or CLOSING (R40). -/
def Buffer.isOpen (x : Buffer) : Bool := x.state == .filling || x.state == .closing

/-- The open count (R40). -/
def Residency.openCount (r : Residency) : Nat := (r.table.toList.filter Buffer.isOpen).length

/-- BUFFER AVAILABLE is handed to the P summary when claim-waiting is set, which is then cleared (R54). -/
def State.bufferAvailable (s : State) : State :=
  if s.buffers.claimWaiting then (s.setClaimWaiting false).raiseP .bufferAvailable else s

/-- A buffer becomes FREE, with the attention of R54. -/
def State.freeBuffer (s : State) (b : BufferNo) : State := (s.putBuffer b Buffer.free).bufferAvailable

/-- The lowest-numbered FREE buffer below the configured count (R41). -/
def State.lowestFree (s : State) : Option BufferNo :=
  firstIndex 64 (fun b => decide (b.val < s.bufferCount) && (s.buffer b).state == .free)

/-- What a claim read returns and does (R41). -/
def State.claimBuffer (s : State) : Byte × State :=
  match s.lowestFree with
  | none => (0xFF, s.setClaimWaiting true)
  | some b =>
    if s.buffers.openCount = 16 then (0xFE, s.setClaimWaiting true)
    else (BitVec.ofNat 8 b.val, (s.putBuffer b { Buffer.free with state := .filling }).setClaimWaiting false)

/-- What an inspection of the CLAIM cell returns (R42). -/
def State.inspectClaim (s : State) : Byte :=
  match s.lowestFree with
  | none => 0xFF
  | some b => BitVec.ofNat 8 b.val

/-- An abandon of a buffer (R43), by the number the write carries. -/
def State.abandonBuffer (s : State) (n : Nat) : State :=
  match bufferField n with
  | none => s
  | some b => if b.val < s.bufferCount ∧ (s.buffer b).state = .filling then s.freeBuffer b else s

/-- One reference is added to a named buffer (R48). -/
def State.addReference (s : State) : Option BufferNo → State
  | none => s
  | some b => s.putBuffer b { s.buffer b with count := (s.buffer b).count + 1 }

/-- One reference is dropped from a named buffer, for delivery (R49) or not delivered (R50). -/
def State.dropReference (s : State) (delivered : Bool) : Option BufferNo → State
  | none => s
  | some b =>
    let x := s.buffer b
    if x.state = .held then
      if delivered then
        if x.count - 1 = 0 ∧ x.persistent = false then s.freeBuffer b
        else s.putBuffer b { x with count := x.count - 1 }
      else s.putBuffer b { x with count := x.count - 1, replay := true }
    else s

/-- The references of a disposed entry are dropped, front before back (R48). -/
def State.dropSides (s : State) (delivered : Bool) (front back : Option BufferNo) : State :=
  (s.dropReference delivered front).dropReference delivered back

/-- A tag commit event (R45): FILLING becomes CLOSING with a fetch, any other state is refused STATE.  A refusal is not
queued again while one for the slot waits in the agent's queue (R184). -/
def State.takeTagCommit (s : State) (b : BufferNo) : State :=
  if (s.buffer b).state = .filling then
    (s.putBuffer b { s.buffer b with state := .closing }).ask (.tagFetch b)
  else
    let waiting := if s.junction.holder = some .agent then s.junction.agentQueue.tail else s.junction.agentQueue
    if waiting.contains (.tagWrite b .refusedState) || waiting.contains (.tagWrite b .refusedFormat) then s
    else s.ask (.tagWrite b .refusedState)

/-- A fetched tag is accepted (R46): the buffer is HELD, and a fall of the open count from 16 is announced (R54). -/
def State.acceptTag (s : State) (b : BufferNo) (t : Tag) (persistent : Bool) : State :=
  let full := s.buffers.openCount = 16
  let s1 := s.putBuffer b ⟨.held, some t, 0, persistent, false⟩
  let s2 := if full then s1.bufferAvailable else s1
  s2.ask (.tagWrite b .taken)

/-- A tag fetch completes (R46, R47). -/
def State.judgeTag (s : State) (b : BufferNo) (r : TagRecord) : State :=
  match r.tag with
  | some t => s.acceptTag b t r.persistent
  | none => s.ask (.tagWrite b .refusedFormat)

/-- The write of a FORMAT refusal completes: CLOSING becomes FILLING (R47). -/
def State.reopenBuffer (s : State) (b : BufferNo) : State :=
  if (s.buffer b).state = .closing then s.putBuffer b { s.buffer b with state := .filling } else s

end Sys2Proof.Machine
end

