-- ==== Sys2Proof/Machine/Intake.lean ====
section
/-! DEFINITION. Chapter 2: plan intake, its validation, acceptance, refusal and withdrawals. -/

namespace Sys2Proof.Machine

/-- The state of a plan slot; none beyond the configured count. -/
def State.slotState (s : State) (i : Nat) : Option SlotState := s.plan.slots[i]?

/-- A plan slot's state is replaced. -/
def State.putSlot (s : State) (i : Nat) (x : SlotState) : State :=
  s.setPlan { s.plan with slots := s.plan.slots.set i x }

/-- The statement copy an entry belongs to (2.3). -/
def PlanEntry.copy (e : PlanEntry) : Copy := ⟨e.statement, e.opening⟩

/-- What an entry's disposition record carries (R172). -/
def PlanEntry.disposition (e : PlanEntry) : Disposition := ⟨e.sequence, e.statement, e.k, e.slot⟩

/-- A commit event for a slot (R20). -/
def State.takeCommit (s : State) (i : Nat) : State :=
  if s.slotState i = some .free then (s.putSlot i .pending).ask (.planFetch i) else s

/-! ## Validation (R24 to R29) -/

/-- Check 1 passes (R26). -/
def sequencePasses (p : PlanIntake) (r : PlanRecord) : Bool :=
  decide (p.lastAccepted < r.sequence) && p.lastAccepted != 0xFFFFFFFF

/-- Check 2 passes (R27). -/
def fieldsPass (r : PlanRecord) : Bool :=
  within 1 4 r.tray && within 0 3 r.media && r.statement != 0 && within 1 1023 r.k && within 1 1023 r.n
    && decide (r.k ≤ r.n)

/-- Check 3 passes (R27): SIMPLEX without a back buffer, or DUPLEX with both. -/
def sidesPass (r : PlanRecord) : Bool :=
  (r.sides == 1 && !isNamed r.back) || (r.sides == 2 && isNamed r.front && isNamed r.back)

/-- How many references the record would add to a buffer (R28). -/
def PlanRecord.references (r : PlanRecord) (b : Nat) : Nat :=
  (if r.front = b then 1 else 0) + (if r.back = b then 1 else 0)

/-- Check 4 passes for one buffer field (R28). -/
def bufferPasses (s : State) (r : PlanRecord) (n : Nat) : Bool :=
  !isNamed n ||
    match bufferField n with
    | none => false
    | some b =>
      decide (n < s.bufferCount) && (s.buffer b).state == .held && decide ((s.buffer b).count + r.references n ≤ 255)

/-- Check 5 passes for one buffer field named for a side (R28). -/
def identityPasses (s : State) (r : PlanRecord) (n : Nat) (side : TagSide) : Bool :=
  !isNamed n ||
    match bufferField n with
    | none => false
    | some b => (s.buffer b).persistent || (s.buffer b).tag == some ⟨r.statement, r.k, side⟩

/-- Check 6 passes (R29). -/
def continuityPasses (p : PlanIntake) (r : PlanRecord) : Bool :=
  match p.tail with
  | none => r.k == 1
  | some t => decide (1 < r.k) && t.statement == r.statement && t.k + 1 == r.k && t.n == r.n

/-- The code of the first check a record fails (R24, R25). -/
def State.planRefusal (s : State) (r : PlanRecord) : Option PlanRefusal :=
  if !sequencePasses s.plan r then some .sequence
  else if !fieldsPass r then some .field
  else if !sidesPass r then some .sides
  else if !(bufferPasses s r r.front && bufferPasses s r r.back) then some .buffer
  else if !(identityPasses s r r.front .front && identityPasses s r r.back .back) then some .identity
  else if !continuityPasses s.plan r then some .continuity
  else none

/-! ## Acceptance (R31, R32) -/

/-- The configured accumulator capacity; 0 while no configuration is in force. -/
def State.accumulatorCapacity (s : State) : Nat :=
  match s.config with
  | some c => c.accumulatorCapacity
  | none => 0

/-- The plan entry an accepted record becomes (R31). -/
def State.entryOf (s : State) (r : PlanRecord) (slot : Nat) : PlanEntry where
  sequence := r.sequence
  statement := r.statement
  k := r.k
  n := r.n
  tray := Fin.ofNat 4 (r.tray - 1)
  media := Fin.ofNat 4 r.media
  sides := if r.sides = 2 then .duplex else .simplex
  front := bufferField r.front
  back := bufferField r.back
  breakFlag := r.breakFlag
  opening := match s.plan.tail with
    | none => r.sequence
    | some t => t.opening
  mode := if r.n ≤ s.accumulatorCapacity then .set else .direct
  slot := slot

/-- The continuity tail after the acceptance of an entry (R32). -/
def tailAfter (e : PlanEntry) : Option Tail :=
  if e.k < e.n then some ⟨e.statement, e.k, e.n, e.opening⟩ else none

/-- An accepted record becomes a plan entry (R31). -/
def State.acceptRecord (s : State) (r : PlanRecord) (slot : Nat) : State :=
  let e := s.entryOf r slot
  let s1 := (s.addReference e.front).addReference e.back
  let s2 := s1.setPlan
    { s1.plan with queue := s1.plan.queue ++ [e], lastAccepted := e.sequence, tail := tailAfter e }
  (s2.putSlot slot .taken).ask (.planWrite slot .taken)

/-- The slot state when the agent's write of a commit word completes (R22). -/
def State.answerWritten (s : State) (i : Nat) : PlanAnswer → State
  | .taken => s
  | .refused _ => s.putSlot i .free
  | .released => s.putSlot i .free

/-! ## Withdrawal (R35 to R37) -/

/-- An entry that has left the queue is disposed of as WITHDRAWN (R35). -/
def State.disposeWithdrawn (s : State) (e : PlanEntry) : State :=
  (s.dropSides false e.front e.back).record (.withdrawn e.disposition)

/-- Entries are disposed of in their order, which is that of increasing sequence (R33). -/
def State.disposeAll (s : State) : List PlanEntry → State
  | [] => s
  | e :: es => (s.disposeWithdrawn e).disposeAll es

/-- A withdrawal by sequence (R35), the cut of a copy apart. -/
def State.withdrawFrom (s : State) (q : Nat) : State :=
  let gone := s.plan.queue.filter (fun e => decide (q ≤ e.sequence))
  let s1 := s.setPlan
    { s.plan with
      queue := s.plan.queue.filter (fun e => !decide (q ≤ e.sequence))
      tail := if gone.any (fun e => e.sequence == s.plan.lastAccepted) then none else s.plan.tail }
  s1.disposeAll gone

/-- The tail names a copy. -/
def tailNames (t : Option Tail) (c : Copy) : Bool :=
  match t with
  | none => false
  | some t => t.statement == c.statement && t.opening == c.opening

/-- A withdrawal by copy (R37). -/
def State.withdrawCopy (s : State) (c : Copy) : State :=
  let gone := s.plan.queue.filter (fun e => e.copy == c)
  let s1 := s.setPlan
    { s.plan with
      queue := s.plan.queue.filter (fun e => !(e.copy == c))
      tail := if tailNames s.plan.tail c then none else s.plan.tail }
  s1.disposeAll gone

end Sys2Proof.Machine
end

