-- ==== Sys2Proof/Machine/Tracking.lean ====
section
/-! DEFINITION. Chapter 5's tables and queues: sheet entries, sensor records, expectations and their placement. -/

namespace Sys2Proof.Machine

/-! ## The sheet table (R76) -/

/-- The live sheet of a handle. -/
def State.sheet (s : State) (h : Handle) : Option Sheet := s.tracker.sheets[h]

/-- An entry of the sheet table is replaced. -/
def State.putSheet (s : State) (h : Handle) (x : Option Sheet) : State :=
  s.setTracker { s.tracker with sheets := put s.tracker.sheets h x }

/-- A live sheet's entry is changed; a FREE entry stays FREE. -/
def State.modifySheet (s : State) (h : Handle) (f : Sheet → Sheet) : State := s.putSheet h ((s.sheet h).map f)

/-- The number of live sheets (R74). -/
def State.liveCount (s : State) : Nat := (s.tracker.sheets.toList.filter Option.isSome).length

/-- Some live sheet has the property. -/
def State.anySheet (s : State) (p : Sheet → Bool) : Bool :=
  s.tracker.sheets.toList.any (fun x => match x with | some sh => p sh | none => false)

/-- Some live sheet belongs to the copy. -/
def State.copyLive (s : State) (c : Copy) : Bool := s.anySheet (fun sh => sh.plan.copy == c)

/-- Every live sheet is changed. -/
def State.modifySheets (s : State) (f : Sheet → Sheet) : State :=
  s.setTracker { s.tracker with sheets := tabulate 16 (fun h => (s.tracker.sheets[h]).map f) }

/-- Some sheet is HELD at the hold station (R87). -/
def State.anyHeld (s : State) : Bool := s.anySheet (fun sh => sh.state == .held)

/-- The HELD sheet's sequence (R97). -/
def State.heldSequence (s : State) : Option Nat :=
  s.tracker.sheets.toList.findSome? (fun x => match x with
    | some sh => if sh.state = .held then some sh.plan.sequence else none
    | none => none)

/-! ## Sensors and expectations (R79, R80) -/

/-- The record of a sensor. -/
def State.sensor (s : State) (x : Sensor) : SensorRecord := s.tracker.sensors[x.index]

/-- A sensor's record is replaced. -/
def State.putSensor (s : State) (x : Sensor) (r : SensorRecord) : State :=
  s.setTracker { s.tracker with sensors := put s.tracker.sensors x.index r }

/-- Every sensor's record is changed. -/
def State.modifySensors (s : State) (f : SensorRecord → SensorRecord) : State :=
  s.setTracker { s.tracker with sensors := tabulate 15 (fun i => f s.tracker.sensors[i]) }

/-- An expectation is inserted after every one whose open is earlier than or equal to its own (R80). (one list for
sheets and set: notes/assumptions/20.md.) -/
def insertByOpen (e : Expectation) : List Expectation → List Expectation
  | [] => [e]
  | x :: xs => if laterThan x.opens e.opens then e :: x :: xs else x :: insertByOpen e xs

/-- The expectation of an item leaves the list. -/
def removeItem (i : Item) (l : List Expectation) : List Expectation := l.filter (fun e => e.item != i)

/-- The head a leading edge is judged against: the first expectation while sheet queues are judged, and otherwise the
set expectation (R80, R83). -/
def SensorRecord.head (r : SensorRecord) (sheets : Bool) : Option Expectation :=
  if sheets then r.expectations.head? else r.expectations.find? (fun e => e.item == .set)

/-- The sensor's set place (R80). -/
def SensorRecord.setPlace (r : SensorRecord) : Option Expectation := r.expectations.find? (fun e => e.item == .set)

/-- The number of sheet expectations in the sensor's queue. -/
def SensorRecord.queued (r : SensorRecord) : Nat := (r.expectations.filter (fun e => e.item != .set)).length

/-- The sheet is the occupant of some sensor. -/
def State.occupies (s : State) (h : Handle) : Bool :=
  s.tracker.sensors.toList.any (fun r => r.occupant == .sheet h)

/-- The sensor is covered for R144 and R158: some sensor line is asserted. -/
def State.anyCovered (s : State) : Bool := s.tracker.sensors.toList.any (fun r => r.covered)

/-! ## Placement (R81, R82) -/

/-- The expectation of an item for a stretch, from its travel, its cover limits and its reference time (R81). -/
def expectationOf (i : Item) (t : StretchTime) (c : CoverLimits) (reference : Tick) : Expectation :=
  ⟨i, after reference t.openAfter, after reference t.close, c.min, c.max, true⟩

/-- An expectation joins a sensor's list. -/
def State.addExpectation (s : State) (x : Sensor) (e : Expectation) : State :=
  s.putSensor x { s.sensor x with expectations := insertByOpen e (s.sensor x).expectations }

/-- The placement of a sheet's next expectation, with the reference the present event (R82).  There is always a
current timing set while a sheet moves (R18); with none nothing is placed. -/
def State.place (s : State) (h : Handle) (st : Stretch) : State :=
  match s.sheet h, s.tracker.timing with
  | some sh, some t =>
    (s.modifySheet h (fun sh => { sh with leg := some st, reference := s.tick })).addExpectation st.dest
      (expectationOf (.sheet h) (t.time st) (t.coverAt sh.plan.media st) s.tick)
  | _, _ => s

/-- The placement of the set's expectation at its EJECT pulse (R82, R89), with the cover limits of a media class. -/
def State.placeSet (s : State) (d : Destination) (m : MediaClass) : State :=
  match s.tracker.timing with
  | some t =>
    s.addExpectation d.sensor (expectationOf .set (t.time (.leg d.leg)) (t.coverAt m (.leg d.leg)) s.tick)
  | none => s

/-- The set place is emptied and a set occupant becomes UNTRACKED, at every sensor (R114). -/
def State.cutSetOff (s : State) : State :=
  s.modifySensors (fun r =>
    let r1 := { r with expectations := removeItem .set r.expectations }
    if r.occupant = .set then { r1 with occupant := .untracked, coverTimer := none } else r1)

/-- Whether sheet queues are judged (R83). -/
def RunState.judgesSheets : RunState → Bool
  | .starting => true
  | .running => true
  | .draining => true
  | .respeed => true
  | .stopping => true
  | .inactive => false
  | .idle => false
  | .stopped => false
  | .clearing => false

/-- The sequence a report names for an item: a sheet's own, or that of the set's first member (R97). (A handle whose
sheet has left names none, or its newer sheet: DESIGN CHOICE, notes/assumptions/49.md. A set without members names none,
overrun sheets or not: DESIGN CHOICE, notes/assumptions/52.md.) -/
def State.sequenceOf (s : State) : Item → Option Nat
  | .sheet h => (s.sheet h).map (fun sh => sh.plan.sequence)
  | .set => s.output.set.members.head?.map (fun m => m.sequence)

end Sys2Proof.Machine
end

