-- ==== Sys2Proof/Machine/Output.lean ====
section
/-! DEFINITION. Chapter 6: gates, boundary decisions, the accumulator set, direct delivery and statement breaks. -/

namespace Sys2Proof.Machine

/-! ## Gates (R104) -/

/-- A gate takes a decision that names a position for it. -/
def Gate.decide {α : Type} (g : Gate α) (position : α) (h : Handle) : Gate α :=
  if g.holder.isNone || g.cleared then ⟨position, some h, false, none⟩
  else { g with pending := some (position, h) }

/-- A gate takes the report that a sheet has cleared its sensor. (DEDUCED, notes/assumptions/26.md.) -/
def Gate.clearedBy {α : Type} (g : Gate α) (h : Handle) : Gate α :=
  if g.holder = some h then
    match g.pending with
    | some (position, k) => ⟨position, some k, false, none⟩
    | none => { g with cleared := true }
  else g

/-- What a CLEAR does to a gate. -/
def Gate.settle {α : Type} (g : Gate α) : Gate α :=
  match g.pending with
  | some (position, _) => ⟨position, none, false, none⟩
  | none => ⟨g.position, none, false, none⟩

/-- The loop gate is changed. -/
def State.loopGate (s : State) (f : Gate LoopPosition → Gate LoopPosition) : State :=
  s.setOutput { s.output with loopGate := f s.output.loopGate }

/-- The route gate is changed. -/
def State.routeGate (s : State) (f : Gate Route → Gate Route) : State :=
  s.setOutput { s.output with routeGate := f s.output.routeGate }

/-! ## Stackers (R105 to R108) -/

/-- The STACKER FULL line of a stacker. -/
def Lines.stackerFull (l : Lines) : Stacker → Bool
  | .k1 => l.stackerFull1
  | .k2 => l.stackerFull2

/-- Both STACKER FULL lines are asserted. -/
def Lines.bothFull (l : Lines) : Bool := l.stackerFull1 && l.stackerFull2

/-- The candidate of the three steps of R105, with the step that last changed it. -/
def boundaryCandidate (active : Stacker) (selection : Option Stacker) (full : Stacker → Bool) (breakFlag : Bool) :
    Stacker × SwitchReason :=
  let first : Stacker × SwitchReason :=
    match selection with
    | some k => (k, .selected)
    | none => if breakFlag && !full active.other then (active.other, .breakFlag) else (active, .selected)
  if full first.1 && !full first.1.other then (first.1.other, .full) else first

/-- The last step of a DIRECT statement's decision (R106): away from the committed destination's stacker. -/
def avoidCommitted (committed : Option (Copy × Stacker)) (full : Stacker → Bool) (c : Stacker × SwitchReason) :
    Stacker × SwitchReason :=
  match committed with
  | some (_, k) => if c.1 = k ∧ full c.1.other = false then (c.1.other, .setPending) else c
  | none => c

/-- A boundary decision takes effect: the selection is consumed, and a candidate other than the active stacker becomes
it with a STACKER SWITCH record (R105). -/
def State.settleBoundary (s : State) (c : Stacker × SwitchReason) : State :=
  let s1 := s.setOutput { s.output with selection := none, active := c.1 }
  if c.1 = s.output.active then s1 else s1.record (.stackerSwitch s.output.active c.1 c.2)

/-- The boundary decision of R105. -/
def State.decideBoundary (s : State) (breakFlag : Bool) : State :=
  s.settleBoundary (boundaryCandidate s.output.active s.output.selection s.lines.stackerFull breakFlag)

/-- The set is pending (R106): the accumulator set is not EMPTY, or a live sheet has route ACCUMULATE. -/
def State.setIsPending (s : State) : Bool :=
  s.output.set.state != .empty || s.anySheet (fun sh => sh.route == some .accumulate)

/-- The committed destination names the copy. -/
def OutputUnit.committedFor (o : OutputUnit) (c : Copy) : Bool :=
  match o.committed with
  | some (d, _) => d == c
  | none => false

/-- The committed destination is removed if it names the copy. -/
def State.dropCommitted (s : State) (c : Option Copy) : State :=
  match c with
  | some c => if s.output.committedFor c then s.setOutput { s.output with committed := none } else s
  | none => s

/-- A pending set's stacker is fixed before a DIRECT statement's own decision (R106). -/
def State.commitSet (s : State) : State :=
  match s.output.latest with
  | some (c, flag) =>
    if s.setIsPending && !s.output.committedFor c then
      let s1 := s.decideBoundary flag
      s1.setOutput { s1.output with committed := some (c, s1.output.active) }
    else s
  | none => s

/-- The boundary decision of a DIRECT sheet with k = 1 (R106). -/
def State.decideDirect (s : State) (breakFlag : Bool) : State :=
  let s1 := s.commitSet
  s1.settleBoundary (avoidCommitted s1.output.committed s1.lines.stackerFull
    (boundaryCandidate s1.output.active s1.output.selection s1.lines.stackerFull breakFlag))

/-- The stack top of a stacker. -/
def OutputUnit.top (o : OutputUnit) : Stacker → Option (Copy × Nat)
  | .k1 => o.top1
  | .k2 => o.top2

/-- The output unit with a stack top replaced. -/
def OutputUnit.setTop (o : OutputUnit) : Stacker → Option (Copy × Nat) → OutputUnit
  | .k1, t => { o with top1 := t }
  | .k2, t => { o with top2 := t }

/-- The other jog level. -/
def JogLevel.toggle : JogLevel → JogLevel
  | .home => .offset
  | .offset => .home

/-- A stacker's jog line toggles (R108). -/
def OutputUnit.jog (o : OutputUnit) : Stacker → OutputUnit
  | .k1 => { o with jog1 := o.jog1.toggle }
  | .k2 => { o with jog2 := o.jog2.toggle }

/-! ## Ejects and dumps (R111, R112) -/

/-- The set record is changed. -/
def State.modifySet (s : State) (f : SetRecord → SetRecord) : State :=
  s.setOutput { s.output with set := f s.output.set }

/-- The record of a broken copy (R118). -/
def OutputUnit.brokenRecord (o : OutputUnit) (c : Copy) : Option BrokenCopy := o.broken.find? (fun r => r.copy == c)

/-- The media classes of a list of members. -/
def mediaOf (l : List Member) : List MediaClass := l.map (fun m => m.media)

/-- The longest media class of the members and overrun sheets given (R12). -/
def State.longestMember (s : State) (l : List Member) : MediaClass :=
  match s.config, mediaOf l with
  | some c, m :: ms => longestOf c m ms
  | _, _ => 0

/-- The set goes into flight to a destination: EJECT is pulsed and the set expectation placed (R111, R112). -/
def State.launch (s : State) (d : Destination) (l : List Member) : State :=
  let state : SetState := if d = .purge then .dumping else .ejecting
  let s1 := s.modifySet (fun r => { r with state := state, destination := some d, arrived := false })
  (s1.pulse (.eject d)).placeSet d (s1.longestMember l)

/-- The conditions of an eject (R111). -/
def State.mayEject (s : State) : Bool :=
  s.output.set.state == .complete && s.output.set.condition == .sound
    && (s.run.state == .running || s.run.state == .draining || s.run.state == .idle)
    && !s.lines.bothFull

/-- An eject begins (R111): to the committed destination's stacker, or to the one a boundary decision leaves active. -/
def State.beginEject (s : State) : State :=
  let set := s.output.set
  match s.output.committed with
  | some (c, k) =>
    if set.copy = some c then
      (s.setOutput { s.output with committed := none }).launch k.destination set.members
    else
      let s1 := s.decideBoundary set.breakFlag
      s1.launch s1.output.active.destination set.members
  | none =>
    let s1 := s.decideBoundary set.breakFlag
    s1.launch s1.output.active.destination set.members

/-- The eject condition is examined (R111). -/
def State.examineEject (s : State) : State := if s.mayEject then s.beginEject else s

/-- The set's copy still has a broken-copy record (R112). -/
def State.setAwaited (s : State) : Bool :=
  match s.output.set.copy with
  | some c => (s.output.brokenRecord c).isSome
  | none => false

/-- The conditions of a dump (R112). A DISTURBED set is `after a CLEAR` when the set-clearance mark is clear.
(DEDUCED, notes/assumptions/14.md.) -/
def State.mayDump (s : State) : Bool :=
  ((s.output.set.state == .collecting && s.output.set.broken && s.output.set.condition == .sound)
      || (s.output.set.condition == .disturbed && !s.run.clearanceMark))
    && !s.setAwaited && !s.lines.purgeFull
    && (s.run.state == .running || s.run.state == .draining || s.run.state == .idle || s.run.state == .clearing)

/-- A dump begins (R112, R115). -/
def State.beginDump (s : State) : State :=
  let set := s.output.set
  ((s.dropCommitted set.copy).modifySet (fun r => { r with condition := .sound })).launch .purge
    (set.members ++ set.overruns)

/-- The dump condition is examined (R112). -/
def State.examineDump (s : State) : State := if s.mayDump then s.beginDump else s

/-- The output unit is told that the run controller has entered a state (R111, R112). -/
def State.examineSet (s : State) : State := s.examineEject.examineDump

/-! ## Broken copies (R117 to R119) -/

/-- The TOP NOTICE of one stacker (R119). -/
def State.topNotice (s : State) (c : Copy) (k : Stacker) : State :=
  match s.output.top k with
  | some (d, n) =>
    if d = c then (s.record (.topNotice c.statement k n)).setOutput ((s.record (.topNotice c.statement k n)).output.setTop k none)
    else s
  | none => s

/-- What the resolution of a record does (R118, R119); K1's notice goes first. (DESIGN CHOICE,
notes/assumptions/40.md.) -/
def State.resolved (s : State) (r : BrokenCopy) : State :=
  match r.mode with
  | .set => s.examineDump
  | .direct => (s.topNotice r.copy .k1).topNotice r.copy .k2

/-- A copy's record is examined, and leaves the list when it is resolved (R118). -/
def State.examineCopy (s : State) (c : Copy) : State :=
  match s.output.brokenRecord c with
  | none => s
  | some r =>
    if r.withdrawalPending || s.copyLive c then s
    else (s.setOutput { s.output with broken := s.output.broken.filter (fun x => !(x.copy == c)) }).resolved r

/-- The broken-copy list with a copy's record, its withdrawal pending (R117, R118). -/
def noteBroken (c : Copy) (mode : OutputMode) : List BrokenCopy → List BrokenCopy
  | [] => [⟨c, mode, true⟩]
  | r :: rs => if r.copy = c then { r with withdrawalPending := true } :: rs else r :: noteBroken c mode rs

/-- The broken-copy list when the withdrawal of a copy has been carried out (R118). -/
def noteWithdrawn (c : Copy) (l : List BrokenCopy) : List BrokenCopy :=
  l.map (fun r => if r.copy = c then { r with withdrawalPending := false } else r)

/-- A withdrawal by copy is carried out and reported, and the copy's record examined (R37, R118). (DEDUCED,
notes/assumptions/13.md.) -/
def State.withdrawBroken (s : State) (c : Copy) : State :=
  let s1 := s.withdrawCopy c
  (s1.setOutput { s1.output with broken := noteWithdrawn c s1.output.broken }).examineCopy c

/-- What a break does to the set (R117): the set's broken flag is set, and COMPLETE returns to COLLECTING. -/
def SetRecord.breakFor (r : SetRecord) (c : Copy) : SetRecord :=
  if r.copy = some c then
    { r with broken := true, state := if r.state = .complete then .collecting else r.state }
  else r

/-- A break of a copy (R117). -/
def State.breakCopy (s : State) (c : Copy) (mode : OutputMode) : State :=
  let s1 := s.modifySheets (fun sh => if sh.plan.copy = c then { sh with broken := true } else sh)
  let s2 := s1.modifySet (fun r => r.breakFor c)
  (s2.setOutput { s2.output with broken := noteBroken c mode s2.output.broken }).withdrawBroken c

/-- What a deschedule of sheets of a broken copy does: the copy is withdrawn again (R118). -/
def State.rewithdraw (s : State) (c : Copy) : State :=
  match s.output.brokenRecord c with
  | none => s
  | some r => (s.setOutput { s.output with broken := noteBroken c r.mode s.output.broken }).withdrawBroken c

/-! ## Decisions at FX (R103) -/

/-- The sheet's copy has a broken-copy record. -/
def State.copyBroken (s : State) (c : Copy) : Bool := (s.output.brokenRecord c).isSome

/-- The sheet is on the first pass of a DUPLEX sheet. -/
def Sheet.firstOfTwo (sh : Sheet) : Bool := sh.plan.sides == .duplex && sh.pass == 1

/-- The route of a sheet on its final pass, with what deciding it changes (R103). -/
def State.decideRoute (s : State) (sh : Sheet) : Route × State :=
  match sh.plan.mode with
  | .set =>
    (.accumulate,
      if sh.plan.k = 1 then s.setOutput { s.output with latest := some (sh.plan.copy, sh.plan.breakFlag) } else s)
  | .direct =>
    if sh.broken || s.copyBroken sh.plan.copy then (.purge, s)
    else
      let s1 := if sh.plan.k = 1 then s.decideDirect sh.plan.breakFlag else s
      (s1.output.active.route, s1)

/-- The decision of R103 for a sheet matched at FX: its broken flag, loop and route, and the gates (R86, R104).  The
answer is the stretch of the next expectation. -/
def State.decideAtFx (s : State) (h : Handle) (sh : Sheet) : Stretch × State :=
  let broken := sh.broken || s.copyBroken sh.plan.copy
  if sh.firstOfTwo then
    (.leg legFxLi,
      (s.modifySheet h (fun x => { x with broken := broken, state := .looping })).loopGate (fun g => g.decide .loop h))
  else
    let d := s.decideRoute sh
    (.leg legFxXo,
      (((d.2.modifySheet h (fun x => { x with broken := broken, state := .exiting, route := some d.1 })).loopGate
        (fun g => g.decide .out h)).routeGate (fun g => g.decide d.1 h)))

/-! ## Dispositions (R78, R109, R110, R113, R116) -/

/-- A sheet as the accumulator holds it. -/
def Sheet.member (sh : Sheet) : Member :=
  ⟨sh.plan.sequence, sh.plan.statement, sh.plan.k, sh.plan.front, sh.plan.back, sh.plan.slot, sh.plan.media,
    sh.frontFaulted || sh.backFaulted⟩

/-- What a member's disposition record carries. -/
def Member.disposition (m : Member) : Disposition := ⟨m.sequence, m.statement, m.k, m.slot⟩

/-- The sheet breaks the set it joins (R109). -/
def Sheet.breaks (sh : Sheet) : Bool := sh.broken || sh.frontFaulted || sh.backFaulted

/-- The set after the append of its next member (R109). -/
def SetRecord.append (r : SetRecord) (sh : Sheet) : SetRecord :=
  let r1 := { r with members := r.members ++ [sh.member], broken := r.broken || sh.breaks }
  if r1.members.length = r1.n ∧ r1.broken = false ∧ r1.condition ≠ .disturbed then { r1 with state := .complete } else r1

/-- The set opened by its sheet 1 (R109). -/
def SetRecord.opened (r : SetRecord) (sh : Sheet) : SetRecord :=
  { r with state := .collecting, copy := some sh.plan.copy, n := sh.plan.n, breakFlag := sh.plan.breakFlag }

/-- The sheet opens the EMPTY set (R109). -/
def SetRecord.opensWith (r : SetRecord) (sh : Sheet) : Bool := r.state == .empty && sh.plan.k == 1

/-- The sheet is the next member of the COLLECTING set (R109). -/
def SetRecord.continuesWith (r : SetRecord) (sh : Sheet) : Bool :=
  r.state == .collecting && decide (r.members.length < r.n) && r.copy == some sh.plan.copy
    && sh.plan.k == r.members.length + 1

/-- A set is emptied (R113). -/
def State.emptySet (s : State) : State := s.modifySet (fun _ => SetRecord.empty)

/-- Members are disposed of at an eject or dump completion (R113). -/
def State.disposeMembers (s : State) (d : Destination) : List Member → State
  | [] => s
  | m :: ms =>
    let body : LogBody := match d with
      | .k1 => .delivered m.disposition .k1
      | .k2 => .delivered m.disposition .k2
      | .purge => .dumped m.disposition
    ((s.dropSides (d != .purge) m.front m.back).record body).disposeMembers d ms

/-- An eject to a stacker has completed: stack top and jog line (R113). -/
def State.stackSet (s : State) (k : Stacker) : State :=
  match s.output.set.copy with
  | some c => s.setOutput ((s.output.setTop k (some (c, s.output.set.n))).jog k)
  | none => s

/-- The latest set copy becomes none if it names the set's copy (R113). -/
def State.forgetLatest (s : State) : State :=
  match s.output.latest, s.output.set.copy with
  | some (c, _), some d => if c = d then s.setOutput { s.output with latest := none } else s
  | _, _ => s

/-- The eject completion (R113); none is taken for a SCATTERED set (R114) or one not in flight. -/
def State.completeEject (s : State) : State :=
  let set := s.output.set
  if set.inFlight && set.condition != .scattered then
    match set.destination with
    | none => s
    | some d =>
      let s1 := s.disposeMembers d (set.members ++ set.overruns)
      let s2 := match d with
        | .k1 => s1.stackSet .k1
        | .k2 => s1.stackSet .k2
        | .purge => s1
      s2.forgetLatest.emptySet
  else s

/-- A DIRECT sheet is disposed of on a stacker (R116). -/
def State.deliverDirect (s : State) (sh : Sheet) (k : Stacker) : State :=
  let s1 := (s.dropSides true sh.plan.front sh.plan.back).record (.delivered sh.plan.disposition k)
  let top := match s1.output.top k with
    | some (c, n) => if c = sh.plan.copy then (c, n + 1) else (sh.plan.copy, 1)
    | none => (sh.plan.copy, 1)
  let o := s1.output.setTop k (some top)
  s1.setOutput (if sh.plan.k = 1 then o.jog k else o)

/-- A DIRECT sheet is disposed of in the purge bin (R116). -/
def State.purgeDirect (s : State) (sh : Sheet) : State :=
  (s.dropSides false sh.plan.front sh.plan.back).record (.purged sh.plan.disposition)

end Sys2Proof.Machine
end

