-- ==== Sys2Proof/Machine/Scheduler.lean ====
section
/-! DEFINITION. Chapter 4: the run grid, the slot ring, admission, picks, hold releases and the deschedule. -/

namespace Sys2Proof.Machine

/-! ## The grid (R56 to R60) -/

/-- The transfer time of a slot (R56). -/
def Grid.transfer (g : Grid) (slot : Nat) : Tick := after g.t0 (slot * g.pitch)

/-- The pick due of a front slot fed from a tray (R62). -/
def Grid.pickDue (g : Grid) (slot : Nat) (t : Tray) : Tick := g.transfer slot - BitVec.ofNat 32 g.lead[t]

/-- The release due of a back slot (R69). -/
def Grid.releaseDue (g : Grid) (slot : Nat) : Tick := g.transfer slot - BitVec.ofNat 32 g.returnLead

/-- The ring with every entry FREE. -/
def freeRing : List RingEntry := List.replicate 32 .free

/-- The ring entry of a slot is FREE, and the ring covers the slot (R59, R62). -/
def Grid.slotFree (g : Grid) (slot : Nat) : Bool :=
  decide (g.current ≤ slot) && g.ring[slot - g.current]? == some .free

/-- The grid with the ring entry of a slot replaced. -/
def Grid.reserve (g : Grid) (slot : Nat) (e : RingEntry) : Grid := { g with ring := g.ring.set (slot - g.current) e }

/-- The grid a timing set gives at a lock time; slot 0 has passed (R56, R58). -/
def TimingSet.grid (t : TimingSet) (lock : Tick) : Grid :=
  ⟨lock, t.pitch, t.lead, t.returnLead, t.loopPitches, t.setGap, 1, freeRing⟩

/-- The grid after its current slot has passed (R58). -/
def Grid.pass (g : Grid) : Grid := { g with current := g.current + 1, ring := g.ring.tail ++ [.free] }

/-- The run grid is set from the current timing set, with T0 the present tick (R56, R60). -/
def State.setGrid (s : State) : State :=
  s.setScheduler
    { s.scheduler with
      grid := s.tracker.timing.map (fun t => t.grid s.tick)
      admissionBounds := none
      pickBounds := none }

/-- A sheet's timers cancelled; the time of its arrival at LH is kept (R57). -/
def SheetTimers.cancel (t : SheetTimers) : SheetTimers := { SheetTimers.none with arrival := t.arrival }

/-- The run grid is discarded, with its bounds and every timer (R57); the wait reason is then NOT RUNNING (R65). -/
def State.discardGrid (s : State) : State :=
  s.setScheduler
    { grid := none
      admissionBounds := none
      pickBounds := none
      waitReason := .notRunning
      timers := tabulate 16 (fun h => (s.scheduler.timers[h]).cancel) }

/-- The timers of a sheet. -/
def State.timers (s : State) (h : Handle) : SheetTimers := s.scheduler.timers[h]

/-- The timers of a sheet are replaced. -/
def State.putTimers (s : State) (h : Handle) (t : SheetTimers) : State :=
  s.setScheduler { s.scheduler with timers := put s.scheduler.timers h t }

/-! ## Admission (R61 to R65) -/

/-- The final slot of an entry whose front slot is given (R62). -/
def Grid.finalSlot (g : Grid) (x : PlanEntry) (front : Nat) : Nat :=
  match x.sides with
  | .simplex => front
  | .duplex => front + g.loopPitches

/-- The pick time check (R62). -/
def pickTimeFits (now : Tick) (last : Option Bounds) (due : Tick) : Bool :=
  notEarlier due now &&
    match last with
    | none => true
    | some b => laterThan due b.pickDue

/-- The front order, final order and set gap checks (R62). -/
def orderFits (g : Grid) (last : Option Bounds) (x : PlanEntry) (front final : Nat) : Bool :=
  match last with
  | none => true
  | some b =>
    decide (b.front < front) && decide (b.final < final)
      && !(x.k == 1 && x.mode == .set && decide (final < b.final + g.setGap))

/-- A front slot meets every check of the slot search (R62). -/
def Grid.qualifies (g : Grid) (now : Tick) (last : Option Bounds) (x : PlanEntry) (front : Nat) : Bool :=
  pickTimeFits now last (g.pickDue front x.tray) && orderFits g last x front (g.finalSlot x front)
    && g.slotFree front && g.slotFree (g.finalSlot x front)

/-- The slot search (R62): the smallest qualifying front slot of the ring. -/
def Grid.search (g : Grid) (now : Tick) (last : Option Bounds) (x : PlanEntry) : Option Nat :=
  (firstIndex 32 (fun i => g.qualifies now last x (g.current + i.val))).map (fun i => g.current + i.val)

/-- Some feed hold is set. -/
def FeedHolds.any (f : FeedHolds) : Bool :=
  f.tray.toList.any id || f.operator || f.stackersFull || f.purgeFull

/-- The log reserve allows admission (R61, R75). -/
def State.reserveAllows (s : State) : Bool :=
  decide (s.liveCount + s.output.set.members.length + 8 ≤ s.logFree)

/-- What one evaluation of admission finds (R65): the reason to wait, or the grid, the head, the rest of the queue, the
handle and the front slot of an admission. -/
inductive Evaluation where
  | waits (reason : WaitReason)
  | admits (g : Grid) (x : PlanEntry) (rest : List PlanEntry) (h : Handle) (front : Nat)

/-- The lowest FREE handle (R63). -/
def State.freeHandle (s : State) : Option Handle := firstIndex 16 (fun h => (s.sheet h).isNone)

/-- The evaluation of the queue head, the conditions taken in the order of R65. -/
def State.evaluateHead (s : State) (g : Grid) : List PlanEntry → Evaluation
  | [] => .waits .queueEmpty
  | x :: rest =>
    if s.run.holds.any || s.lines.trayEmpty[x.tray] then .waits .hold
    else
      match s.freeHandle with
      | none => .waits .liveLimit
      | some h =>
        if !s.reserveAllows then .waits .logReserve
        else
          match g.search s.tick s.scheduler.admissionBounds x with
          | none => .waits .horizon
          | some front => .admits g x rest h front

/-- One evaluation of admission (R61, R65). -/
def State.evaluation (s : State) : Evaluation :=
  match s.scheduler.grid with
  | none => .waits .notRunning
  | some g =>
    if s.run.state = .running ∧ s.drive.state = .locked then s.evaluateHead g s.plan.queue
    else .waits .notRunning

/-- The sheet entry an admission fills (R63, R76). The reference time and the cover start read 0 until they are given
a value. (DESIGN CHOICE, notes/assumptions/37.md.) -/
def admittedSheet (g : Grid) (x : PlanEntry) (front : Nat) : Sheet where
  plan := x
  pass := 1
  frontSlot := front
  backSlot := match x.sides with
    | .simplex => none
    | .duplex => some (front + g.loopPitches)
  finalSlot := g.finalSlot x front
  state := .scheduled
  leg := none
  reference := 0
  lastSensor := none
  route := none
  frontFaulted := false
  backFaulted := false
  broken := false
  halted := false
  covering := false
  coverStart := 0
  resting := false

/-- The ring after an admission (R63). -/
def Grid.admitHead (g : Grid) (x : PlanEntry) (h : Handle) (front : Nat) : Grid :=
  match x.sides with
  | .simplex => g.reserve front (.front h)
  | .duplex => (g.reserve front (.front h)).reserve (front + g.loopPitches) (.back h)

/-- The timers an admission sets (R63, R69). -/
def Grid.admissionTimers (g : Grid) (x : PlanEntry) (front : Nat) : SheetTimers where
  pick := some (g.pickDue front x.tray)
  release := match x.sides with
    | .simplex => none
    | .duplex => some (g.releaseDue (front + g.loopPitches))
  late := none
  latePending := false
  arrival := none

/-- An admission (R63). -/
def State.admitHead (s : State) (g : Grid) (x : PlanEntry) (rest : List PlanEntry) (h : Handle) (front : Nat) : State :=
  let s1 := (s.setPlan { s.plan with queue := rest }).putSheet h (some (admittedSheet g x front))
  s1.setScheduler
    { s1.scheduler with
      grid := some (g.admitHead x h front)
      admissionBounds := some ⟨front, g.finalSlot x front, g.pickDue front x.tray⟩
      timers := put s1.scheduler.timers h (g.admissionTimers x front) }

/-- The admission wait reason is set (R65). (DEDUCED, notes/assumptions/25.md.) -/
def State.setWaitReason (s : State) (r : WaitReason) : State :=
  s.setScheduler { s.scheduler with waitReason := r }

/-- Up to `n` evaluations one after another (R64). -/
def State.evaluateTimes : Nat → State → State
  | 0, s => s
  | n + 1, s =>
    match s.evaluation with
    | .waits r => s.setWaitReason r
    | .admits g x rest h front => (s.admitHead g x rest h front).evaluateTimes n

/-- The evaluation of admission (R64).  Every admission fills a FREE handle, so at most sixteen admissions precede the
evaluation that finds a reason to wait. -/
def State.evaluate (s : State) : State := s.evaluateTimes 17

/-! ## Deschedule (R72, R118) -/

/-- The SCHEDULED sheets with their handles. -/
def State.scheduled (s : State) : List (Handle × Sheet) :=
  (indices 16).filterMap (fun h => match s.sheet h with
    | some sh => if sh.state = .scheduled then some (h, sh) else none
    | none => none)

/-- A sheet is inserted before every sheet of a lower sequence. -/
def insertNewest (x : PlanEntry) : List PlanEntry → List PlanEntry
  | [] => [x]
  | y :: ys => if y.sequence < x.sequence then x :: y :: ys else y :: insertNewest x ys

/-- Entries in the order newest first. -/
def newestFirst : List PlanEntry → List PlanEntry
  | [] => []
  | x :: xs => insertNewest x (newestFirst xs)

/-- Entries are returned to the queue head one by one, in the order given (R34). -/
def returnEntries (queue : List PlanEntry) : List PlanEntry → List PlanEntry
  | [] => queue
  | x :: xs => returnEntries (x :: queue) xs

/-- The ring entry of a slot is the sheet's own front or back entry (R63). -/
def RingEntry.ownedBy (slot : Nat) (p : Handle × Sheet) : RingEntry → Bool
  | .free => false
  | .front h => h == p.1 && slot == p.2.frontSlot
  | .back h => h == p.1 && some slot == p.2.backSlot

/-- The sheets' own ring entries become FREE (R72); the entry of a slot that a departed sheet of the same handle left
stands until it passes (R59). -/
def Grid.release (g : Grid) (gone : List (Handle × Sheet)) : Grid :=
  { g with ring := g.ring.mapIdx (fun i e => if gone.any (fun p => e.ownedBy (g.current + i) p) then .free else e) }

/-- The handles' sheet entries become FREE and their timers are cancelled. -/
def State.freeScheduled (s : State) : List Handle → State
  | [] => s
  | h :: hs => ((s.putSheet h none).putTimers h SheetTimers.none).freeScheduled hs

/-- The copies of descheduled sheets are withdrawn again where they are broken (R118), in the order given. (DESIGN CHOICE,
notes/assumptions/41.md.) -/
def State.rewithdrawAll (s : State) : List PlanEntry → State
  | [] => s
  | x :: xs => (s.rewithdraw x.copy).rewithdrawAll xs

/-- A deschedule (R72). -/
def State.deschedule (s : State) : State :=
  let gone := s.scheduled
  let handles := gone.map (fun p => p.1)
  let entries := newestFirst (gone.map (fun p => p.2.plan))
  let s1 := s.freeScheduled handles
  let s2 := s1.setScheduler
    { s1.scheduler with
      grid := s1.scheduler.grid.map (fun g => g.release gone)
      admissionBounds := s1.scheduler.pickBounds }
  (s2.setPlan { s2.plan with queue := returnEntries s2.plan.queue entries }).rewithdrawAll entries

/-! ## Picks and releases (R66 to R71) -/

/-- A timer is due at the present tick (R2). -/
def State.due (s : State) (deadline : Option Tick) : Bool :=
  match deadline with
  | some d => notEarlier s.tick d
  | none => false

/-- A feed hold set is changed. -/
def State.setHolds (s : State) (f : FeedHolds) : State := s.setRun { s.run with holds := f }

/-- The pick of a SCHEDULED sheet (R66). -/
def State.pick (s : State) (h : Handle) (sh : Sheet) (due : Tick) : State :=
  let s1 := (s.modifySheet h (fun x => { x with state := .feeding })).pulse (.pick sh.plan.tray)
  (s1.setScheduler { s1.scheduler with pickBounds := some ⟨sh.frontSlot, sh.finalSlot, due⟩ }).place h
    (.pick sh.plan.tray)

/-- A pick due that finds its tray empty (R67). -/
def State.trayFoundEmpty (s : State) (t : Tray) : State :=
  let s1 := s.deschedule
  (s1.setHolds { s1.run.holds with tray := put s1.run.holds.tray t true }).evaluate

/-- HOLD RELEASE may be pulsed (R70). (DEDUCED, notes/assumptions/24.md.) -/
def State.mayRelease (s : State) : Bool :=
  (s.run.state == .running || s.run.state == .draining) && s.drive.state == .locked

/-- The cover of LH counts from the HOLD RELEASE pulse (R93). -/
def State.startHoldCover (s : State) (h : Handle) : State :=
  let r := s.sensor .LH
  if r.occupant = .sheet h then
    s.putSensor .LH { r with coverStart := s.tick, coverTimer := some (after s.tick r.coverMax) }
  else s

/-- HOLD RELEASE is pulsed for a HELD sheet (R70). -/
def State.release (s : State) (h : Handle) : State :=
  let s1 := (s.modifySheet h (fun x => { x with state := .returning, pass := 2 })).pulse .holdRelease
  (s1.startHoldCover h).place h (.leg legLhMg)

/-- The hold minimum dwell; 0 while no configuration is in force. -/
def State.minimumDwell (s : State) : Nat :=
  match s.config with
  | some c => c.minimumDwell
  | none => 0

/-- What the expiry of a release due timer does to a sheet by its state (R70). -/
def State.releaseBy (s : State) (h : Handle) (sh : Sheet) : State :=
  match sh.state with
  | .held =>
    match (s.timers h).arrival with
    | none => s
    | some a =>
      let earliest := after a s.minimumDwell
      if notEarlier s.tick earliest then s.release h
      else s.putTimers h { s.timers h with late := some earliest }
  | .feeding => s.putTimers h { s.timers h with latePending := true }
  | .approach => s.putTimers h { s.timers h with latePending := true }
  | .printing => s.putTimers h { s.timers h with latePending := true }
  | .looping => s.putTimers h { s.timers h with latePending := true }
  | .scheduled => s
  | .returning => s
  | .exiting => s
  | .stranded => s

/-- The arrival of a sheet at LH is reported (R69, R70): a pending late release is set at the arrival plus the dwell,
unless there is no grid (R57). -/
def State.arriveAtHold (s : State) (h : Handle) : State :=
  let t := { s.timers h with arrival := some s.tick }
  if t.latePending && s.scheduler.grid.isSome then
    s.putTimers h { t with late := some (after s.tick s.minimumDwell), latePending := false }
  else s.putTimers h t

/-- The current slot passes (R58). -/
def State.passSlot (s : State) (g : Grid) : State :=
  (s.setScheduler { s.scheduler with grid := some g.pass }).evaluate

end Sys2Proof.Machine
end

