-- ==== Sys2Proof/Machine/DriveMonitor.lean ====
section
/-! DEFINITION. Chapter 7: the drive monitor, its encoder windows, lock, deviation, loss and coast. -/

namespace Sys2Proof.Machine

/-- Every run counter at 0 (R125, R126, R130, R132). -/
def Drive.clearRuns (d : Drive) : Drive := { d with inBandRun := 0, deviationRun := 0, zeroRun := 0 }

/-- A window opens at a tick (R123). -/
def Drive.openWindow (d : Drive) (t : Tick) : Drive := { d with count := 0, windowClose := some (after t 1000) }

/-- A spin-up request (R125). -/
def Drive.spinUp (d : Drive) (t : Tick) (c : SpeedCode) (timeout : Nat) : Drive :=
  { (d.openWindow t).clearRuns with
    state := .spinUp, target := c, speed := c, enable := true, lockDeadline := some (after t timeout) }

/-- The drive is commanded to another code while it turns (R132, R134). -/
def Drive.relockTo (d : Drive) (t : Tick) (c : SpeedCode) (timeout : Nat) : Drive :=
  { (d.openWindow t).clearRuns with
    state := .relock, target := c, speed := c, enable := true, lockDeadline := some (after t timeout) }

/-- A coast request (R130). -/
def Drive.coast (d : Drive) (t : Tick) : Drive :=
  match d.state with
  | .off => d
  | .coasting => d
  | .spinUp | .locked | .relock =>
    { (d.openWindow t).clearRuns with
      state := .coasting, target := d.current, speed := d.current, enable := false, lockDeadline := none }

/-- A count lies in the band of an expected count and a tolerance (R124). -/
def inBand (expected tolerance count : Nat) : Bool :=
  decide (expected - expected * tolerance / 256 ≤ count) && decide (count ≤ expected + expected * tolerance / 256)

/-- What a closing window makes the drive monitor report. -/
inductive DriveReport where
  | nothing | lock | loss | deviation
  deriving DecidableEq, Repr

/-- The drive locks (R126). -/
def Drive.lock (d : Drive) : Drive :=
  { d.clearRuns with state := .locked, current := d.target, speed := d.target, lockDeadline := none }

/-- The judgement of a closing window against the lock band (R126). -/
def Drive.judgeLock (d : Drive) (inside : Bool) : Drive × DriveReport :=
  if inside then
    if 4 ≤ d.inBandRun + 1 then (d.lock, .lock) else ({ d with inBandRun := d.inBandRun + 1 }, .nothing)
  else ({ d with inBandRun := 0 }, .nothing)

/-- The judgement of a closing window while LOCKED (R129); the runs stay at their limits. -/
def Drive.judgeRun (d : Drive) (inside : Bool) (count : Nat) : Drive × DriveReport :=
  if inside then ({ d with deviationRun := 0, zeroRun := 0 }, .nothing)
  else
    let deviation := min 3 (d.deviationRun + 1)
    let zeros := if count = 0 then min 2 (d.zeroRun + 1) else 0
    ({ d with deviationRun := deviation, zeroRun := zeros },
      if zeros = 2 then .loss else if deviation = 3 then .deviation else .nothing)

/-- The judgement of a closing window while COASTING (R130). -/
def Drive.judgeCoast (d : Drive) (count : Nat) : Drive :=
  if count = 0 then
    if 2 ≤ d.zeroRun + 1 then { d with zeroRun := 2, state := .off, count := 0, windowClose := none }
    else { d with zeroRun := d.zeroRun + 1 }
  else { d with zeroRun := 0 }

/-- The close of the open window (R123, R126, R129, R130): the count becomes the last count, the next window opens, and
the count is judged as the drive state requires, against the expected counts of the target code and of the run. -/
def Drive.closeWindow (d : Drive) (t : Tick) (lockInside runInside : Nat → Bool) : Drive × DriveReport :=
  let n := d.count
  let d1 := { d with lastCount := n }.openWindow t
  match d.state with
  | .spinUp => d1.judgeLock (lockInside n)
  | .relock => d1.judgeLock (lockInside n)
  | .locked => d1.judgeRun (runInside n) n
  | .coasting => (d1.judgeCoast n, .nothing)
  | .off => ({ d with count := 0, windowClose := none }, .nothing)

/-- The drive monitor's state is replaced by what a request makes of it. -/
def State.withDrive (s : State) (f : Drive → Drive) : State := s.setDrive (f s.drive)

/-- A coast is requested at the present tick (R130). -/
def State.coast (s : State) : State := s.withDrive (fun d => d.coast s.tick)

/-- The configured lock timeout; 0 while no configuration is in force. -/
def State.lockTimeoutTicks (s : State) : Nat :=
  match s.config with
  | some c => c.lockTimeout
  | none => 0

/-- A count lies in the lock band of the target code (R124, R126). -/
def State.inLockBand (s : State) (n : Nat) : Bool :=
  match s.config with
  | some c => inBand (encoderCountOf c c.speed[s.drive.target]) c.lockTolerance n
  | none => false

/-- A count lies in the run band of the current timing set (R124, R129). -/
def State.inRunBand (s : State) (n : Nat) : Bool :=
  match s.config, s.tracker.timing with
  | some c, some t => inBand t.encoderCount c.runTolerance n
  | _, _ => false

end Sys2Proof.Machine
end

