-- ==== Sys2Proof/Machine/RunController.lean ====
section
/-! DEFINITION. Chapter 8 and the speed change of chapter 7: stops, the grace, drains, clearance and the answers to the
drive monitor's reports. -/

namespace Sys2Proof.Machine

/-! ## Causes (R97, R138 to R141) -/

/-- A stop cause report; its time is that of the present event (8.3). -/
structure Report where
  cause : Cause
  sensor : Option Sensor
  sequence : Option Nat
  setMark : Bool
  deriving DecidableEq, Repr

/-- A cause of no sensor and no sequence (8.3). -/
def Report.bare (c : Cause) : Report := ⟨c, none, none, false⟩

/-- A cause of the tracker at a sensor, naming an item or none (R97). -/
def State.reportOf (s : State) (c : Cause) (x : Sensor) (i : Option Item) : Report :=
  match i with
  | none => ⟨c, some x, none, false⟩
  | some i => ⟨c, some x, s.sequenceOf i, i == .set⟩

/-- The run state is replaced. -/
def State.enter (s : State) (r : RunState) : State := s.setRun { s.run with state := r }

/-- A speed change ends with a status (R131). -/
def State.endChange (s : State) (c : ChangeStatus) : State :=
  (s.setRun { s.run with changeStatus := c, drainTarget := none }).raiseE .speedChangeEnd

/-- A speed change is in progress for a stop: DRAINING with a drain target, or RESPEED (R135). -/
def RunControl.changing (r : RunControl) : Bool :=
  (r.state == .draining && r.drainTarget.isSome) || r.state == .respeed

/-- A speed change in progress is aborted (R135). -/
def State.abortChange (s : State) (changing : Bool) : State := if changing then s.endChange .aborted else s

/-- A START, STOP or CANCEL SPEED CHANGE being run finishes FAILED with the stop cause (R135, R139). -/
def State.failWaiting (s : State) (c : Cause) : State :=
  ((s.finishIf .start .failed c.detail).finishIf .stop .failed c.detail).finishIf .cancelSpeedChange .failed c.detail

/-- The configured stop grace; 0 while no configuration is in force. -/
def State.stopGrace (s : State) : Nat :=
  match s.config with
  | some c => c.stopGrace
  | none => 0

/-- The grace deadline of a first cause (R139): a cover opening has no grace. -/
def State.graceFor (s : State) (c : Cause) : Tick := if c = .coverOpen then s.tick else after s.tick s.stopGrace

/-- The jam record a first cause begins (R139). -/
def Report.jam (r : Report) (time : Tick) : Jam := ⟨r.cause, r.sensor, r.sequence, r.setMark, time, none, false⟩

/-- The stop is entered (R139). The run state is STOPPING before the deschedule, so that nothing the deschedule brings
about begins a dump. (DEDUCED, notes/assumptions/15.md.) The records of the deschedule are handed over before the
result of a waiting command is asked for. (DESIGN CHOICE, notes/assumptions/53.md.) -/
def State.enterStop (s : State) (r : Report) : State :=
  let changing := s.run.changing
  let s1 := s.setRun
    { s.run with state := .stopping, jam := some (r.jam s.tick), graceDeadline := some (s.graceFor r.cause) }
  ((s1.coast.deschedule.discardGrid).abortChange changing).failWaiting r.cause

/-- A jam record with a later cause entered (R141). -/
def Jam.later (j : Jam) (r : Report) : Jam :=
  match j.secondary with
  | none => { j with secondary := some (r.cause, r.sensor) }
  | some _ => { j with multiple := true }

/-- A later cause (R141); a cover opening ends the grace at its own tick. -/
def State.laterCause (s : State) (r : Report) : State :=
  s.setRun
    { s.run with
      jam := s.run.jam.map (fun j => j.later r)
      graceDeadline := if r.cause = .coverOpen then some s.tick else s.run.graceDeadline }

/-- A stop cause report is taken by the run state (R138). -/
def State.report (s : State) (r : Report) : State :=
  match s.run.state with
  | .starting => s.enterStop r
  | .running => s.enterStop r
  | .draining => s.enterStop r
  | .respeed => s.enterStop r
  | .stopping => s.laterCause r
  | .stopped => s
  | .clearing => s
  | .idle => s
  | .inactive => s

/-- A set failure outside a run is a JAM of its own (R150). -/
def State.setFailure (s : State) (r : Report) : State :=
  let j := r.jam s.tick
  ((s.setRun { s.run with lastJam := some j }).record (.jam j)).raiseE .stop

/-- A fault of the path is reported as the run state has it (R83, R97): a stop cause or a later cause where sheet queues
are judged, a set failure elsewhere. -/
def State.fault (s : State) (c : Cause) (x : Sensor) (i : Option Item) : State :=
  if s.run.state.judgesSheets then s.report (s.reportOf c x i) else s.setFailure (s.reportOf c x i)

/-! ## Drain end (R142, R132) -/

/-- The drain end holds (R142). -/
def State.drained (s : State) : Bool :=
  s.run.state == .draining && s.liveCount == 0 && !s.output.set.inFlight

/-- The drain end is examined (R142), and takes the path of R132 when a drain target is present. STOP's result is asked
for before the STACKER SWITCH record of an eject begun at the entry to IDLE. (DESIGN CHOICE, notes/assumptions/53.md.) -/
def State.examineDrain (s : State) : State :=
  if s.drained then
    match s.run.drainTarget with
    | none => (((s.discardGrid.coast).enter .idle).finishIf .stop .done 0).examineSet
    | some c =>
      let s1 := s.discardGrid
      (s1.setRun { s1.run with state := .respeed, changeStatus := .relocking }).withDrive
        (fun d => d.relockTo s.tick c s.lockTimeoutTicks)
  else s

/-- DRAINING is entered (R73, R132, R159): the deschedule, the output unit's examination, the drain end. -/
def State.enterDraining (s : State) (target : Option SpeedCode) (status : ChangeStatus) : State :=
  let s1 := s.setRun { s.run with state := .draining, drainTarget := target, changeStatus := status }
  (s1.deschedule.examineSet).examineDrain.evaluate

/-! ## Answers to the drive monitor (R126 to R135) -/

/-- The current timing set is computed for the current code (R18). -/
def State.computeTiming (s : State) : State :=
  s.setTracker { s.tracker with timing := s.config.map (fun c => timingSet c s.drive.current) }

/-- RUNNING is entered at a lock (R128, R133): the timing set and the grid. -/
def State.runAtLock (s : State) : State := s.computeTiming.setGrid.enter .running

/-- A lock report is taken (R128, R133); `old` is the current code as it stood before the lock. CANCEL's result is asked
for before the STACKER SWITCH record of an eject begun at the entry to RUNNING. (DESIGN CHOICE,
notes/assumptions/53.md.) -/
def State.takeLock (s : State) (old : SpeedCode) : State :=
  match s.run.state with
  | .starting =>
    ((((s.computeTiming.setGrid).record (.speedSet old s.drive.current)).enter .running).finishIf .start .done 0
      ).evaluate.examineSet
  | .respeed =>
    let s1 := s.runAtLock
    match s.run.changeStatus with
    | .returning => ((s1.endChange .cancelled).finishIf .cancelSpeedChange .cancelled 0).evaluate.examineSet
    | _ => ((s1.record (.speedSet old s.drive.current)).endChange .done).evaluate.examineSet
  | _ => s

/-- The lock timeout is taken (R127, R134). A window that closes at the same tick is replaced by the coast's and not
judged. (DEDUCED, notes/assumptions/42.md.) The result's write is asked for before the STACKER SWITCH record of an eject
begun at the entry to IDLE. (DESIGN CHOICE, notes/assumptions/53.md.) (detail 0: R191.) -/
def State.takeLockTimeout (s : State) : State :=
  match s.run.state with
  | .starting => (((s.coast).enter .idle).finishIf .start .failed 0x202).examineSet
  | .respeed => ((((s.coast).enter .idle).endChange .failed).finishIf .cancelSpeedChange .failed 0).examineSet
  | _ => s

/-- A report of the drive monitor is taken by the run controller. -/
def State.takeDriveReport (s : State) (old : SpeedCode) : DriveReport → State
  | .nothing => s
  | .lock => s.takeLock old
  | .loss => s.report (Report.bare .driveLoss)
  | .deviation => s.report (Report.bare .driveDeviation)

/-! ## The grace expiry (R140, R99) -/

/-- The tracker strands every live sheet and cancels what it expects (R99). -/
def State.strand (s : State) : State :=
  (s.modifySheets (fun sh => { sh with state := .stranded, covering := false })).modifySensors (fun r =>
    { r with
      expectations := []
      coverTimer := none
      occupant := match r.occupant with
        | .none => .none
        | .untracked => .untracked
        | .sheet _ => .untracked
        | .set => .untracked })

/-- The jam record under construction is completed and handed over (R140). -/
def State.completeJam (s : State) : State :=
  match s.run.jam with
  | none => s
  | some j => (s.setRun { s.run with lastJam := some j, jam := none }).handOver j.time (.jam j)

/-- The expiry of the stop grace (R140). -/
def State.expireGrace (s : State) : State :=
  let s1 := s.strand
  let s2 := if s1.output.set.inFlight then s1.scatter .late else s1
  let s3 := s2.completeJam.raiseE .stop
  s3.setRun { s3.run with graceDeadline := none, state := .stopped }

/-! ## Clearance (R143 to R148) -/

/-- The set is settled (R147): EMPTY, or SOUND and not broken. (EMPTY with overrun sheets: DEDUCED,
notes/assumptions/39.md.) -/
def SetRecord.settled (r : SetRecord) : Bool := r.state == .empty || (r.condition == .sound && !r.broken)

/-- The end of clearance holds (R147). -/
def State.cleared (s : State) : Bool :=
  s.run.state == .clearing && s.run.outstanding == 0 && s.output.set.settled && !s.run.clearanceMark

/-- The end of clearance is examined (R147). -/
def State.examineClearance (s : State) : State :=
  if s.cleared then ((s.enter .idle).finishIf .clear .done 0).examineSet else s

/-- A STRANDED record of a CLEAR: drops not delivered, the record, one more outstanding (R145). -/
def State.disposeStranded (s : State) (d : Disposition) (front back : Option BufferNo) (last : Option Sensor) : State :=
  let s1 := (s.dropSides false front back).record (.stranded d last)
  s1.setRun { s1.run with outstanding := s1.run.outstanding + 1 }

/-- The STRANDED sheets with their handles, in order of increasing handle (R100). -/
def State.strandedSheets (s : State) : List (Handle × Sheet) :=
  (indices 16).filterMap (fun h => match s.sheet h with
    | some sh => if sh.state = .stranded then some (h, sh) else none
    | none => none)

/-- Step 2 of R145 for a list of STRANDED sheets, with the examination of R118 at each freeing. (DEDUCED,
notes/assumptions/23.md.) -/
def State.freeStranded (s : State) : List (Handle × Sheet) → State
  | [] => s
  | (h, sh) :: rest =>
    ((((s.putSheet h none).putTimers h SheetTimers.none).disposeStranded sh.plan.disposition sh.plan.front sh.plan.back
      sh.lastSensor).examineCopy sh.plan.copy).freeStranded rest

/-- The copies of a list of sheets with their modes, each once, in the order of their first sheets (R145). -/
def copiesOf : List (Handle × Sheet) → List (Copy × OutputMode)
  | [] => []
  | (_, sh) :: rest => (sh.plan.copy, sh.plan.mode) :: (copiesOf rest).filter (fun c => !(c.1 == sh.plan.copy))

/-- Step 3 of R145. -/
def State.breakAll (s : State) : List (Copy × OutputMode) → State
  | [] => s
  | (c, m) :: rest => (s.breakCopy c m).breakAll rest

/-- The last sensor a SCATTERED set's sheets are given (R115). -/
def SetRecord.lastSensor (r : SetRecord) : Sensor :=
  match r.arrived, r.destination with
  | true, some d => d.sensor
  | _, _ => .AC

/-- The sheets of a SCATTERED set are given STRANDED records (R115, R145). -/
def State.strandMembers (s : State) (last : Sensor) : List Member → State
  | [] => s
  | m :: ms => (s.disposeStranded m.disposition m.front m.back (some last)).strandMembers last ms

/-- A break of the set's copy, if the set holds one. -/
def State.breakSet (s : State) : State :=
  match s.output.set.copy with
  | some c => s.breakCopy c .set
  | none => s

/-- What a CLEAR does to the accumulator set (R115). -/
def State.clearSet (s : State) : State :=
  let set := s.output.set
  match set.condition with
  | .scattered =>
    ((((s.strandMembers set.lastSensor (set.members ++ set.overruns)).breakSet).emptySet).dropCommitted set.copy)
  | .disturbed => ((s.breakSet).modifySet (fun r => { r with broken := true })).examineDump
  | .sound => s.examineDump

/-- The gates at a CLEAR (R104). -/
def State.settleGates (s : State) : State := (s.loopGate Gate.settle).routeGate Gate.settle

/-- The set-clearance mark is cleared (R143). -/
def State.clearMark (s : State) : State := s.setRun { s.run with clearanceMark := false }

/-- CLEAR is carried out (R145). The mark, which step 1 clears, is cleared here after step 3: nothing of steps 2 and 3
reads it but the dump condition, and a DISTURBED set is dumped at step 4. (DEDUCED, notes/assumptions/14.md.) -/
def State.carryOutClear (s : State) : State :=
  let s1 := s.enter .clearing
  let gone := s1.strandedSheets
  ((((s1.freeStranded gone).breakAll (copiesOf gone)).clearMark).clearSet.settleGates).evaluate.examineClearance

/-! ## Set faults (R114) -/

/-- The accumulator set is put in doubt by a cover opening (R114, R149). -/
def State.coverSet (s : State) : State :=
  match s.output.set.state with
  | .ejecting => (s.cutSetOff).scatter .coverOpen
  | .dumping => (s.cutSetOff).scatter .coverOpen
  | .collecting => s.disturb .coverOpen
  | .complete => s.disturb .coverOpen
  | .empty => s

/-- A LATE or a SHORT of the set in flight scatters it (R114). -/
def State.scatterInFlight (s : State) (c : Cause) : State := if s.output.set.inFlight then s.scatter c else s

end Sys2Proof.Machine
end

