-- ==== Sys2Proof/Machine/Edges.lean ====
section
/-! DEFINITION. Chapter 5's events: leading and trailing edges, window expiry, stall, image fault. -/

namespace Sys2Proof.Machine

/-! ## Image fault (R96) -/

/-- The side being printed of a sheet is faulted already. -/
def Sheet.sideFaulted (sh : Sheet) : Bool := if sh.pass = 1 then sh.frontFaulted else sh.backFaulted

/-- The side being printed is marked faulted. -/
def Sheet.markFaulted (sh : Sheet) : Sheet :=
  if sh.pass = 1 then { sh with frontFaulted := true } else { sh with backFaulted := true }

/-- The side being printed of a sheet is marked; the first mark breaks the sheet's copy (R96). -/
def State.markImageFault (s : State) (h : Handle) : State :=
  match s.sheet h with
  | none => s
  | some sh =>
    let s1 := s.modifySheet h Sheet.markFaulted
    if sh.sideFaulted then s1 else s1.breakCopy sh.plan.copy sh.plan.mode

/-- IMAGE FAULT is asserted: the sheet that occupies TR is marked where TR is judged (R96). -/
def State.imageFaultAsserted (s : State) : State :=
  match (s.sensor .TR).occupant with
  | .sheet h => if s.run.state.judgesSheets then s.markImageFault h else s
  | .none => s
  | .set => s
  | .untracked => s

/-! ## Leading edges (R84 to R89) -/

/-- Where a time lies against a window, both ends included (R81, R84). -/
inductive WindowPhase where
  | early | within | late
  deriving DecidableEq, Repr

/-- The phase of a time against an expectation's window. -/
def Expectation.phase (e : Expectation) (t : Tick) : WindowPhase :=
  if laterThan e.opens t then .early else if laterThan t e.closes then .late else .within

/-- An occupant that is not tracked arrives (R79, R84). -/
def State.untrackedArrives (s : State) (x : Sensor) : State :=
  s.putSensor x { s.sensor x with occupant := .untracked, coverStart := s.tick, coverTimer := none }

/-- Steps 1 and 2 of R85 at a sensor: the expectation leaves, the occupant arrives, and the cover timer is set where
the cover is timed. -/
def State.occupy (s : State) (x : Sensor) (e : Expectation) (o : Occupant) (timed : Bool) : State :=
  let r := s.sensor x
  s.putSensor x
    { r with
      occupant := o
      coverStart := s.tick
      coverMin := e.coverMin
      coverMax := e.coverMax
      coverTimer := if timed then some (after s.tick e.coverMax) else none
      expectations := removeItem e.item r.expectations }

/-- Steps 1 to 3 of R85 for a sheet; at LH no cover timer is set (R93). -/
def State.matchSheet (s : State) (x : Sensor) (e : Expectation) (h : Handle) : State :=
  (s.occupy x e (.sheet h) (x != .LH)).modifySheet h (fun sh =>
    { sh with lastSensor := some x, covering := true, coverStart := s.tick })

/-- A sheet is matched at a collision: it is halted, and at LH it rests there (R87, R88, R93). -/
def State.matchHalted (s : State) (x : Sensor) (e : Expectation) (h : Handle) : State :=
  (s.matchSheet x e h).modifySheet h (fun sh => { sh with halted := true, resting := x == .LH })

/-- A sheet's state is replaced. -/
def State.setSheetState (s : State) (h : Handle) (x : SheetState) : State :=
  s.modifySheet h (fun sh => { sh with state := x })

/-- The match at TR (R85, R96). -/
def State.matchAtTransfer (s : State) (h : Handle) : State :=
  let s1 := (s.setSheetState h .printing).place h (.leg legTrFx)
  if s1.lines.imageFault then s1.markImageFault h else s1

/-- The match at FX (R86). -/
def State.matchAtFuser (s : State) (h : Handle) : State :=
  match s.sheet h with
  | none => s
  | some sh =>
    let d := s.decideAtFx h sh
    d.2.place h d.1

/-- The match at LH with no sheet HELD (R87, R93). (the mark: notes/assumptions/19.md.) -/
def State.matchAtHold (s : State) (h : Handle) : State :=
  match s.sheet h with
  | none => s
  | some sh =>
    let rests := sh.halted || s.run.state == .stopping
    let s1 := s.modifySheet h (fun x => { x with resting := rests })
    if sh.halted then s1 else (s1.setSheetState h .held).arriveAtHold h

/-- The match at XO: the next leg follows the stored route (R86). -/
def State.matchAtExit (s : State) (h : Handle) : State :=
  match s.sheet h with
  | none => s
  | some sh =>
    match sh.route with
    | none => s
    | some r => s.place h (.leg r.leg)

/-- Steps 4 and 5 of R85: the state change of R77 and the placement of R82 for a sensor. -/
def State.advance (s : State) (h : Handle) : Sensor → State
  | .F1 => s.place h (.leg (trayLeg 0))
  | .F2 => s.place h (.leg (trayLeg 1))
  | .F3 => s.place h (.leg (trayLeg 2))
  | .F4 => s.place h (.leg (trayLeg 3))
  | .MG => (s.setSheetState h .approach).place h (.leg legMgRg)
  | .RG => s.place h (.leg legRgTr)
  | .TR => s.matchAtTransfer h
  | .FX => s.matchAtFuser h
  | .LI => s
  | .LH => s.matchAtHold h
  | .XO => s.matchAtExit h
  | .AC => s
  | .K1 => s
  | .K2 => s
  | .PB => s

/-- The set's expectation is matched (R89): the arrival is reported. -/
def State.matchSet (s : State) (x : Sensor) (e : Expectation) : State :=
  (s.occupy x e .set true).modifySet (fun r => { r with arrived := true })

/-- An expectation is matched (R85, R89). -/
def State.matchEdge (s : State) (x : Sensor) (e : Expectation) : State :=
  match e.item with
  | .sheet h => (s.matchSheet x e h).advance h x
  | .set => s.matchSet x e

/-- A leading edge taken against the head of its sensor (R84); nothing of a fault is reported where sheet queues are
not judged and no set is concerned (R83). (late outside STOPPING: DEDUCED, notes/assumptions/21.md.) -/
def State.judgeEdge (s : State) (x : Sensor) : Option Expectation → State
  | none =>
    let s1 := s.untrackedArrives x
    if s.run.state.judgesSheets then s1.fault .stray x none else s1
  | some e =>
    match e.phase s.tick with
    | .early => (s.untrackedArrives x).fault .early x (some e.item)
    | .within => s.matchEdge x e
    | .late =>
      if s.run.state = .stopping then s.matchEdge x e
      else
        let s1 := s.untrackedArrives x
        if s.run.state.judgesSheets then s1.fault .stray x none else s1

/-- A collision (R87, R88): the head's sheet is matched halted when the edge falls within its window. (An edge after
the window matches nothing, in STOPPING too: DEDUCED, notes/assumptions/38.md.) -/
def State.collide (s : State) (x : Sensor) (c : Cause) (other : Option Nat) (head : Option Expectation) : State :=
  match head with
  | none => (s.untrackedArrives x).report ⟨c, some x, other, false⟩
  | some e =>
    match e.item, e.phase s.tick with
    | .sheet h, .within => (s.matchHalted x e h).report (s.reportOf c x (some (.sheet h)))
    | _, _ => (s.untrackedArrives x).report ⟨c, some x, other, false⟩

/-- The covered field follows the line (R79). -/
def State.cover (s : State) (x : Sensor) (level : Bool) : State :=
  s.putSensor x { s.sensor x with covered := level }

/-- A leading edge (R83 to R89). -/
def State.takeLeadingEdge (s : State) (x : Sensor) : State :=
  let s1 := s.cover x true
  let judged := s.run.state.judgesSheets
  let head := (s1.sensor x).head judged
  if x = .LH ∧ judged = true ∧ s1.anyHeld = true then s1.collide x .holdCollision s1.heldSequence head
  else if x = .AC ∧ judged = true ∧ s1.output.set.inFlight = true then s1.collide x .accumulatorCollision none head
  else s1.judgeEdge x head

/-! ## Trailing edges (R91 to R95) -/

/-- The occupant of a sensor leaves: the cover timer is cancelled and a sheet's covering flag follows (R91). (Sensors
that name a handle from before count for its newer sheet: DESIGN CHOICE, notes/assumptions/49.md.) -/
def State.vacate (s : State) (x : Sensor) : State :=
  let r := s.sensor x
  let s1 := s.putSensor x { r with occupant := .none, coverTimer := none }
  match r.occupant with
  | .sheet h => s1.modifySheet h (fun sh => { sh with covering := s1.occupies h })
  | .set => s1
  | .untracked => s1
  | .none => s1

/-- The overrun of a sheet (R110). -/
def State.overrun (s : State) (sh : Sheet) : State :=
  let own := s.output.set.copy == some sh.plan.copy
  let s1 := s.modifySet (fun r => { r with overruns := r.overruns ++ [sh.member] })
  let s2 := if s1.output.set.inFlight then s1.scatter .accumulatorCollision else s1.disturb .accumulatorCollision
  let s3 := if own then s2 else s2.breakCopy sh.plan.copy sh.plan.mode
  s3.report ⟨.accumulatorCollision, some .AC, some sh.plan.sequence, false⟩

/-- A SET sheet is taken into the set (R109). -/
def State.takeMember (s : State) (sh : Sheet) : State :=
  if s.output.set.opensWith sh then (s.modifySet (fun r => (r.opened sh).append sh)).examineSet
  else if s.output.set.continuesWith sh then (s.modifySet (fun r => r.append sh)).examineSet
  else s.overrun sh

/-- A sheet handed over at its destination, its entry already FREE (R78, R109, R116). -/
def State.handOverSheet (s : State) (sh : Sheet) : Route → State
  | .accumulate => s.takeMember sh
  | .k1 => s.deliverDirect sh .k1
  | .k2 => s.deliverDirect sh .k2
  | .purge => s.purgeDirect sh

/-- A sheet leaves the table at its destination (R78); its copy's record, the drain end and admission are examined. Its
records come before STOP's result. (DESIGN CHOICE, notes/assumptions/53.md.) -/
def State.leaveTable (s : State) (h : Handle) (sh : Sheet) (r : Route) : State :=
  ((((s.putSheet h none).putTimers h SheetTimers.none).handOverSheet sh r).examineCopy sh.plan.copy
    ).examineDrain.evaluate

/-- A sheet that is not halted stands at its destination sensor. -/
def Sheet.arrivesAt (sh : Sheet) (x : Sensor) : Option Route :=
  match sh.route with
  | none => none
  | some r => if r.sensor = x ∧ sh.halted = false then some r else none

/-- An accepted trailing edge at FX or XO is handed to the sensor's gate (R95, R104), be the occupant still live or
already disposed of at its destination. -/
def State.gatePassed (s : State) (x : Sensor) (h : Handle) : State :=
  match x with
  | .FX => s.loopGate (fun g => g.clearedBy h)
  | .XO => s.routeGate (fun g => g.clearedBy h)
  | _ => s

/-- What an accepted trailing edge of a live sheet brings about besides (R91): its next expectation from LI, and its
leaving the table at its destination. -/
def State.sheetLeaves (s : State) (x : Sensor) (h : Handle) (sh : Sheet) : State :=
  if x = .LI then (if sh.halted then s else s.place h (.leg legLiLh))
  else
    match sh.arrivesAt x with
    | some r => s.leaveTable h sh r
    | none => s

/-- The consequences of an accepted trailing edge of a sheet (R91, R95). -/
def State.sheetPassed (s : State) (x : Sensor) (h : Handle) : State :=
  let s1 := s.gatePassed x h
  match s1.sheet h with
  | none => s1
  | some sh => s1.sheetLeaves x h sh

/-- The trailing edge of a sheet is SHORT (R91, R93): before cover min, or at LH while the sheet is HELD unreleased. -/
def State.sheetShort (s : State) (x : Sensor) (h : Handle) : Bool :=
  let r := s.sensor x
  let unreleased := match s.sheet h with
    | some sh => x == .LH && sh.state == .held && !sh.resting
    | none => false
  unreleased || decide (elapsed r.coverStart s.tick < r.coverMin)

/-- A trailing edge of a sheet where sheet queues are judged (R91). (Where the occupant's sheet has left the table, what
befalls the sheet is done to the handle's newer sheet, if any: DESIGN CHOICE, notes/assumptions/49.md.) -/
def State.judgeSheetTrail (s : State) (x : Sensor) (h : Handle) : State :=
  let s1 := s.vacate x
  if s.sheetShort x h then
    (s1.modifySheet h (fun sh => { sh with halted := true })).fault .short x (some (.sheet h))
  else s1.sheetPassed x h

/-- The eject completion with what it prompts (R89, R113). Its records come before STOP's result. (DESIGN CHOICE,
notes/assumptions/53.md.) -/
def State.ejectCompleted (s : State) : State := s.completeEject.examineDrain.evaluate.examineClearance

/-- A trailing edge of the set (R91, R89). -/
def State.judgeSetTrail (s : State) (x : Sensor) : State :=
  let r := s.sensor x
  let s1 := s.vacate x
  if elapsed r.coverStart s.tick < r.coverMin then (s1.scatterInFlight .short).fault .short x (some .set)
  else s1.ejectCompleted

/-- A trailing edge (R91, R94). -/
def State.takeTrailingEdge (s : State) (x : Sensor) : State :=
  let s1 := s.cover x false
  match (s1.sensor x).occupant with
  | .none => s1
  | .untracked => s1.vacate x
  | .sheet h => if s.run.state.judgesSheets then s1.judgeSheetTrail x h else s1.vacate x
  | .set => s1.judgeSetTrail x

/-! ## Expiries (R90, R92, R98) -/

/-- The expectation of an item at a sensor whose window close is due. -/
def State.expired (s : State) (x : Sensor) (i : Item) : Option Expectation :=
  (s.sensor x).expectations.find? (fun e => e.item == i && e.armed && notEarlier s.tick e.closes)

/-- The expectation of an item leaves a sensor. -/
def State.dropExpectation (s : State) (x : Sensor) (i : Item) : State :=
  s.putSensor x { s.sensor x with expectations := removeItem i (s.sensor x).expectations }

/-- The expiry timer of an item's expectation at a sensor is ended; the expectation stays (R98). -/
def State.disarmExpectation (s : State) (x : Sensor) (i : Item) : State :=
  s.putSensor x
    { s.sensor x with
      expectations := (s.sensor x).expectations.map (fun e => if e.item = i then { e with armed := false } else e) }

/-- The expiry of a window close (R90, R98, R114). (A CLEAR under way is finished before the set's own JAM is handed
over: DESIGN CHOICE, notes/assumptions/43.md.) -/
def State.expireWindow (s : State) (x : Sensor) (i : Item) : State :=
  if s.run.state = .stopping then (s.disarmExpectation x i).fault .late x (some i)
  else if s.run.state.judgesSheets then
    let s1 := (s.dropExpectation x i).fault .late x (some i)
    match i with
    | .set => s1.scatterInFlight .late
    | .sheet _ => s1
  else
    match i with
    | .set => ((s.dropExpectation x i).scatterInFlight .late).fault .late x (some i)
    | .sheet _ => s.disarmExpectation x i

/-- The item that occupies a sensor. -/
def Occupant.item : Occupant → Option Item
  | .sheet h => some (.sheet h)
  | .set => some .set
  | .none => Option.none
  | .untracked => Option.none

/-- The expiry of a cover timer (R92). -/
def State.expireCover (s : State) (x : Sensor) : State :=
  let s1 := s.putSensor x { s.sensor x with coverTimer := none }
  match (s.sensor x).occupant.item with
  | none => s1
  | some (.sheet h) => if s.run.state.judgesSheets then s1.fault .stall x (some (.sheet h)) else s1
  | some .set => s1.fault .stall x (some .set)

end Sys2Proof.Machine
end

