-- ==== Sys2Proof/Machine/View.lean ====
section
/-! DEFINITION. The view window (R182, R194): the byte every offset shows, from the state as it stands. -/

namespace Sys2Proof.Machine

/-! ## Codes of the view -/

/-- The drive state codes (R194). -/
def DriveState.code : DriveState → Nat
  | .off => 0 | .spinUp => 1 | .locked => 2 | .relock => 3 | .coasting => 4

/-- The change status codes (R194). -/
def ChangeStatus.code : ChangeStatus → Nat
  | .none => 0 | .draining => 1 | .relocking => 2 | .returning => 3 | .done => 4 | .cancelled => 5 | .failed => 6
  | .aborted => 7

/-- The command state codes (R190). -/
def CommandState.code : CommandState → Nat
  | .idle => 0 | .accepted => 1 | .done => 2

/-- The wait reason codes (R194). -/
def WaitReason.code : WaitReason → Nat
  | .notRunning => 1 | .queueEmpty => 2 | .hold => 3 | .liveLimit => 4 | .logReserve => 5 | .horizon => 6

/-- The tag side codes (R194). -/
def TagSide.code : TagSide → Nat
  | .front => 1 | .back => 2 | .any => 3

/-- The sides codes (R189). -/
def Sides.code : Sides → Nat
  | .simplex => 1 | .duplex => 2

/-- The output mode codes (R194). -/
def OutputMode.code : OutputMode → Nat
  | .set => 1 | .direct => 2

/-- The loop gate codes (R194). -/
def LoopPosition.code : LoopPosition → Nat
  | .loop => 1 | .out => 2

/-- The route codes (R194). -/
def Route.code : Route → Nat
  | .accumulate => 1 | .k1 => 2 | .k2 => 3 | .purge => 4

/-- The jog level codes (R194). -/
def JogLevel.code : JogLevel → Nat
  | .home => 0 | .offset => 1

/-- The set state codes (R194). -/
def SetState.code : SetState → Nat
  | .empty => 0 | .collecting => 1 | .complete => 2 | .ejecting => 3 | .dumping => 4

/-- The set condition codes (R194). -/
def SetCondition.code : SetCondition → Nat
  | .sound => 0 | .disturbed => 1 | .scattered => 2

/-- The capture cause codes (R194). -/
def CaptureCause.code : CaptureCause → Nat
  | .permission => 1 | .planGuard => 2 | .tagGuard => 3 | .bufferGuard => 4 | .logGuard => 5 | .viewBurst => 6

/-- The arbiter mode codes (R194). -/
def ArbiterMode.code : ArbiterMode → Nat
  | .rotating => 0 | .fixed => 1

/-- The requester codes (R194). -/
def Requester.code : Requester → Nat
  | .E => 0 | .P => 1 | .agent => 2

/-- The place of a sheet state in the table of R77, FREE being 0: the index of its free code. -/
def SheetState.place : SheetState → Nat
  | .scheduled => 1 | .feeding => 2 | .approach => 3 | .printing => 4 | .looping => 5 | .held => 6 | .returning => 7
  | .exiting => 8 | .stranded => 9

/-- A stretch as a current leg (R3). A SCHEDULED sheet has none yet, which is shown as 0. (DEDUCED,
notes/assumptions/3.md.) -/
def legByte : Option Stretch → Byte
  | none => 0
  | some (.pick _) => Config.pickLegCode
  | some (.leg l) => BitVec.ofNat 8 (l.val + 1)

/-- A handle shown as none reads 0xFF. -/
def handleCode : Option Handle → Nat
  | none => 0xFF
  | some h => h.val

/-- A buffer number, NONE being 0xFF. -/
def bufferCode : Option BufferNo → Nat
  | none => 0xFF
  | some b => b.val

/-- A stacker, 0 for none. -/
def stackerCode : Option Stacker → Nat
  | none => 0
  | some k => k.code

/-- A tick item, 0 for none. -/
def tickCode : Option Tick → Nat
  | none => 0
  | some t => t.toNat

/-- A flag at a bit. -/
def bitCode (b : Bool) (i : Nat) : Nat := if b then 2 ^ i else 0

/-- An occupant (R194). -/
def Occupant.code : Occupant → Nat
  | .none => 0xFF
  | .sheet h => h.val
  | .set => 0x10
  | .untracked => 0xFE

/-- An item as a head (R194). -/
def Item.code : Item → Nat
  | .sheet h => h.val
  | .set => 0x10

/-- One byte field. -/
def fieldByte (n : Nat) : List Byte := toBytes 1 n
/-- One halfword field. -/
def fieldHalf (n : Nat) : List Byte := toBytes 2 n
/-- One word field. -/
def fieldWord (n : Nat) : List Byte := toBytes 4 n

/-! ## The cells at the base -/

/-- The E summary byte (R194). -/
def ESummary.code (e : ESummary) : Nat :=
  bitCode e.commandDone 0 + bitCode e.stop 1 + bitCode e.speedChangeEnd 2 + bitCode e.logRecord 3
    + bitCode e.logOverrun 4 + bitCode e.capture 5

/-- The P summary byte (R194). -/
def PSummary.code (p : PSummary) : Nat := bitCode p.bufferAvailable 0 + bitCode p.capture 1

/-- The capture's second word (R194). -/
def Capture.second (c : Capture) : Nat :=
  c.cause.code + 256 * (bitCode (c.port == .P) 0 + bitCode c.write 1 + bitCode c.more 2 + 128)

/-- What byte 0 of the CLAIM cell answers to a port (R41, R42). -/
def State.claimByte (s : State) : Port → Byte
  | .E => s.inspectClaim
  | .P => s.claimBuffer.1

/-- The cells 0x000 to 0x01F (R194). -/
def State.viewBase (s : State) (p : Port) : List Byte :=
  fieldWord s.tick.toNat ++ ([s.claimByte p] ++ toBytes 3 0) ++ fieldWord 0 ++ fieldWord s.attention.e.code
    ++ fieldWord s.attention.p.code
    ++ fieldWord (match s.junction.latch with | some c => c.address.toNat | none => 0)
    ++ fieldWord (match s.junction.latch with | some c => c.second | none => 0)
    ++ fieldWord s.junction.lastResult.toNat

/-! ## The Part state area -/

/-- The feed hold set byte (R194). -/
def FeedHolds.code (f : FeedHolds) : Nat :=
  bitCode f.tray[(0 : Tray)] 0 + bitCode f.tray[(1 : Tray)] 1 + bitCode f.tray[(2 : Tray)] 2
    + bitCode f.tray[(3 : Tray)] 3 + bitCode f.operator 4 + bitCode f.stackersFull 5 + bitCode f.purgeFull 6

/-- The five bytes of a jam record (R194). -/
def jamBytes : Option Jam → List Byte
  | none => toBytes 5 0
  | some j =>
    fieldByte j.cause.code ++ fieldByte (sensorCode j.sensor) ++ fieldByte j.flags ++ fieldByte j.secondaryCause
      ++ fieldByte j.secondarySensor

/-- The sequence of a jam record, 0 when none. -/
def jamSequence : Option Jam → Nat
  | none => 0
  | some j => j.sequence.getD 0

/-- The time of a jam record, 0 when none. -/
def jamTime : Option Jam → Nat
  | none => 0
  | some j => j.time.toNat

/-- The words 0x020 to 0x047. -/
def State.viewDrive (s : State) : List Byte :=
  fieldWord (match s.scheduler.grid with | some g => g.t0.toNat | none => 0)
    ++ fieldWord (match s.scheduler.grid with | some g => g.current | none => 0)
    ++ fieldWord (match s.scheduler.admissionBounds with | some b => b.front | none => 0xFFFFFFFF)
    ++ fieldWord (match s.scheduler.admissionBounds with | some b => b.final | none => 0xFFFFFFFF)
    ++ fieldWord (match s.tracker.timing with | some t => t.pitch | none => 0)
    ++ fieldWord (tickCode s.run.graceDeadline) ++ fieldWord (tickCode s.drive.lockDeadline)
    ++ fieldWord (tickCode s.drive.windowClose) ++ fieldWord s.drive.count ++ fieldWord s.drive.lastCount

/-- The words 0x048 to 0x07B. -/
def State.viewPlan (s : State) : List Byte :=
  fieldWord (match s.run.running with | some r => r.operand1.toNat | none => 0)
    ++ fieldWord (match s.run.running with | some r => r.operand2.toNat | none => 0)
    ++ fieldWord (match s.run.running with | some r => r.operand3.toNat | none => 0)
    ++ fieldWord (match s.plan.queue with | e :: _ => e.sequence | [] => 0)
    ++ fieldWord s.plan.lastAccepted
    ++ fieldWord (match s.plan.tail with | some t => t.statement | none => 0)
    ++ fieldWord s.log.producer.toNat ++ fieldWord s.log.consumer.toNat ++ fieldWord s.logFree
    ++ fieldWord (jamSequence s.run.jam) ++ fieldWord (jamTime s.run.jam)
    ++ fieldWord (jamSequence s.run.lastJam) ++ fieldWord (jamTime s.run.lastJam)

/-- The halfwords 0x07C to 0x087. -/
def State.viewCounts (s : State) : List Byte :=
  fieldHalf (match s.plan.tail with | some t => t.k | none => 0)
    ++ fieldHalf (match s.plan.tail with | some t => t.n | none => 0)
    ++ fieldHalf s.plan.queue.length ++ fieldHalf s.log.pendingList.length ++ fieldHalf s.stopGrace ++ fieldHalf 0

/-- The bytes 0x088 to 0x097. -/
def State.viewStates (s : State) : List Byte :=
  fieldByte s.run.state.code ++ fieldByte s.drive.state.code ++ fieldByte s.drive.current.val
    ++ fieldByte s.drive.target.val ++ fieldByte s.drive.inBandRun ++ fieldByte s.drive.deviationRun
    ++ fieldByte s.drive.zeroRun ++ fieldByte s.run.changeStatus.code
    ++ fieldByte (match s.run.drainTarget with | some c => c.val | none => 0xFF)
    ++ fieldByte s.run.command.code
    ++ fieldByte (match s.run.running with
        | some r => (match r.code with | some c => c.code | none => 0)
        | none => 0)
    ++ fieldByte (match s.run.running with | some r => flagCode r.overrun | none => 0)
    ++ fieldByte s.run.holds.code ++ fieldByte s.scheduler.waitReason.code
    ++ fieldByte (match s.tracker.timing with | some t => t.loopPitches | none => 0)
    ++ fieldByte (match s.tracker.timing with | some t => t.setGap | none => 0)

/-- The bytes 0x098 to 0x0BF. -/
def State.viewFlags (s : State) : List Byte :=
  fieldByte s.liveCount ++ fieldByte s.buffers.openCount ++ fieldByte (flagCode s.buffers.claimWaiting)
    ++ fieldByte (flagCode s.log.inFlight.isSome) ++ fieldByte (flagCode s.log.overrun)
    ++ fieldByte (flagCode s.run.clearanceMark) ++ fieldByte s.run.outstanding
    ++ fieldByte (flagCode s.junction.guardOn) ++ fieldByte s.junction.arbiter.code
    ++ fieldByte s.junction.rotation.code ++ fieldByte (flagCode s.junction.anchorFlag)
    ++ jamBytes s.run.jam ++ jamBytes s.run.lastJam ++ toBytes 19 0

/-- The Part state area, 0x020 to 0x0BF (R194). -/
def State.viewPart (s : State) : List Byte :=
  s.viewDrive ++ s.viewPlan ++ s.viewCounts ++ s.viewStates ++ s.viewFlags

/-! ## Tables -/

/-- The 16 bytes of a buffer entry (R194). -/
def Buffer.viewBytes (x : Buffer) : List Byte :=
  fieldWord (match x.tag with | some t => t.statement | none => 0)
    ++ fieldHalf (match x.tag with | some t => t.sheet | none => 0)
    ++ fieldByte x.state.code ++ fieldByte (match x.tag with | some t => t.side.code | none => 0)
    ++ fieldByte x.count ++ fieldByte (flagCode x.persistent) ++ fieldByte (flagCode x.replay) ++ toBytes 5 0

/-- The 64 bytes of a live sheet's entry, in the order of R76 (R194, notes/assumptions/3.md). -/
def Sheet.viewBytes (sh : Sheet) : List Byte :=
  fieldWord sh.plan.sequence ++ fieldByte sh.plan.slot ++ toBytes 3 0 ++ fieldWord sh.plan.opening
    ++ fieldWord sh.plan.statement ++ fieldHalf sh.plan.k ++ fieldHalf sh.plan.n ++ fieldByte (sh.plan.tray.val + 1)
    ++ fieldByte sh.plan.media.val ++ fieldByte sh.plan.sides.code ++ fieldByte (bufferCode sh.plan.front)
    ++ fieldByte (bufferCode sh.plan.back) ++ fieldByte sh.plan.mode.code ++ fieldByte (flagCode sh.plan.breakFlag)
    ++ fieldByte sh.pass ++ fieldWord sh.frontSlot ++ fieldWord (sh.backSlot.getD 0) ++ fieldWord sh.finalSlot
    ++ [Config.sheetStateCode sh.state.place, legByte sh.leg] ++ toBytes 2 0 ++ fieldWord sh.reference.toNat
    ++ fieldByte (sensorCode sh.lastSensor)
    ++ fieldByte (match sh.route with | some r => r.code | none => 0)
    ++ fieldByte (flagCode sh.frontFaulted) ++ fieldByte (flagCode sh.backFaulted) ++ fieldByte (flagCode sh.broken)
    ++ fieldByte (flagCode sh.halted) ++ fieldByte (flagCode sh.covering) ++ toBytes 1 0
    ++ fieldWord sh.coverStart.toNat ++ toBytes 4 0

/-- The bytes of a sheet entry that no field takes: they read zero (R182, R194). -/
def sheetPadding (i : Nat) : Bool := [5, 6, 7, 42, 43, 55].contains i || decide (60 ≤ i)

/-- A byte of a FREE sheet entry: the state's code, zero outside every field, and open values in the other fields. -/
def freeSheetByte (free o i : Nat) : Byte :=
  if i = 40 then Config.sheetStateCode 0 else if sheetPadding i then 0 else Config.viewByte o free

/-- The 16 bytes of a sensor record (R194). -/
def SensorRecord.viewBytes (r : SensorRecord) : List Byte :=
  fieldWord (match r.expectations.head? with | some e => e.opens.toNat | none => 0)
    ++ fieldWord (match r.expectations.head? with | some e => e.closes.toNat | none => 0)
    ++ fieldByte (flagCode r.covered) ++ fieldByte r.occupant.code ++ fieldByte r.queued
    ++ fieldByte (match r.expectations.head? with | some e => e.item.code | none => 0xFF) ++ toBytes 4 0

/-- The 16 bytes of a set place (R194). -/
def SensorRecord.placeBytes (r : SensorRecord) : List Byte :=
  match r.setPlace with
  | none => toBytes 16 0
  | some e =>
    fieldWord e.opens.toNat ++ fieldWord e.closes.toNat ++ fieldWord e.coverMin ++ fieldWord e.coverMax

/-- The 8 bytes of a copy, zeros for none. -/
def copyBytes : Option Copy → List Byte
  | none => toBytes 8 0
  | some c => fieldWord c.statement ++ fieldWord c.opening

/-- The five bytes of a gate (R194). -/
def Gate.viewBytes {α : Type} (g : Gate α) (code : α → Nat) : List Byte :=
  fieldByte (code g.position) ++ fieldByte (handleCode g.holder) ++ fieldByte (flagCode g.cleared)
    ++ fieldByte (match g.pending with | some p => code p.1 | none => 0)
    ++ fieldByte (match g.pending with | some p => p.2.val | none => 0xFF)

/-- The output unit area, 0x9E0 to 0xA3F (R194). While a copy is none, what goes with it is shown as 0: a stack top's
count, the set's n and sheet 1 break flag, the latest set copy's break flag. (DEDUCED, notes/assumptions/3.md.) -/
def OutputUnit.viewBytes (o : OutputUnit) : List Byte :=
  copyBytes (o.latest.map (fun c => c.1)) ++ copyBytes (o.committed.map (fun c => c.1))
    ++ copyBytes (o.top1.map (fun c => c.1)) ++ copyBytes (o.top2.map (fun c => c.1)) ++ copyBytes o.set.copy
    ++ fieldHalf (match o.top1 with | some t => t.2 | none => 0)
    ++ fieldHalf (match o.top2 with | some t => t.2 | none => 0) ++ fieldHalf o.set.n
    ++ o.loopGate.viewBytes LoopPosition.code ++ o.routeGate.viewBytes Route.code
    ++ fieldByte o.active.code ++ fieldByte (stackerCode o.selection)
    ++ fieldByte (match o.latest with | some c => flagCode c.2 | none => 0)
    ++ fieldByte (stackerCode (o.committed.map (fun c => c.2)))
    ++ fieldByte o.jog1.code ++ fieldByte o.jog2.code ++ fieldByte o.set.state.code
    ++ fieldByte (flagCode o.set.breakFlag) ++ fieldByte (flagCode o.set.broken) ++ fieldByte o.set.condition.code
    ++ fieldByte (match o.set.destination with | some d => d.code | none => 0)
    ++ fieldByte o.set.members.length ++ fieldByte o.set.overruns.length ++ fieldByte (flagCode o.set.arrived)
    ++ toBytes 26 0

/-- The 16 bytes of a member or overrun sheet, in the order of 6.4 (R194). -/
def Member.viewBytes (m : Member) : List Byte :=
  fieldWord m.sequence ++ fieldHalf m.k ++ fieldByte (bufferCode m.front) ++ fieldByte (bufferCode m.back)
    ++ fieldByte m.slot ++ fieldByte m.media.val ++ fieldByte (flagCode m.faulted) ++ toBytes 5 0

/-- The 16 bytes of a broken-copy record (R194). -/
def BrokenCopy.viewBytes (r : BrokenCopy) : List Byte :=
  fieldWord r.copy.statement ++ fieldWord r.copy.opening ++ fieldByte r.mode.code
    ++ fieldByte (flagCode r.withdrawalPending) ++ toBytes 6 0

/-- The holder of a ring entry. -/
def RingEntry.holder : RingEntry → Option Handle
  | .free => none
  | .front h => some h
  | .back h => some h

/-- The 8 bytes of a slot ring entry: its slot number and its holder's handle (R59, R194). -/
def ringBytes (slot : Nat) (e : RingEntry) : List Byte := fieldWord slot ++ fieldByte (handleCode e.holder) ++ toBytes 3 0

/-- A byte of a list of bytes, 0 beyond its end. -/
def pickByte (l : List Byte) (i : Nat) : Byte := l[i]?.getD 0

/-- The members then the overrun sheets, by their place in the area 0xA40 to 0xCBF. -/
def SetRecord.shown (r : SetRecord) (i : Nat) : Option Member :=
  if i < 24 then r.members[i]? else r.overruns[i - 24]?

/-- The byte of a table whose entry may be missing. -/
def entryByte {α : Type} (f : α → List Byte) (x : Option α) (i : Nat) : Byte :=
  match x with
  | none => 0
  | some x => pickByte (f x) i

/-- A byte of the sheet table. -/
def State.viewSheetByte (s : State) (o : Nat) : Byte :=
  match s.sheet (Fin.ofNat 16 (o / 64)) with
  | some sh => pickByte sh.viewBytes (o % 64)
  | none => freeSheetByte s.freeCount (0x4C0 + o) (o % 64)

/-- A byte of the slot ring. With no grid all 32 entries are FREE (R59): the handle reads 0xFF, and the slot number,
which only a grid gives, is open. -/
def State.viewRingByte (s : State) (o : Nat) : Byte :=
  match s.scheduler.grid with
  | some g => entryByte (ringBytes (g.current + o / 8)) g.ring[o / 8]? (o % 8)
  | none => if o % 8 < 4 then Config.viewByte (0xEC0 + o) s.freeCount else if o % 8 = 4 then 0xFF else 0

/-- The byte at an offset of the view window as a port reads it (R182, R194). -/
def State.viewByte (s : State) (p : Port) (o : Nat) : Byte :=
  if o < 0x020 then pickByte (s.viewBase p) o
  else if o < 0x0C0 then pickByte s.viewPart (o - 0x020)
  else if o < 0x4C0 then pickByte (s.buffer (Fin.ofNat 64 ((o - 0x0C0) / 16))).viewBytes ((o - 0x0C0) % 16)
  else if o < 0x8C0 then s.viewSheetByte (o - 0x4C0)
  else if o < 0x9B0 then pickByte (s.tracker.sensors[Fin.ofNat 15 ((o - 0x8C0) / 16)]).viewBytes ((o - 0x8C0) % 16)
  else if o < 0x9C0 then pickByte (s.sensor .K1).placeBytes (o - 0x9B0)
  else if o < 0x9D0 then pickByte (s.sensor .K2).placeBytes (o - 0x9C0)
  else if o < 0x9E0 then pickByte (s.sensor .PB).placeBytes (o - 0x9D0)
  else if o < 0xA40 then pickByte s.output.viewBytes (o - 0x9E0)
  else if o < 0xCC0 then entryByte Member.viewBytes (s.output.set.shown ((o - 0xA40) / 16)) ((o - 0xA40) % 16)
  else if o < 0xEC0 then entryByte BrokenCopy.viewBytes s.output.broken[(o - 0xCC0) / 16]? ((o - 0xCC0) % 16)
  else if o < 0xFC0 then s.viewRingByte (o - 0xEC0)
  else 0

/-- The bytes a view read returns, from an offset up. -/
def State.viewRead (s : State) (p : Port) (o : Nat) : Nat → List Byte
  | 0 => []
  | n + 1 => s.viewByte p o :: s.viewRead p (o + 1) n

end Sys2Proof.Machine
end

