-- ==== Sys2Proof/WellFormed.lean ====
section
/-! DEFINITION. Which commands are well formed: the form R177 gives every upstream access, and the direction and
size of the accesses that the view rows name. -/

namespace Sys2Proof.Machine

/-- The access is naturally aligned (R177). -/
def Access.aligned (a : Access) : Bool := a.addr.toNat % a.size.bytes == 0

/-- A write carries exactly its bytes, and a read carries none (R177). -/
def Access.dataFits (a : Access) : Bool := a.data.length == (if a.write then a.size.bytes else 0)

/-- The form of every upstream access (R177). -/
def Access.wf (a : Access) : Bool := a.aligned && a.dataFits

end Sys2Proof.Machine

namespace Sys2Proof

open Machine

/-- The well-formedness of a command.  A row that names a read takes a read, a row that names a write takes a write,
the view rows take no burst (R182: a burst into the view window is refused), and a consumer write writes a byte. -/
def Instr.wf : Instr → Bool
  | .upstreamAccess _ a => a.wf
  | .droppedWrite _ a => a.wf && a.write
  | .claim a => a.wf && !a.write && a.size != .burst
  | .claimInspection a => a.wf && !a.write && a.size != .burst
  | .abandon a => a.wf && a.write && a.size != .burst
  | .summaryRead _ a => a.wf && !a.write && a.size != .burst
  | .captureRearm _ a => a.wf && !a.write && a.size != .burst
  | .consumerWrite _ m => m != 0
  | .powerReset => true
  | .engineReset => true
  | .coverOpen => true
  | .leadingEdge _ => true
  | .trailingEdge _ => true
  | .imageFault => true
  | .trayEmptyDeasserted _ => true
  | .stackerFull _ _ => true
  | .purgeFull _ => true
  | .encoder => true
  | .encoderWindowClose => true
  | .lockTimeout => true
  | .slotPasses => true
  | .pickDue _ => true
  | .releaseDue _ => true
  | .lateRelease _ => true
  | .windowExpiry _ _ => true
  | .stall _ => true
  | .graceExpiry => true
  | .accessComplete => true
  | .commitEvent _ => true
  | .tagCommitEvent _ => true
  | .codeEvent => true
  | .anchorEvent _ => true
  | .planFetchComplete => true
  | .planCommitWordWritten => true
  | .tagFetchComplete => true
  | .tagCommitWordWritten => true
  | .unknownCommandCode => true
  | .start => true
  | .stop => true
  | .pauseFeed => true
  | .resumeFeed => true
  | .changeSpeed => true
  | .cancelSpeedChange => true
  | .halt => true
  | .clear => true
  | .withdraw => true
  | .releaseBuffer => true
  | .reclaimBuffer => true
  | .guardOn => true
  | .guardOff => true
  | .selectStacker => true
  | .commandFinishWritten => true
  | .logRecordWritten => true
  | .configReadComplete => true
  | .anchorResultWritten => true
  | .trayEmptyAsserted _ => true
  | .coverOpenDeasserted => true
  | .imageFaultDeasserted => true
  | .anchorReadComplete => true

end Sys2Proof
end

