-- ==== Sys2Proof/Machine/Junction.lean ====
section
/-! DEFINITION. Chapter 11: upstream accesses, their judgement by window and guard, the capture latch, events, the view
window's effects, the anchor and activation. -/

namespace Sys2Proof.Machine

/-! ## Events an access carries (R181, R185) -/

/-- The bytes a write writes, at their addresses; none for a read. -/
def Access.cells (a : Access) : List Host.Cell := if a.write then layOut a.addr.toNat a.data else []

/-- The byte an access writes at an address, if it writes there. -/
def byteAt (cells : List Host.Cell) (x : Nat) : Option Byte := (cells.find? (fun c => c.1 == x)).map (fun c => c.2)

/-- The access includes the byte at an address. -/
def Access.covers (a : Access) (x : Nat) : Bool :=
  decide (a.addr.toNat ≤ x) && decide (x < a.addr.toNat + a.size.bytes)

/-- The anchor event of a write (R185). -/
def anchorEvents (p : Port) (cells : List Host.Cell) : List PortEvent :=
  match p, byteAt cells (anchorBase + 4) with
  | .E, some v => if v = 1 then [.anchor .activate] else if v = 2 then [.anchor .deactivate] else []
  | _, _ => []

/-- The commit event of a write into the PLAN window (R181): an access lies in one plan slot. -/
def planEvents (c : Configuration) (base : Nat) (a : Access) (cells : List Host.Cell) : List PortEvent :=
  let i := (a.addr.toNat - base) / 32
  if i < c.planSlots ∧ byteAt cells (base + 32 * i + 28) = some 1 then [.commit (Fin.ofNat 256 i)] else []

/-- The tag commit event of a write for one tag slot (R44, R181). The window may hold slots from 64 on, of which there
is no buffer: they have none. (DEDUCED, notes/assumptions/12.md.) -/
def tagEvent (base : Nat) (cells : List Host.Cell) (b : Nat) : List PortEvent :=
  match bufferField b with
  | some n => if byteAt cells (base + 16 * b + 12) = some 1 then [.tagCommit n] else []
  | none => []

/-- The first and the last tag slot an access touches, the lower first, and so the order of their events. (DESIGN
CHOICE, notes/assumptions/48.md.) -/
def tagSlots (base : Nat) (a : Access) : List Nat :=
  let first := (a.addr.toNat - base) / 16
  let last := (a.addr.toNat + a.size.bytes - 1 - base) / 16
  if first = last then [first] else [first, last]

/-- The tag commit events of a P-port write into the TAG window (R44, R181), the lower slot's first. (DESIGN CHOICE,
notes/assumptions/48.md.) -/
def tagEvents (base : Nat) (p : Port) (a : Access) (cells : List Host.Cell) : List PortEvent :=
  match p with
  | .E => []
  | .P => (tagSlots base a).flatMap (tagEvent base cells)

/-- The four bytes of a word that a write writes. -/
def wordBytes (cells : List Host.Cell) (x : Nat) : List (Option Byte) :=
  [byteAt cells x, byteAt cells (x + 1), byteAt cells (x + 2), byteAt cells (x + 3)]

/-- The code event of a write into the COMMAND window (R154, R181). -/
def codeEvents (base : Nat) (cells : List Host.Cell) : List PortEvent :=
  if (wordBytes cells (base + 28)).any (fun b => match b with | some v => v != 0 | none => false) then [.code] else []

/-- Which bytes of a word were written, by bit. -/
def writtenMask (l : List (Option Byte)) : BitVec 4 :=
  BitVec.ofNat 4 (l.foldr (fun b n => (if b.isSome then 1 else 0) + 2 * n) 0)

/-- The bytes written of a word, zero where none was. -/
def writtenWord (l : List (Option Byte)) : Word := BitVec.ofNat 32 (littleEndian (l.map (fun b => b.getD 0)))

/-- The consumer write of a write into the LOG window (R173, R181). -/
def logEvents (base : Nat) (cells : List Host.Cell) : List PortEvent :=
  let l := wordBytes cells base
  if l.any Option.isSome then [.consumer (writtenWord l) (writtenMask l)] else []

/-! ## Judgement (R179, R180, R182) -/

/-- What the judgement of an access finds. -/
inductive Judgement where
  /-- It reaches memory, writing these bytes and carrying these events. -/
  | passes (cells : List Host.Cell) (events : List PortEvent)
  /-- It is a violation: denied or blocked, answered ERROR. -/
  | violates (cause : CaptureCause)
  /-- It is a write that is dropped with OKAY. -/
  | drops
  /-- It is a view read, at an offset of the view window. -/
  | views (offset : Nat)
  /-- It is a write of a buffer number into the ABANDON cell. -/
  | abandons (n : Nat)
  deriving DecidableEq, Repr

/-- The plan guard blocks (R180). -/
def State.planBlocked (s : State) (base : Nat) (a : Access) : Bool :=
  match s.slotState ((a.addr.toNat - base) / 32) with
  | some .pending => true
  | some .taken => true
  | some .free => false
  | none => false

/-- Tag slot `b` is open to writes (R44). -/
def State.tagOpen (s : State) (b : Nat) : Bool :=
  match bufferField b with
  | some n => decide (b < s.bufferCount) && (s.buffer n).state == .filling
  | none => false

/-- The tag guard blocks (R44, R180). -/
def State.tagBlocked (s : State) (base : Nat) (a : Access) : Bool := !(tagSlots base a).all s.tagOpen

/-- The buffer guard blocks (R53). -/
def State.bufferBlocked (s : State) (c : Configuration) (base : Nat) (p : Port) (a : Access) : Bool :=
  !(p == .P && s.tagOpen ((a.addr.toNat - base) / 2 ^ c.bufferSizeLog2))

/-- The log guard blocks (R180): some byte lies outside the CONSUMER word. -/
def logBlocked (base : Nat) (a : Access) : Bool := decide (base + 4 < a.addr.toNat + a.size.bytes)

/-- The byte lies in the state or the result word of the command block (R180, R190). (DEDUCED,
notes/assumptions/11.md.) -/
def inAnswerWords (base x : Nat) : Bool := decide (base + 12 ≤ x) && decide (x < base + 20)

/-- A write into the COMMAND window (R180). -/
def judgeCommandWrite (base : Nat) (a : Access) : Judgement :=
  let cells := a.cells.filter (fun c => !inAnswerWords base c.1)
  if cells.isEmpty then .drops else .passes cells (codeEvents base cells)

/-- A write into the VIEW window (R43, R180, R182). -/
def judgeViewWrite (base : Nat) (p : Port) (a : Access) : Judgement :=
  if a.size = .burst then .violates .viewBurst
  else
    match p, byteAt a.cells (base + 8) with
    | .P, some b => .abandons b.toNat
    | _, _ => .drops

/-- A write that its window admits (R180, R181). -/
def State.judgeWrite (s : State) (c : Configuration) (d : Descriptor) (p : Port) (a : Access) : Judgement :=
  let on := s.junction.guardOn
  let cells := a.cells
  match d.kind with
  | some .plan =>
    if on && s.planBlocked d.base a then .violates .planGuard else .passes cells (planEvents c d.base a cells)
  | some .tag =>
    if on && s.tagBlocked d.base a then .violates .tagGuard else .passes cells (tagEvents d.base p a cells)
  | some .buffer => if on && s.bufferBlocked c d.base p a then .violates .bufferGuard else .passes cells []
  | some .log => if on && logBlocked d.base a then .violates .logGuard else .passes cells (logEvents d.base cells)
  | some .command => judgeCommandWrite d.base a
  | some .view => judgeViewWrite d.base p a
  | some .plain => .passes cells (anchorEvents p cells)
  | none => .passes cells (anchorEvents p cells)

/-- A read that its window admits (R180, R182). -/
def judgeRead (d : Descriptor) (a : Access) : Judgement :=
  if d.kind = some .view then
    if a.size = .burst then .violates .viewBurst else .views (a.addr.toNat - d.base)
  else .passes [] []

/-- The enabled descriptors that contain an access, in index order (R179). -/
def Configuration.containing (c : Configuration) (a : Access) : List Descriptor :=
  c.descriptors.toList.filter (fun d => d.contains a.addr.toNat)

/-- The judgement of an access when it is taken (R179). -/
def State.judge (s : State) (p : Port) (a : Access) : Judgement :=
  match s.config with
  | none => .passes a.cells (anchorEvents p a.cells)
  | some c =>
    match (c.containing a).find? (fun d => d.admits p a.write) with
    | some d => if a.write then s.judgeWrite c d p a else judgeRead d a
    | none => if (c.containing a).isEmpty then .passes a.cells (anchorEvents p a.cells) else .violates .permission

/-! ## The capture latch (R183) -/

/-- The latch after a violation. -/
def latchAfter (l : Option Capture) (c : Capture) : Option Capture :=
  match l with
  | none => some c
  | some x => some { x with more := true }

/-- A violation is taken at the latch (R183). -/
def State.capture (s : State) (p : Port) (a : Access) (c : CaptureCause) : State :=
  let s1 := (s.setJunction
    { s.junction with latch := latchAfter s.junction.latch ⟨a.addr, p, a.write, c, false⟩ }).raiseE .capture
  match p with
  | .E => s1
  | .P => s1.raiseP .capture

/-- The latch becomes EMPTY (R151, R183). -/
def State.clearLatch (s : State) : State := s.setJunction { s.junction with latch := none }

/-! ## Taking and completing an access (R177) -/

/-- The access of a port in flight. -/
def Junction.access (j : Junction) : Port → Option InFlight
  | .E => j.accessE
  | .P => j.accessP

/-- The access of a port in flight is replaced. -/
def Junction.setAccess (j : Junction) : Port → Option InFlight → Junction
  | .E, x => { j with accessE := x }
  | .P, x => { j with accessP := x }

/-- The last response of a port. -/
def Junction.response (j : Junction) : Port → Option Response
  | .E => j.responseE
  | .P => j.responseP

/-- The last response of a port is replaced. -/
def Junction.setResponse (j : Junction) : Port → Option Response → Junction
  | .E, x => { j with responseE := x }
  | .P, x => { j with responseP := x }

/-- A port is answered. -/
def State.respond (s : State) (p : Port) (okay : Bool) (data : List Byte) : State :=
  s.setJunction (s.junction.setResponse p (some ⟨okay, data⟩))

/-- The data of an ERROR answer: all ones for a read (R179). -/
def Access.errorData (a : Access) : List Byte := if a.write then [] else List.replicate a.size.bytes 0xFF

/-- The view cells whose read is an event (R182). -/
inductive ViewCell where
  | claim | eSummary | pSummary | capture
  deriving DecidableEq, Repr

/-- The offset of byte 0 of an event cell (R194). -/
def ViewCell.offset : ViewCell → Nat
  | .claim => 0x004
  | .eSummary => 0x00C
  | .pSummary => 0x010
  | .capture => 0x018

/-- A view read of `n` bytes from an offset includes byte 0 of a cell. -/
def ViewCell.readBy (v : ViewCell) (offset n : Nat) : Bool := decide (offset ≤ v.offset) && decide (v.offset < offset + n)

/-- What the read of an event cell changes (R41, R42, R175, R183). -/
def State.readCell (s : State) (p : Port) : ViewCell → State
  | .claim => match p with
    | .E => s
    | .P => s.claimBuffer.2
  | .eSummary => match p with
    | .E => s.clearE
    | .P => s
  | .pSummary => match p with
    | .E => s
    | .P => s.clearP
  | .capture => s.clearLatch

/-- The effects of a view read, cell by cell. -/
def State.readCells (s : State) (p : Port) (offset n : Nat) : List ViewCell → State
  | [] => s
  | v :: vs => (if v.readBy offset n then s.readCell p v else s).readCells p offset n vs

/-- All event cells. -/
def ViewCell.all : List ViewCell := [.claim, .eSummary, .pSummary, .capture]

/-- A view read is answered from the state as it stands, and then has its effects (R182). (DEDUCED,
notes/assumptions/32.md.) -/
def State.answerView (s : State) (p : Port) (offset n : Nat) : State :=
  (s.readCells p offset n ViewCell.all).respond p true (s.viewRead p offset n)

/-- What a judgement does (R177, R179 to R183). -/
def State.carryOut (s : State) (p : Port) (a : Access) : Judgement → State
  | .passes cells events =>
    s.setJunction ((s.junction.setAccess p (some ⟨a, cells, events⟩)).setResponse p none)
  | .violates c => (s.capture p a c).respond p false a.errorData
  | .drops => s.respond p true []
  | .views offset => s.answerView p offset a.size.bytes
  | .abandons n => (s.abandonBuffer n).respond p true []

/-- A port is ready for an access: its last one has been answered (R177). -/
def State.ready (s : State) (p : Port) : Bool := (s.junction.access p).isNone

/-- An access is taken at the junction (R177). -/
def State.takeAccess (s : State) (p : Port) (a : Access) : State := s.carryOut p a (s.judge p a)

/-- The requester of a port. -/
def Port.requester : Port → Requester
  | .E => .E
  | .P => .P

/-- The granted access of a port completes (R177): its bytes reach memory, the response is given and the M-port is
released. (DESIGN CHOICE, notes/assumptions/30.md.) -/
def State.completeAccess (s : State) (p : Port) (f : InFlight) : State :=
  let data := if f.access.write then [] else Memory.bytes s.memory f.access.addr.toNat f.access.size.bytes
  let j := (s.junction.setAccess p none).setResponse p (some ⟨true, data⟩)
  (s.setMemory (Memory.writeAll s.memory f.bytes)).setJunction
    { j with holder := none }

/-- The port whose access holds the M-port. -/
def Junction.holdingPort (j : Junction) : Option Port :=
  match j.holder with
  | some .E => some .E
  | some .P => some .P
  | some .agent => none
  | none => none

/-! ## Events taken (R181) -/

/-- A code event (R154, R155). The operands read 0 until the block is read. (DESIGN CHOICE, notes/assumptions/44.md.) -/
def State.takeCode (s : State) : State :=
  match s.run.command with
  | .accepted => s.setRun { s.run with running := s.run.running.map (fun r => { r with overrun := true }) }
  | .idle => (s.setRun { s.run with command := .accepted, running := some ⟨none, 0, 0, 0, false⟩ }).ask (.commandOp false)
  | .done => (s.setRun { s.run with command := .accepted, running := some ⟨none, 0, 0, 0, false⟩ }).ask (.commandOp false)

/-- The word a consumer write leaves: bytes it did not write are those of the consumer index (R173). -/
def mergedWord (old data : Word) (mask : BitVec 4) : Word :=
  let bit := fun i => if mask.getLsbD i then data else old
  BitVec.ofNat 32 (littleEndian
    [(bit 0).extractLsb' 0 8, (bit 1).extractLsb' 8 8, (bit 2).extractLsb' 16 8, (bit 3).extractLsb' 24 8])

/-- The consumer index after a consumer write of a word (R173). -/
def LogWriter.consumerAfter (l : LogWriter) (w : Word) : Word :=
  let d := (w - l.consumer).toInt
  if d ≤ 0 then l.consumer
  else if (l.producer - l.consumer).toNat < (w - l.consumer).toNat then l.producer
  else w

/-- A consumer write (R173). -/
def State.takeConsumer (s : State) (data : Word) (mask : BitVec 4) : State :=
  let next := s.log.consumerAfter (mergedWord s.log.consumer data mask)
  if next = s.log.consumer then s
  else ((s.setLog { s.log with consumer := next, overrun := false }).takeRecord).evaluate

/-! ## The anchor and activation (R185 to R187) -/

/-- The quiet conditions (R185), `own` being the number of the anchor operation's own entries in the agent's queue.
(DEDUCED, notes/assumptions/22.md.) -/
def State.quiet (s : State) (own : Nat) : Bool :=
  s.plan.slots.all (fun x => x == .free) && s.plan.queue.isEmpty && s.liveCount == 0 && s.output.set.state == .empty
    && s.buffers.table.toList.all (fun b => b.state == .free) && s.log.waiting.isEmpty && s.log.inFlight.isNone
    && decide (s.junction.agentQueue.length ≤ own)

/-- The sheet table and the expectations emptied, and no current timing set (R18, R76, R80); the sensors keep their
levels, occupants and timers (R79). -/
def State.restTracker (s : State) : State :=
  s.setTracker
    { timing := none
      sheets := Vector.replicate 16 none
      sensors := tabulate 15 (fun i => { s.tracker.sensors[i] with expectations := [] }) }

/-- The blocks' values at an activation from INACTIVE. -/
def State.activate (s : State) (c : Configuration) : State :=
  let s1 := s.restTracker
  { s1 with
    config := some c
    plan := { PlanIntake.reset with slots := List.replicate c.planSlots .free }
    buffers := Residency.reset
    scheduler := Scheduler.reset
    output := OutputUnit.reset
    run := { RunControl.reset with state := .idle, command := s.run.command, running := s.run.running }
    log := LogWriter.reset
    attention := Attention.reset
    junction := { s.junction with
      guardOn := true
      latch := none
      arbiter := c.arbiter.getD .rotating } }

/-- The blocks' values at an accepted reconfiguration. -/
def State.reconfigure (s : State) (c : Configuration) : State :=
  let s1 := s.restTracker
  { s1 with
    config := some c
    plan := { PlanIntake.reset with slots := List.replicate c.planSlots .free }
    buffers := s.buffers
    run := { s.run with changeStatus := .none, drainTarget := none }
    log := LogWriter.reset
    junction := { s.junction with arbiter := c.arbiter.getD .rotating } }.setClaimWaiting false

/-- The blocks' values at a deactivation (R187). -/
def State.deactivate (s : State) : State :=
  let s1 := s.restTracker
  { s1 with
    config := none
    plan := PlanIntake.reset
    buffers := Residency.reset
    scheduler := Scheduler.reset
    output := OutputUnit.reset
    drive := { s.drive with current := 0, target := 0, speed := 0 }
    run := RunControl.reset
    log := LogWriter.reset
    attention := Attention.reset
    junction := { s.junction with
      guardOn := true
      latch := none
      arbiter := .rotating
      rotation := .E } }

/-- The anchor operation flag is set and the agent asked for an operation. -/
def State.askAnchor (s : State) (op : RecordOp) : State :=
  (s.setJunction { s.junction with anchorFlag := true }).ask op

/-- An anchor event is answered BUSY (R185). -/
def State.answerBusy (s : State) : State := s.askAnchor (.anchorResult (anchorWord anchorBusy s.run.state.code))

/-- An anchor event is taken (R185). -/
def State.takeAnchor (s : State) (v : ActivateValue) : State :=
  if s.junction.anchorFlag then s
  else
    match v, s.run.state with
    | .activate, .inactive => s.askAnchor (.anchorRun false)
    | .activate, .idle => if s.quiet 0 then s.askAnchor (.anchorRun true) else s.answerBusy
    | .deactivate, .idle => if s.quiet 0 then s.deactivate.askAnchor (.anchorResult (anchorWord anchorDone 0)) else s.answerBusy
    | _, _ => s.answerBusy

/-- The part writes the RESULT word (R185, R194). -/
def State.writeResult (s : State) (w : Word) : State :=
  (s.setMemory (Memory.writeWord s.memory (anchorBase + 8) w)).setJunction { s.junction with lastResult := w }

/-- The anchor read completes (R185): RESULT reads IN PROGRESS, and the operation goes on by the format word. -/
def State.readAnchor (s : State) (reconfigure : Bool) : State :=
  let format := Memory.word s.memory anchorBase
  let s1 := s.writeResult (anchorWord anchorInProgress 0)
  if format = 0xFFFFFFFF then s1.continueOp (.anchorResult (anchorWord anchorBlank 0))
  else s1.continueOp (.configRead reconfigure format (Memory.word s.memory (anchorBase + 12)))

/-- The record is accepted (R186): an activation, or a reconfiguration if it is still quiet. -/
def State.acceptConfiguration (s : State) (reconfigure : Bool) (c : Configuration) : Word × State :=
  if reconfigure then
    if s.run.state = .idle ∧ s.quiet 1 = true then (anchorWord anchorDone 0, s.reconfigure c)
    else (anchorWord anchorBusy s.run.state.code, s)
  else (anchorWord anchorDone 0, s.activate c)

/-- The configuration record read completes (R186). A record that fails a check is refused before the quiet conditions
are examined again. (DESIGN CHOICE, notes/assumptions/51.md.) -/
def State.readConfig (s : State) (reconfigure : Bool) (format address : Word) : State :=
  if formatPasses format address then
    let c := readConfiguration s.memory address.toNat
    match c.refusal s.freeCount with
    | some w => s.continueOp (.anchorResult w)
    | none =>
      let r := s.acceptConfiguration reconfigure c
      r.2.continueOp (.anchorResult r.1)
  else s.continueOp (.anchorResult (anchorWord 5 0))

/-- The final RESULT write completes (R185). -/
def State.finishAnchor (s : State) (w : Word) : State :=
  let s1 := (s.writeResult w).releasePort
  s1.setJunction { s1.junction with anchorFlag := false }

/-! ## Delivery of events (R43, R177, R181) -/

/-- An event of a completed access is taken by its block. While the part is INACTIVE there is no block to take it but
the anchor (R38, R39, R156, R185). (DEDUCED, notes/assumptions/47.md.) -/
def State.takeEvent (s : State) : PortEvent → State
  | .anchor v => s.takeAnchor v
  | .commit i => if s.run.state = .inactive then s else s.takeCommit i.val
  | .tagCommit b => if s.run.state = .inactive then s else s.takeTagCommit b
  | .code => if s.run.state = .inactive then s else s.takeCode
  | .consumer w m => if s.run.state = .inactive then s else s.takeConsumer w m

/-- The events of a completed access are taken in their order, at its completion and before anything else. -/
def State.takeEvents (s : State) : List PortEvent → State
  | [] => s
  | e :: es => (s.takeEvent e).takeEvents es

end Sys2Proof.Machine
end

