-- ==== Sys2Proof/Machine/LineEvents.lean ====
section
/-! DEFINITION. The meanings of the commands that are events on the printer lines and the resets. -/

namespace Sys2Proof.Machine

/-- How every command ends: the M-port is granted if it is free and someone waits, and the state is answered. -/
def State.done (s : State) : Host.Outcome State Fault Refusal := .next s.grant

/-! ## Resets -/

/-- A sensor after POWER RESET: its line's level stands, and paper that covers it is UNTRACKED (R79). -/
def SensorRecord.powerReset (r : SensorRecord) : SensorRecord :=
  { SensorRecord.clear with covered := r.covered, occupant := if r.covered then .untracked else .none }

/-- POWER RESET: every block at its POWER RESET values, the tick counter at 0 (R1, R136); the lines read, memory and
the waiting commands are outside the part and stand. (DEDUCED, notes/assumptions/8.md.) -/
def State.powerReset (s : State) : State :=
  { State.reset with
    lines := s.lines
    memory := s.memory
    tracker := { Tracker.reset with sensors := tabulate 15 (fun i => (s.tracker.sensors[i]).powerReset) }
    freeCount := s.freeCount
    pending := s.pending }

/-- POWER_RESET. -/
def execPowerReset (s : State) : Host.Outcome State Fault Refusal := s.begin.powerReset.done

/-- A command operation still in the agent's queue is disregarded when its read is done (R157). -/
def RecordOp.abandon : RecordOp → RecordOp
  | .commandOp _ => .commandOp true
  | op => op

/-- An ACCEPTED command is abandoned (R151, R157). -/
def State.abandonCommand (s : State) : State :=
  if s.run.command = .accepted then
    let s1 := s.setRun { s.run with command := .idle, running := none }
    (s1.setJunction { s1.junction with agentQueue := s1.junction.agentQueue.map RecordOp.abandon }).ask .commandAbandon
  else s

/-- The effects of an assertion of ENGINE RESET (R151). The command is abandoned before the stop, which then writes no
result for it. (DEDUCED, notes/assumptions/31.md.) -/
def State.engineReset (s : State) : State :=
  ((s.abandonCommand).report (Report.bare .engineReset)).clearE.clearLatch

/-- ENGINE_RESET. -/
def execEngineReset (s : State) : Host.Outcome State Fault Refusal := s.begin.engineReset.done

/-! ## Covers -/

/-- The effects of an assertion of COVER OPEN (R149): a cause by the run state, the doubt of the set, and in STOPPING
the end of the grace. (The expiry of a first cause is an event of its own: DEDUCED, notes/assumptions/46.md.) -/
def State.openCover (s : State) : State :=
  match s.run.state with
  | .inactive => s
  | .stopping => ((s.laterCause (Report.bare .coverOpen)).coverSet).expireGrace
  | _ => (s.report (Report.bare .coverOpen)).coverSet

/-- COVER_OPEN. -/
def execCoverOpen (s : State) : Host.Outcome State Fault Refusal :=
  let s1 := s.begin
  (if s1.lines.coverOpen then s1 else (s1.setLines { s1.lines with coverOpen := true }).openCover).done

/-- COVER_OPEN_DEASSERTED (R149): no state changes but the line's level. -/
def execCoverOpenDeasserted (s : State) : Host.Outcome State Fault Refusal :=
  (s.begin.setLines { s.lines with coverOpen := false }).done

/-! ## Sensors -/

/-- LEADING_EDGE (R84). (An edge to the level the line has is none: notes/assumptions/7.md.) -/
def execLeadingEdge (x : Sensor) (s : State) : Host.Outcome State Fault Refusal :=
  let s1 := s.begin
  (if (s1.sensor x).covered then s1 else s1.takeLeadingEdge x).done

/-- TRAILING_EDGE (R91). -/
def execTrailingEdge (x : Sensor) (s : State) : Host.Outcome State Fault Refusal :=
  let s1 := s.begin
  (if (s1.sensor x).covered then s1.takeTrailingEdge x else s1).done

/-! ## Image fault -/

/-- IMAGE_FAULT (R96). -/
def execImageFault (s : State) : Host.Outcome State Fault Refusal :=
  let s1 := s.begin
  (if s1.lines.imageFault then s1 else (s1.setLines { s1.lines with imageFault := true }).imageFaultAsserted).done

/-- IMAGE_FAULT_DEASSERTED (R96): no state changes but the line's level. -/
def execImageFaultDeasserted (s : State) : Host.Outcome State Fault Refusal :=
  (s.begin.setLines { s.lines with imageFault := false }).done

/-! ## Trays -/

/-- A TRAY EMPTY line's level is replaced. -/
def State.setTrayEmpty (s : State) (t : Tray) (level : Bool) : State :=
  s.setLines { s.lines with trayEmpty := put s.lines.trayEmpty t level }

/-- TRAY_EMPTY_ASSERTED (R67): only the line's level changes, which admission and the pick due look at. -/
def execTrayEmptyAsserted (t : Tray) (s : State) : Host.Outcome State Fault Refusal :=
  (s.begin.setTrayEmpty t true).done

/-- The effects of a deassertion of TRAY EMPTY t (R68). -/
def State.refillTray (s : State) (t : Tray) : State :=
  (s.setHolds { s.run.holds with tray := put s.run.holds.tray t false }).evaluate

/-- TRAY_EMPTY_DEASSERTED (R68). -/
def execTrayEmptyDeasserted (t : Tray) (s : State) : Host.Outcome State Fault Refusal :=
  let s1 := s.begin
  (if s1.lines.trayEmpty[t] then (s1.setTrayEmpty t false).refillTray t else s1).done

/-! ## Stackers and the purge bin (R120) -/

/-- The lines with a STACKER FULL level replaced. -/
def Lines.setStackerFull (l : Lines) : Stacker → Bool → Lines
  | .k1, b => { l with stackerFull1 := b }
  | .k2, b => { l with stackerFull2 := b }

/-- A deassertion of a STACKER FULL line: the hold is removed, which prompts admission, and the eject and dump
conditions are examined (R111, R112, R120). -/
def State.stackerEmptied (s : State) : State :=
  let s1 := s.setHolds { s.run.holds with stackersFull := false }
  (if s.run.holds.stackersFull then s1.evaluate else s1).examineSet

/-- An assertion of a STACKER FULL line that leaves both asserted adds the hold (R120). -/
def State.stackerFilled (s : State) : State :=
  if s.lines.bothFull then s.setHolds { s.run.holds with stackersFull := true } else s

/-- STACKER_FULL (R120): the line's level, and after activation its effects. -/
def execStackerFull (k : Stacker) (level : Bool) (s : State) : Host.Outcome State Fault Refusal :=
  let s1 := s.begin
  let s2 := s1.setLines (s1.lines.setStackerFull k level)
  (if s1.lines.stackerFull k = level then s1
    else if s2.run.state = .inactive then s2
    else if level then s2.stackerFilled
    else s2.stackerEmptied).done

/-- A deassertion of PURGE FULL (R112, R120). -/
def State.purgeEmptied (s : State) : State :=
  let s1 := s.setHolds { s.run.holds with purgeFull := false }
  (if s.run.holds.purgeFull then s1.evaluate else s1).examineSet

/-- PURGE_FULL (R120): the line's level, and after activation its effects. -/
def execPurgeFull (level : Bool) (s : State) : Host.Outcome State Fault Refusal :=
  let s1 := s.begin
  let s2 := s1.setLines { s1.lines with purgeFull := level }
  (if s1.lines.purgeFull = level then s1
    else if s2.run.state = .inactive then s2
    else if level then s2.setHolds { s2.run.holds with purgeFull := true }
    else s2.purgeEmptied).done

/-! ## Encoder -/

/-- A pulse taken while a window is open adds one to its count (R123). -/
def Drive.pulse (d : Drive) : Drive := if d.windowClose.isSome then { d with count := d.count + 1 } else d

/-- ENCODER (R123). -/
def execEncoder (s : State) : Host.Outcome State Fault Refusal := (s.begin.withDrive Drive.pulse).done

end Sys2Proof.Machine
end

