-- ==== Sys2Proof/Machine/TimerEvents.lean ====
section
/-! DEFINITION. The meanings of the commands that are expiries of the part's own timers (R2), each with the condition
under which its timer is due.  An expiry whose timer is not due has no effect. -/

namespace Sys2Proof.Machine

/-- The close of the encoder window is judged and reported (R123, R126, R129, R130). -/
def State.closeEncoderWindow (s : State) : State :=
  let r := s.drive.closeWindow s.tick s.inLockBand s.inRunBand
  (s.setDrive r.1).takeDriveReport s.drive.current r.2

/-- ENCODER_WINDOW_CLOSE (R123). -/
def execEncoderWindowClose (s : State) : Host.Outcome State Fault Refusal :=
  let s1 := s.begin
  (if s1.due s1.drive.windowClose then s1.closeEncoderWindow else s1).done

/-- LOCK_TIMEOUT (R127). -/
def execLockTimeout (s : State) : Host.Outcome State Fault Refusal :=
  let s1 := s.begin
  (if s1.due s1.drive.lockDeadline then (s1.setDrive { s1.drive with lockDeadline := none }).takeLockTimeout
    else s1).done

/-- The grid whose current slot's transfer time is due (R58). -/
def State.duePass (s : State) : Option Grid :=
  match s.scheduler.grid with
  | some g => if notEarlier s.tick (g.transfer g.current) then some g else none
  | none => none

/-- SLOT_PASSES (R58). -/
def execSlotPasses (s : State) : Host.Outcome State Fault Refusal :=
  let s1 := s.begin
  (match s1.duePass with
    | some g => s1.passSlot g
    | none => s1).done

/-- The expiry of a pick due timer (R66, R67). Picks are made only in RUNNING with the drive LOCKED (R66). (DEDUCED,
notes/assumptions/24.md.) -/
def State.expirePick (s : State) (h : Handle) (due : Tick) : State :=
  let s1 := s.putTimers h { s.timers h with pick := none }
  match s1.sheet h with
  | none => s1
  | some sh =>
    if sh.state = .scheduled then
      if s1.lines.trayEmpty[sh.plan.tray] then s1.trayFoundEmpty sh.plan.tray
      else if s1.run.state = .running ∧ s1.drive.state = .locked then s1.pick h sh due
      else s1
    else s1

/-- PICK_DUE (R66, R67). -/
def execPickDue (h : Handle) (s : State) : Host.Outcome State Fault Refusal :=
  let s1 := s.begin
  (match (s1.timers h).pick with
    | some d => if notEarlier s1.tick d then s1.expirePick h d else s1
    | none => s1).done

/-- The expiry of a release due timer (R70). -/
def State.expireRelease (s : State) (h : Handle) : State :=
  let s1 := s.putTimers h { s.timers h with release := none }
  match s1.sheet h with
  | none => s1
  | some sh => if s1.mayRelease then s1.releaseBy h sh else s1

/-- RELEASE_DUE (R70). -/
def execReleaseDue (h : Handle) (s : State) : Host.Outcome State Fault Refusal :=
  let s1 := s.begin
  (if s1.due (s1.timers h).release then s1.expireRelease h else s1).done

/-- The expiry of a late release timer (R70). -/
def State.expireLate (s : State) (h : Handle) : State :=
  let s1 := s.putTimers h { s.timers h with late := none }
  match s1.sheet h with
  | none => s1
  | some sh => if s1.mayRelease && sh.state == .held then s1.release h else s1

/-- LATE_RELEASE (R70). -/
def execLateRelease (h : Handle) (s : State) : Host.Outcome State Fault Refusal :=
  let s1 := s.begin
  (if s1.due (s1.timers h).late then s1.expireLate h else s1).done

/-- WINDOW_EXPIRY (R90). -/
def execWindowExpiry (x : Sensor) (i : Item) (s : State) : Host.Outcome State Fault Refusal :=
  let s1 := s.begin
  (if (s1.expired x i).isSome then s1.expireWindow x i else s1).done

/-- STALL (R92). -/
def execStall (x : Sensor) (s : State) : Host.Outcome State Fault Refusal :=
  let s1 := s.begin
  (if s1.due (s1.sensor x).coverTimer then s1.expireCover x else s1).done

/-- The grace deadline expires; the expiry is taken only in STOPPING (R140). -/
def State.takeGrace (s : State) : State :=
  if s.run.state = .stopping then s.expireGrace else s.setRun { s.run with graceDeadline := none }

/-- GRACE_EXPIRY (R140). -/
def execGraceExpiry (s : State) : Host.Outcome State Fault Refusal :=
  let s1 := s.begin
  (if s1.due s1.run.graceDeadline then s1.takeGrace else s1).done

/-! ## What is due -/

/-- A command in a list when its condition holds. -/
def dueIf (b : Bool) (c : Sys2Proof.Instr) : List Sys2Proof.Instr := if b then [c] else []

/-- The expiries due for a sheet's timers. -/
def State.dueOfSheet (s : State) (h : Handle) : List Sys2Proof.Instr :=
  dueIf (s.due (s.timers h).pick) (.pickDue h) ++ dueIf (s.due (s.timers h).release) (.releaseDue h)
    ++ dueIf (s.due (s.timers h).late) (.lateRelease h)

/-- The expiries due at a sensor. -/
def State.dueOfSensor (s : State) (x : Sensor) : List Sys2Proof.Instr :=
  dueIf (s.due (s.sensor x).coverTimer) (.stall x)
    ++ (s.sensor x).expectations.flatMap (fun e => dueIf (s.expired x e.item).isSome (.windowExpiry x e.item))

/-- Every expiry due at the present tick (R2). -/
def State.dueNow (s : State) : List Sys2Proof.Instr :=
  dueIf (s.due s.drive.windowClose) .encoderWindowClose ++ dueIf (s.due s.drive.lockDeadline) .lockTimeout
    ++ dueIf s.duePass.isSome .slotPasses ++ dueIf (s.due s.run.graceDeadline) .graceExpiry
    ++ (indices 16).flatMap s.dueOfSheet ++ Sensor.all.flatMap s.dueOfSensor

end Sys2Proof.Machine
end

