-- ==== Sys2Proof/Machine/PortEvents.lean ====
section
/-! DEFINITION. The meanings of the commands that are accesses at the upstream ports and the events they deliver. -/

namespace Sys2Proof.Machine

/-! ## Accesses -/

/-- An access is taken when it has the form of R177, its port is ready, and it is of the kind the row names. -/
def State.takeAccessIf (s : State) (p : Port) (a : Access) (kind : Judgement → Bool) : State :=
  if a.wf && s.ready p && kind (s.judge p a) then s.takeAccess p a else s

/-- UPSTREAM_ACCESS (R177, R179): an access of any kind. -/
def execUpstreamAccess (p : Port) (a : Access) (s : State) : Host.Outcome State Fault Refusal :=
  (s.begin.takeAccessIf p a (fun _ => true)).done

/-- The judgement is a drop (R180). -/
def Judgement.isDrop : Judgement → Bool
  | .drops => true
  | _ => false

/-- DROPPED_WRITE (R180). -/
def execDroppedWrite (p : Port) (a : Access) (s : State) : Host.Outcome State Fault Refusal :=
  (s.begin.takeAccessIf p a Judgement.isDrop).done

/-- The judgement is a view read that includes byte 0 of a cell (R182). -/
def Judgement.reads (v : ViewCell) (n : Nat) : Judgement → Bool
  | .views o => v.readBy o n
  | _ => false

/-- CLAIM (R41): a P-port read of the CLAIM cell. -/
def execClaim (a : Access) (s : State) : Host.Outcome State Fault Refusal :=
  (s.begin.takeAccessIf .P a (Judgement.reads .claim a.size.bytes)).done

/-- CLAIM_INSPECTION (R42): an E-port read of the CLAIM cell. -/
def execClaimInspection (a : Access) (s : State) : Host.Outcome State Fault Refusal :=
  (s.begin.takeAccessIf .E a (Judgement.reads .claim a.size.bytes)).done

/-- The judgement is an abandon (R43). -/
def Judgement.isAbandon : Judgement → Bool
  | .abandons _ => true
  | _ => false

/-- ABANDON (R43): a P-port write of the ABANDON cell. -/
def execAbandon (a : Access) (s : State) : Host.Outcome State Fault Refusal :=
  (s.begin.takeAccessIf .P a Judgement.isAbandon).done

/-- A port's own summary cell (R175). -/
def ownSummary : Port → ViewCell
  | .E => .eSummary
  | .P => .pSummary

/-- SUMMARY_READ (R175): a read of a summary by its own port. -/
def execSummaryRead (p : Port) (a : Access) (s : State) : Host.Outcome State Fault Refusal :=
  (s.begin.takeAccessIf p a (Judgement.reads (ownSummary p) a.size.bytes)).done

/-- CAPTURE_REARM (R183): a read of the capture's second word. -/
def execCaptureRearm (p : Port) (a : Access) (s : State) : Host.Outcome State Fault Refusal :=
  (s.begin.takeAccessIf p a (Judgement.reads .capture a.size.bytes)).done

/-- ACCESS_COMPLETE (R177): the access that holds the M-port completes, and its events are taken. (DEDUCED,
notes/assumptions/5.md.) -/
def execAccessComplete (s : State) : Host.Outcome State Fault Refusal :=
  let s1 := s.begin
  (match s1.junction.holdingPort with
    | none => s1
    | some p =>
      match s1.junction.access p with
      | some f => (s1.completeAccess p f).takeEvents f.events
      | none => s1).done

/-! ## Events -/

/-- COMMIT_EVENT (R20). -/
def execCommitEvent (i : Fin 256) (s : State) : Host.Outcome State Fault Refusal :=
  (s.begin.takeEvent (.commit i)).done

/-- TAG_COMMIT_EVENT (R45). -/
def execTagCommitEvent (b : BufferNo) (s : State) : Host.Outcome State Fault Refusal :=
  (s.begin.takeEvent (.tagCommit b)).done

/-- CODE_EVENT (R154, R155). -/
def execCodeEvent (s : State) : Host.Outcome State Fault Refusal := (s.begin.takeEvent .code).done

/-- CONSUMER_WRITE (R173). -/
def execConsumerWrite (w : Word) (m : BitVec 4) (s : State) : Host.Outcome State Fault Refusal :=
  (s.begin.takeEvent (.consumer w m)).done

/-- ANCHOR_EVENT (R185): taken in every activation state. -/
def execAnchorEvent (v : ActivateValue) (s : State) : Host.Outcome State Fault Refusal :=
  (s.begin.takeEvent (.anchor v)).done

end Sys2Proof.Machine
end

