-- ==== Sys2Proof/Machine/AgentEvents.lean ====
section
/-! DEFINITION. The meanings of the commands that are completions of the record agent's operations (R184).  A
completion of an operation that is not in progress has no effect. -/

namespace Sys2Proof.Machine

/-- A word is written to memory by the agent. -/
def State.writeWord (s : State) (a : Nat) (w : Word) : State := s.setMemory (Memory.writeWord s.memory a w)

/-! ## Plan slots -/

/-- A plan fetch completes: validation, and acceptance or refusal (R25, R30, R31). -/
def State.completePlanFetch (s : State) (c : Configuration) (i : Nat) : State :=
  let r := readPlanRecord s.memory (planSlotAddress c i)
  let s1 := s.releasePort
  match s1.planRefusal r with
  | some code => s1.ask (.planWrite i (.refused code))
  | none =>
    let s2 := s1.acceptRecord r i
    if s1.plan.queue.isEmpty then s2.evaluate else s2

/-- PLAN_FETCH_COMPLETE (R25). -/
def execPlanFetchComplete (s : State) : Host.Outcome State Fault Refusal :=
  let s1 := s.begin
  (match s1.inProgress, s1.config with
    | some (.planFetch i), some c => s1.completePlanFetch c i
    | _, _ => s1).done

/-- A plan commit word write completes (R22). -/
def State.completePlanWrite (s : State) (c : Configuration) (i : Nat) (a : PlanAnswer) : State :=
  ((s.writeWord (planSlotAddress c i + 28) a.word).releasePort).answerWritten i a

/-- PLAN_COMMIT_WORD_WRITTEN (R22). -/
def execPlanCommitWordWritten (s : State) : Host.Outcome State Fault Refusal :=
  let s1 := s.begin
  (match s1.inProgress, s1.config with
    | some (.planWrite i a), some c => s1.completePlanWrite c i a
    | _, _ => s1).done

/-! ## Tag slots -/

/-- A tag fetch completes (R46, R47). -/
def State.completeTagFetch (s : State) (c : Configuration) (b : BufferNo) : State :=
  s.releasePort.judgeTag b (readTagRecord s.memory (tagSlotAddress c b))

/-- TAG_FETCH_COMPLETE (R46). -/
def execTagFetchComplete (s : State) : Host.Outcome State Fault Refusal :=
  let s1 := s.begin
  (match s1.inProgress, s1.config with
    | some (.tagFetch b), some c => s1.completeTagFetch c b
    | _, _ => s1).done

/-- A tag commit word write completes (R47). -/
def State.completeTagWrite (s : State) (c : Configuration) (b : BufferNo) (a : TagAnswer) : State :=
  let s1 := (s.writeWord (tagSlotAddress c b + 12) a.word).releasePort
  match a with
  | .taken => s1
  | .refusedState => s1
  | .refusedFormat => s1.reopenBuffer b

/-- TAG_COMMIT_WORD_WRITTEN (R47). -/
def execTagCommitWordWritten (s : State) : Host.Outcome State Fault Refusal :=
  let s1 := s.begin
  (match s1.inProgress, s1.config with
    | some (.tagWrite b a), some c => s1.completeTagWrite c b a
    | _, _ => s1).done

/-! ## The command block -/

/-- The write of a command's result and DONE completes (R156). -/
def State.completeFinish (s : State) (c : Configuration) (result : Word) : State :=
  (((s.writeWord (commandBlock c + 16) result).writeWord (commandBlock c + 12) 2).releasePort).raiseE .commandDone

/-- The write of an abandoned command's IDLE completes (R157). -/
def State.completeAbandon (s : State) (c : Configuration) : State :=
  (s.writeWord (commandBlock c + 12) 0).releasePort

/-- COMMAND_FINISH_WRITTEN (R156, R157). (DEDUCED, notes/assumptions/9.md.) -/
def execCommandFinishWritten (s : State) : Host.Outcome State Fault Refusal :=
  let s1 := s.begin
  (match s1.inProgress, s1.config with
    | some (.commandFinish w), some c => s1.completeFinish c w
    | some .commandAbandon, some c => s1.completeAbandon c
    | _, _ => s1).done

/-! ## The log -/

/-- A written STRANDED record lowers the count outstanding (R146). -/
def State.countWritten (s : State) (b : LogBody) : State :=
  if b.isStranded then s.setRun { s.run with outstanding := s.run.outstanding - 1 } else s

/-- A written disposition releases its plan slot (R23). -/
def State.releaseSlot (s : State) (b : LogBody) : State :=
  match b.disposition with
  | some d => s.ask (.planWrite d.slot .released)
  | none => s

/-- A log record write completes (R170, R146). The next record is asked for before the result of a CLEAR that this write
ends (R147). (DESIGN CHOICE, notes/assumptions/54.md.) -/
def State.completeLogWrite (s : State) (c : Configuration) (index : Word) (r : LogRecord) : State :=
  let s1 := (s.setMemory (Memory.writeAll s.memory (layOut (logPosition c index) (r.bytes index)))).releasePort
  let s2 := (s1.setLog { s1.log with producer := s1.log.producer + 1, inFlight := none }).raiseE .logRecord
  (((s2.releaseSlot r.body).countWritten r.body).takeRecord).examineClearance

/-- LOG_RECORD_WRITTEN (R170). -/
def execLogRecordWritten (s : State) : Host.Outcome State Fault Refusal :=
  let s1 := s.begin
  (match s1.inProgress, s1.config with
    | some (.logWrite index r), some c => s1.completeLogWrite c index r
    | _, _ => s1).done

/-! ## The anchor -/

/-- ANCHOR_READ_COMPLETE (R185). -/
def execAnchorReadComplete (s : State) : Host.Outcome State Fault Refusal :=
  let s1 := s.begin
  (match s1.inProgress with
    | some (.anchorRun reconfigure) => s1.readAnchor reconfigure
    | _ => s1).done

/-- CONFIG_READ_COMPLETE (R186). -/
def execConfigReadComplete (s : State) : Host.Outcome State Fault Refusal :=
  let s1 := s.begin
  (match s1.inProgress with
    | some (.configRead reconfigure format address) => s1.readConfig reconfigure format address
    | _ => s1).done

/-- ANCHOR_RESULT_WRITTEN (R185). (notes/assumptions/9.md.) -/
def execAnchorResultWritten (s : State) : Host.Outcome State Fault Refusal :=
  let s1 := s.begin
  (match s1.inProgress with
    | some (.anchorResult w) => s1.finishAnchor w
    | _ => s1).done

end Sys2Proof.Machine
end

