-- ==== Sys2Proof/Machine/Commands.lean ====
section
/-! DEFINITION. Chapter 9: the meanings of the engine commands.  Each is a command read that completes and finds the
code of the row in the command block. -/

namespace Sys2Proof.Machine

/-! ## The command read (R154, R156) -/

/-- The command operation's writes: the state word reads ACCEPTED and the result word zero (R154). -/
def State.writeAccepted (s : State) (c : Configuration) : State :=
  (s.writeWord (commandBlock c + 12) 1).writeWord (commandBlock c + 16) 0

/-- The command being run takes the code and the operands the read found. -/
def State.loadCommand (s : State) (c : Configuration) (code : Option CommandCode) : State :=
  let word := fun n => Memory.word s.memory (commandBlock c + n)
  s.setRun
    { s.run with
      running := s.run.running.map (fun r =>
        { r with code := code, operand1 := word 0, operand2 := word 4, operand3 := word 8 }) }

/-- A command operation completes whose code word names the command given (none: no command), and the command is taken
with operand 1; the read of an abandoned command is disregarded (R157). (DEDUCED, notes/assumptions/10.md.) -/
def State.takeCommand (s : State) (code : Option CommandCode) (effect : Word → State → State) : State :=
  match s.inProgress, s.config with
  | some (.commandOp abandoned), some c =>
    if CommandCode.ofWord (Memory.word s.memory (commandBlock c + 28)) = code then
      let s1 := (s.writeAccepted c).releasePort
      if abandoned then s1 else effect (Memory.word s.memory (commandBlock c)) (s1.loadCommand c code)
    else s
  | _, _ => s

/-- The command is refused for the run state (R156). -/
def State.refuseState (s : State) : State := s.finish .refusedState s.run.state.code

/-- The command is refused for operand 1 (R156). -/
def State.refuseOperand (s : State) : State := s.finish .badOperand 1

/-- A command that finishes REDUNDANT. (detail 0: R191.) -/
def State.redundant (s : State) : State := s.finish .redundant 0

/-- A command that finishes DONE. (detail 0: R191.) -/
def State.succeed (s : State) : State := s.finish .done 0

/-- UNKNOWN_COMMAND_CODE (R156). -/
def execUnknownCommandCode (s : State) : Host.Outcome State Fault Refusal :=
  (s.begin.takeCommand none (fun _ x => x.finish .badOperand 0)).done

/-! ## START, STOP, HALT (R158 to R160) -/

/-- The path is clear and the cover closed (R144, R158). -/
def State.pathClear (s : State) : Bool := !s.anyCovered && !s.lines.coverOpen

/-- STARTING is entered with a spin-up to a code (R125, R158). -/
def State.beginStart (s : State) (c : SpeedCode) : State :=
  (s.enter .starting).withDrive (fun d => d.spinUp s.tick c s.lockTimeoutTicks)

/-- START (R158). -/
def State.runStart (operand : Word) (s : State) : State :=
  if s.run.state ≠ .idle then s.refuseState
  else if 8 ≤ operand.toNat then s.refuseOperand
  else if !s.junction.guardOn then s.finish .refusedState 0x200
  else if s.run.clearanceMark then s.finish .refusedState 0x201
  else if !s.pathClear then s.finish .notClear 0
  else s.beginStart (Fin.ofNat 8 operand.toNat)

/-- START (R158). -/
def execStart (s : State) : Host.Outcome State Fault Refusal :=
  (s.begin.takeCommand (some .start) State.runStart).done

/-- STOP (R159). (plain DRAINING: DEDUCED, notes/assumptions/17.md.) -/
def State.runStop (_ : Word) (s : State) : State :=
  match s.run.state with
  | .idle => s.redundant
  | .running => s.enterDraining none s.run.changeStatus
  | .draining =>
    match s.run.drainTarget with
    | some _ => (s.endChange .aborted).examineDrain
    | none => s
  | .starting => s.refuseState
  | .respeed => s.refuseState
  | .stopping => s.refuseState
  | .stopped => s.refuseState
  | .clearing => s.refuseState
  | .inactive => s.refuseState

/-- STOP (R159). -/
def execStop (s : State) : Host.Outcome State Fault Refusal :=
  (s.begin.takeCommand (some .stop) State.runStop).done

/-- HALT (R160). (STARTING: DEDUCED, notes/assumptions/18.md.) -/
def State.runHalt (_ : Word) (s : State) : State :=
  match s.run.state with
  | .running => (s.report (Report.bare .operator)).succeed
  | .draining => (s.report (Report.bare .operator)).succeed
  | .respeed => (s.report (Report.bare .operator)).succeed
  | .stopping => (s.report (Report.bare .operator)).succeed
  | .starting => (s.report (Report.bare .operator)).succeed
  | .idle => s.redundant
  | .stopped => s.redundant
  | .clearing => s.redundant
  | .inactive => s.redundant

/-- HALT (R160). -/
def execHalt (s : State) : Host.Outcome State Fault Refusal :=
  (s.begin.takeCommand (some .halt) State.runHalt).done

/-! ## Feed and speed (R161, R162) -/

/-- PAUSE FEED (R161). -/
def State.runPauseFeed (_ : Word) (s : State) : State :=
  if s.run.holds.operator then s.redundant else (s.setHolds { s.run.holds with operator := true }).succeed

/-- PAUSE FEED (R161). -/
def execPauseFeed (s : State) : Host.Outcome State Fault Refusal :=
  (s.begin.takeCommand (some .pauseFeed) State.runPauseFeed).done

/-- RESUME FEED (R161). -/
def State.runResumeFeed (_ : Word) (s : State) : State :=
  if s.run.holds.operator then ((s.setHolds { s.run.holds with operator := false }).succeed).evaluate else s.redundant

/-- RESUME FEED (R161). -/
def execResumeFeed (s : State) : Host.Outcome State Fault Refusal :=
  (s.begin.takeCommand (some .resumeFeed) State.runResumeFeed).done

/-- CHANGE SPEED (R132, R162). -/
def State.runChangeSpeed (operand : Word) (s : State) : State :=
  if s.run.state ≠ .running then s.refuseState
  else if 8 ≤ operand.toNat then s.refuseOperand
  else
    let c : SpeedCode := Fin.ofNat 8 operand.toNat
    if c = s.drive.current then s.redundant else (s.enterDraining (some c) .draining).succeed

/-- CHANGE SPEED (R132, R162). -/
def execChangeSpeed (s : State) : Host.Outcome State Fault Refusal :=
  (s.begin.takeCommand (some .changeSpeed) State.runChangeSpeed).done

/-- The drain of a speed change is cancelled: the run goes on (R134). The result is asked for before the STACKER SWITCH
record of an eject begun at the entry to RUNNING. (DESIGN CHOICE, notes/assumptions/53.md.) -/
def State.resumeRun (s : State) : State := (((s.endChange .cancelled).enter .running).succeed).evaluate.examineSet

/-- The drive is commanded back to the old code (R134). -/
def State.commandBack (s : State) : State :=
  (s.setRun { s.run with changeStatus := .returning }).withDrive
    (fun d => d.relockTo s.tick d.current s.lockTimeoutTicks)

/-- CANCEL SPEED CHANGE (R134, R162). (detail 0: R191.) -/
def State.runCancelSpeedChange (_ : Word) (s : State) : State :=
  if s.run.state ≠ .draining ∧ s.run.state ≠ .respeed then s.refuseState
  else
    match s.run.changeStatus with
    | .draining => s.resumeRun
    | .relocking => s.commandBack
    | .none => s.finish .refusedState 0
    | .returning => s.finish .refusedState 0
    | .done => s.finish .refusedState 0
    | .cancelled => s.finish .refusedState 0
    | .failed => s.finish .refusedState 0
    | .aborted => s.finish .refusedState 0

/-- CANCEL SPEED CHANGE (R134, R162). -/
def execCancelSpeedChange (s : State) : Host.Outcome State Fault Refusal :=
  (s.begin.takeCommand (some .cancelSpeedChange) State.runCancelSpeedChange).done

/-! ## CLEAR (R144, R163) -/

/-- The run state lets a CLEAR be judged (R144). -/
def State.clearAllowed (s : State) : Bool :=
  s.run.state == .stopped || ((s.run.state == .clearing || s.run.state == .idle) && s.run.clearanceMark)

/-- CLEAR (R144, R163). -/
def State.runClear (_ : Word) (s : State) : State :=
  if !s.clearAllowed then s.refuseState else if !s.pathClear then s.finish .notClear 0 else s.carryOutClear

/-- CLEAR (R163). -/
def execClear (s : State) : Host.Outcome State Fault Refusal :=
  (s.begin.takeCommand (some .clear) State.runClear).done

/-! ## Plan and buffers (R164, R165) -/

/-- The removed entry of the lowest sequence cuts its copy when its k is above 1 (R36). -/
def cutBy : List PlanEntry → Option PlanEntry
  | [] => none
  | e :: _ => if 1 < e.k then some e else none

/-- WITHDRAW (R35, R36, R164). -/
def State.runWithdraw (operand : Word) (s : State) : State :=
  if operand = 0 then s.refuseOperand
  else
    let gone := s.plan.queue.filter (fun e => decide (operand.toNat ≤ e.sequence))
    let s1 := s.withdrawFrom operand.toNat
    if gone.isEmpty then s1.redundant
    else
      match cutBy gone with
      | some e => (s1.breakCopy e.copy e.mode).finish .done (gone.length + 0x8000)
      | none => s1.finish .done gone.length

/-- WITHDRAW (R164). -/
def execWithdraw (s : State) : Host.Outcome State Fault Refusal :=
  (s.begin.takeCommand (some .withdraw) State.runWithdraw).done

/-- The buffer operand 1 names, below the configured count (R165). -/
def State.operandBuffer (s : State) (operand : Word) : Option BufferNo :=
  match bufferField operand.toNat with
  | some b => if b.val < s.bufferCount then some b else none
  | none => none

/-- RELEASE BUFFER (R51, R165). -/
def State.runReleaseBuffer (operand : Word) (s : State) : State :=
  match s.operandBuffer operand with
  | none => s.refuseOperand
  | some b =>
    if (s.buffer b).state ≠ .held then s.finish .refusedState (s.buffer b).state.code
    else if (s.buffer b).count = 0 then (s.freeBuffer b).succeed
    else s.finish .inUse (s.buffer b).count

/-- RELEASE BUFFER (R165). -/
def execReleaseBuffer (s : State) : Host.Outcome State Fault Refusal :=
  (s.begin.takeCommand (some .releaseBuffer) State.runReleaseBuffer).done

/-- RECLAIM BUFFER (R52, R165). -/
def State.runReclaimBuffer (operand : Word) (s : State) : State :=
  match s.operandBuffer operand with
  | none => s.refuseOperand
  | some b =>
    match (s.buffer b).state with
    | .filling => (s.freeBuffer b).succeed
    | .closing => s.finish .busy 0
    | .free => s.finish .refusedState (s.buffer b).state.code
    | .held => s.finish .refusedState (s.buffer b).state.code

/-- RECLAIM BUFFER (R165). -/
def execReclaimBuffer (s : State) : Host.Outcome State Fault Refusal :=
  (s.begin.takeCommand (some .reclaimBuffer) State.runReclaimBuffer).done

/-! ## Guard and stacker (R166, R167) -/

/-- The guard flag is set or cleared. -/
def State.setGuard (s : State) (on : Bool) : State := s.setJunction { s.junction with guardOn := on }

/-- GUARD ON (R166). -/
def State.runGuardOn (_ : Word) (s : State) : State :=
  if s.junction.guardOn then s.redundant else (s.setGuard true).succeed

/-- GUARD ON (R166). -/
def execGuardOn (s : State) : Host.Outcome State Fault Refusal :=
  (s.begin.takeCommand (some .guardOn) State.runGuardOn).done

/-- GUARD OFF (R166). -/
def State.runGuardOff (_ : Word) (s : State) : State :=
  if s.run.state ≠ .idle then s.refuseState
  else if s.junction.guardOn then (s.setGuard false).succeed
  else s.redundant

/-- GUARD OFF (R166). -/
def execGuardOff (s : State) : Host.Outcome State Fault Refusal :=
  (s.begin.takeCommand (some .guardOff) State.runGuardOff).done

/-- The stacker of a number (R167). -/
def stackerOf (operand : Word) : Option Stacker :=
  if operand = 1 then some .k1 else if operand = 2 then some .k2 else none

/-- SELECT STACKER (R107, R167). -/
def State.runSelectStacker (operand : Word) (s : State) : State :=
  match stackerOf operand with
  | some k => (s.setOutput { s.output with selection := some k }).succeed
  | none => s.refuseOperand

/-- SELECT STACKER (R167). -/
def execSelectStacker (s : State) : Host.Outcome State Fault Refusal :=
  (s.begin.takeCommand (some .selectStacker) State.runSelectStacker).done

end Sys2Proof.Machine
end

