-- ==== Sys2Proof/Machine/Dispatch.lean ====
section
/-! DEFINITION. One arm per command: the meaning of each row of spec/opcode_table.json. -/

namespace Sys2Proof.Machine

open Sys2Proof

/-- The effect of a command on everything but the queue of waiting commands. -/
def exec (i : Instr) (s : State) : Host.Outcome State Fault Refusal :=
  match i with
  | .powerReset => Sys2Proof.Machine.execPowerReset s
  | .engineReset => Sys2Proof.Machine.execEngineReset s
  | .coverOpen => Sys2Proof.Machine.execCoverOpen s
  | .leadingEdge x => Sys2Proof.Machine.execLeadingEdge x s
  | .trailingEdge x => Sys2Proof.Machine.execTrailingEdge x s
  | .imageFault => Sys2Proof.Machine.execImageFault s
  | .trayEmptyDeasserted t => Sys2Proof.Machine.execTrayEmptyDeasserted t s
  | .stackerFull k level => Sys2Proof.Machine.execStackerFull k level s
  | .purgeFull level => Sys2Proof.Machine.execPurgeFull level s
  | .encoder => Sys2Proof.Machine.execEncoder s
  | .encoderWindowClose => Sys2Proof.Machine.execEncoderWindowClose s
  | .lockTimeout => Sys2Proof.Machine.execLockTimeout s
  | .slotPasses => Sys2Proof.Machine.execSlotPasses s
  | .pickDue h => Sys2Proof.Machine.execPickDue h s
  | .releaseDue h => Sys2Proof.Machine.execReleaseDue h s
  | .lateRelease h => Sys2Proof.Machine.execLateRelease h s
  | .windowExpiry x item => Sys2Proof.Machine.execWindowExpiry x item s
  | .stall x => Sys2Proof.Machine.execStall x s
  | .graceExpiry => Sys2Proof.Machine.execGraceExpiry s
  | .upstreamAccess p a => Sys2Proof.Machine.execUpstreamAccess p a s
  | .accessComplete => Sys2Proof.Machine.execAccessComplete s
  | .droppedWrite p a => Sys2Proof.Machine.execDroppedWrite p a s
  | .commitEvent slot => Sys2Proof.Machine.execCommitEvent slot s
  | .tagCommitEvent b => Sys2Proof.Machine.execTagCommitEvent b s
  | .codeEvent => Sys2Proof.Machine.execCodeEvent s
  | .consumerWrite data mask => Sys2Proof.Machine.execConsumerWrite data mask s
  | .anchorEvent v => Sys2Proof.Machine.execAnchorEvent v s
  | .claim a => Sys2Proof.Machine.execClaim a s
  | .claimInspection a => Sys2Proof.Machine.execClaimInspection a s
  | .abandon a => Sys2Proof.Machine.execAbandon a s
  | .summaryRead p a => Sys2Proof.Machine.execSummaryRead p a s
  | .captureRearm p a => Sys2Proof.Machine.execCaptureRearm p a s
  | .planFetchComplete => Sys2Proof.Machine.execPlanFetchComplete s
  | .planCommitWordWritten => Sys2Proof.Machine.execPlanCommitWordWritten s
  | .tagFetchComplete => Sys2Proof.Machine.execTagFetchComplete s
  | .tagCommitWordWritten => Sys2Proof.Machine.execTagCommitWordWritten s
  | .unknownCommandCode => Sys2Proof.Machine.execUnknownCommandCode s
  | .start => Sys2Proof.Machine.execStart s
  | .stop => Sys2Proof.Machine.execStop s
  | .pauseFeed => Sys2Proof.Machine.execPauseFeed s
  | .resumeFeed => Sys2Proof.Machine.execResumeFeed s
  | .changeSpeed => Sys2Proof.Machine.execChangeSpeed s
  | .cancelSpeedChange => Sys2Proof.Machine.execCancelSpeedChange s
  | .halt => Sys2Proof.Machine.execHalt s
  | .clear => Sys2Proof.Machine.execClear s
  | .withdraw => Sys2Proof.Machine.execWithdraw s
  | .releaseBuffer => Sys2Proof.Machine.execReleaseBuffer s
  | .reclaimBuffer => Sys2Proof.Machine.execReclaimBuffer s
  | .guardOn => Sys2Proof.Machine.execGuardOn s
  | .guardOff => Sys2Proof.Machine.execGuardOff s
  | .selectStacker => Sys2Proof.Machine.execSelectStacker s
  | .commandFinishWritten => Sys2Proof.Machine.execCommandFinishWritten s
  | .logRecordWritten => Sys2Proof.Machine.execLogRecordWritten s
  | .configReadComplete => Sys2Proof.Machine.execConfigReadComplete s
  | .anchorResultWritten => Sys2Proof.Machine.execAnchorResultWritten s
  | .trayEmptyAsserted t => Sys2Proof.Machine.execTrayEmptyAsserted t s
  | .coverOpenDeasserted => Sys2Proof.Machine.execCoverOpenDeasserted s
  | .imageFaultDeasserted => Sys2Proof.Machine.execImageFaultDeasserted s
  | .anchorReadComplete => Sys2Proof.Machine.execAnchorReadComplete s

end Sys2Proof.Machine
end

