-- ==== Sys2Proof/Machine/Step.lean ====
section
/-! DEFINITION. One step of the block: the command at the front of the queue, or, with none waiting, what the part does
by itself (notes/assumptions/5.md): an expiry that is due, or a tick. -/

namespace Sys2Proof.Machine

open Sys2Proof

/-- One tick passes: the counter advances by one and wraps (R1). -/
def State.idleTick (s : State) : State := (s.setPulses []).setTick (s.tick + 1)

/-- The expiry taken first among several due at one tick: an open choice (R2, notes/assumptions/2.md). -/
def chooseDue (s : State) (first : Instr) (rest : List Instr) : Instr :=
  match rest with
  | [] => first
  | _ :: _ => (first :: rest).getD (Config.expiryChoice s.freeCount % (rest.length + 1)) first

/-- What the part does by itself while no command waits. -/
def State.idle (s : State) : Host.Outcome State Fault Refusal :=
  match s.dueNow with
  | c :: cs => exec (chooseDue s c cs) s
  | [] => .next s.idleTick

/-- One step. -/
def step (s : State) : Host.Outcome State Fault Refusal :=
  match s.pending with
  | c :: rest => exec c (s.setPending rest)
  | [] => s.idle

/-- The state with the command a word spells at the front of its queue. -/
def State.withFetchWord (s : State) (nbits w : Nat) : State :=
  match decodeTableWord nbits w with
  | some c => s.setPending (c :: s.pending)
  | none => s

end Sys2Proof.Machine
end

