-- ==== Sys2Proof/Safety.lean ====
section
/-! DEFINITION. What claims about the block are stated in: which blocks of the state an event leaves alone, the
conditions the manual keeps in every state, and the manual's rules as relations between the state before and the state
after. -/

namespace Sys2Proof.Machine

/-! ## Frames -/

/-- The parts of the state (00_scope, Block Overview).  The model's own counter of free values is none of them. -/
inductive Block where
  | tick | config | lines | memory | junction | plan | buffers | scheduler | tracker | output | drive | run | log
  | attention | pulses | pending
  deriving DecidableEq, Repr

/-- A part of the state is the same in two states. -/
def Block.same (s t : State) : Block → Prop
  | .tick => t.tick = s.tick
  | .config => t.config = s.config
  | .lines => t.lines = s.lines
  | .memory => t.memory = s.memory
  | .junction => t.junction = s.junction
  | .plan => t.plan = s.plan
  | .buffers => t.buffers = s.buffers
  | .scheduler => t.scheduler = s.scheduler
  | .tracker => t.tracker = s.tracker
  | .output => t.output = s.output
  | .drive => t.drive = s.drive
  | .run => t.run = s.run
  | .log => t.log = s.log
  | .attention => t.attention = s.attention
  | .pulses => t.pulses = s.pulses
  | .pending => t.pending = s.pending

/-- Every part of the state but those listed is the same in `t` as in `s`. -/
def KeepsBut (changed : List Block) (s t : State) : Prop := ∀ b : Block, b ∉ changed → b.same s t

/-- An event at the blocks listed with no request to the memory junction and no pulse: every other part of the state
stands, the junction is as it was but for the grant of a free M-port (R178), and no pulse is made. -/
def ActsOn (changed : List Block) (s t : State) : Prop :=
  KeepsBut (.junction :: .pulses :: changed) s t ∧ t.junction = s.junction.grant ∧ t.pulses = []

/-- The memory junction apart from the record agent's queue. -/
def Junction.rest (j : Junction) : Junction := { j with agentQueue := [] }

/-! ## Conditions kept in every state -/

/-- The drive turns under power: SPIN-UP, LOCKED and RELOCK (R122). -/
def DriveState.powered : DriveState → Bool
  | .off => false
  | .spinUp => true
  | .locked => true
  | .relock => true
  | .coasting => false

/-- The drive is being brought to its target code: SPIN-UP and RELOCK (R122). -/
def DriveState.seeking : DriveState → Bool
  | .off => false
  | .spinUp => true
  | .locked => false
  | .relock => true
  | .coasting => false

/-- The tables of R122: the two lines by the drive state, a window open in every state but OFF, a lock deadline in
SPIN-UP and RELOCK alone, and the ranges of the run counters. -/
def Drive.Sound (d : Drive) : Prop :=
  d.enable = d.state.powered
    ∧ d.speed = (if d.state.seeking then d.target else d.current)
    ∧ d.windowClose.isSome = (d.state != .off)
    ∧ (d.lockDeadline.isSome = true → d.state.seeking = true)
    ∧ (d.state = .off → d.count = 0)
    ∧ d.inBandRun ≤ 4 ∧ d.deviationRun ≤ 3 ∧ d.zeroRun ≤ 2

/-- Each attention line is asserted exactly while its summary is not empty (R174). -/
def Attention.Sound (a : Attention) : Prop :=
  a.lineE = (a.e != ESummary.empty) ∧ a.lineP = (a.p != PSummary.empty)

/-- A buffer entry has the form of its state: FREE, FILLING and CLOSING have no tag, count 0 and both flags clear (R39,
R41, R48); HELD has a tag, whose side is ANY exactly when the buffer is PERSISTENT (R46), and a count of at most 255
(R28). -/
def Buffer.Sound (x : Buffer) : Prop :=
  match x.state with
  | .free => x = Buffer.free
  | .filling => x = { Buffer.free with state := .filling }
  | .closing => x = { Buffer.free with state := .closing }
  | .held => (∃ t, x.tag = some t ∧ (x.persistent = true ↔ t.side = .any)) ∧ x.count ≤ 255

/-- Every buffer entry has the form of its state. -/
def Residency.Sound (r : Residency) : Prop := ∀ b : BufferNo, r.table[b].Sound

/-- The M-port is held exactly while some requester waits for it, and by one that waits (R178, R184). -/
def Junction.Sound (j : Junction) : Prop :=
  match j.holder with
  | some r => j.waits r = true
  | none => j.waits .E = false ∧ j.waits .P = false ∧ j.waits .agent = false

/-- The part is PASS-ALL exactly while it is INACTIVE (R136, R186, R187). -/
def State.ActivationSound (s : State) : Prop := s.config = none ↔ s.run.state = .inactive

/-- The guard is off only in IDLE and in CLEARING (R166). -/
def State.GuardSound (s : State) : Prop :=
  s.junction.guardOn = false → s.run.state = .idle ∨ s.run.state = .clearing

/-- A command is being run exactly while the command state is ACCEPTED (R153, R154, R156, R157). -/
def RunControl.CommandSound (r : RunControl) : Prop := r.command = .accepted ↔ r.running.isSome = true

/-! ## Stops (R139, R141) -/

/-- The run controller after a later cause (R141): it enters the jam record under construction as the secondary cause,
or sets MULTIPLE; a cover opening moves the grace deadline to its own tick. -/
def RunControl.afterLater (r : RunControl) (now : Tick) (c : Report) : RunControl :=
  { r with
    jam := r.jam.map (fun j => match j.secondary with
      | none => { j with secondary := some (c.cause, c.sensor) }
      | some _ => { j with multiple := true })
    graceDeadline := if c.cause = .coverOpen then some now else r.graceDeadline }

/-- The run states in which a stop cause is the first cause (R138). -/
def RunState.runs : RunState → Bool
  | .starting => true
  | .running => true
  | .draining => true
  | .respeed => true
  | .stopping => false
  | .stopped => false
  | .clearing => false
  | .idle => false
  | .inactive => false

/-! ## Memory -/

/-- Only bytes from `lo` up to below `hi` may read differently in `n` than in `m`. -/
def OnlyWrites (lo hi : Nat) (m n : List Host.Cell) : Prop :=
  ∀ a, a < lo ∨ hi ≤ a → Memory.read n a = Memory.read m a

/-! ## Commands (R154, R156) -/

/-- A command operation is at its read and finds a code, under the configuration `c`, for the command `r` being run. -/
def CommandRead (s : State) (c : Configuration) (code : Option CommandCode) (r : RunningCommand) : Prop :=
  s.config = some c ∧ s.inProgress = some (.commandOp false) ∧ s.run.running = some r
    ∧ CommandCode.ofWord (Memory.word s.memory (commandBlock c + 28)) = code

/-- Operand 1 as the read finds it. -/
def operand1 (s : State) (c : Configuration) : Word := Memory.word s.memory (commandBlock c)

/-- A descriptor is the configuration's one enabled window of a kind (R186 has one of each special kind). -/
def Configuration.OnlyWindow (c : Configuration) (k : WindowKind) (d : Descriptor) : Prop :=
  d ∈ c.descriptors.toList ∧ d.enabled = true ∧ d.kind = some k
    ∧ ∀ x ∈ c.descriptors.toList, x.enabled = true → x.kind = some k → x = d

/-- The command operation's writes: the state word reads ACCEPTED, the result word zero, and no other byte changes. -/
def WritesAccepted (s : State) (c : Configuration) (t : State) : Prop :=
  Memory.word t.memory (commandBlock c + 12) = 1 ∧ Memory.word t.memory (commandBlock c + 16) = 0
    ∧ OnlyWrites (commandBlock c + 12) (commandBlock c + 20) s.memory t.memory

/-- The run controller with a command finished: DONE, with no command being run. -/
def RunControl.finished (r : RunControl) : RunControl := { r with command := .done, running := none }

/-- The run controller with the command that was read being run: its code and operands as the read found them. -/
def RunControl.running' (r : RunControl) (s : State) (c : Configuration) (code : Option CommandCode)
    (k : RunningCommand) : RunControl :=
  { r with
    running := some
      { k with
        code := code
        operand1 := Memory.word s.memory (commandBlock c)
        operand2 := Memory.word s.memory (commandBlock c + 4)
        operand3 := Memory.word s.memory (commandBlock c + 8) } }

/-- The junction after the operation in progress has completed and others have been asked for. -/
def Junction.answered (j : Junction) (ops : List RecordOp) : Junction :=
  { j with holder := none, agentQueue := j.agentQueue.tail ++ ops }

/-- The result write of the command `r` is asked for. -/
def finishOp (r : RunningCommand) (result : ResultCode) (detail : Nat) : RecordOp :=
  .commandFinish (resultWord result r.overrun detail)

/-- A command read at `s` that finishes at once with a result and no other effect (R156). -/
def OnlyFinishes (s : State) (c : Configuration) (r : RunningCommand) (result : ResultCode) (detail : Nat)
    (t : State) : Prop :=
  WritesAccepted s c t ∧ t.run = s.run.finished
    ∧ t.junction = (s.junction.answered [finishOp r result detail]).grant ∧ t.pulses = []
    ∧ KeepsBut [.memory, .run, .junction, .pulses] s t

/-! ## Pulses -/

/-- The pulses that move a sheet: every pulse but EJECT. -/
def Pulse.movesSheet : Pulse → Bool
  | .pick _ => true
  | .holdRelease => true
  | .eject _ => false

/-- The pick and hold release pulses of the step just made. -/
def State.sheetPulses (s : State) : List Pulse := s.pulses.filter Pulse.movesSheet

/-! ## POWER RESET (R136 and the reset clauses of the other chapters) -/

/-- Every value the manual gives for POWER RESET, the sensors' levels and occupants apart. -/
def State.AtPowerReset (t : State) : Prop :=
  t.tick = 0 ∧ t.config = none
    ∧ t.plan.slots = [] ∧ t.plan.queue = [] ∧ t.plan.lastAccepted = 0 ∧ t.plan.tail = none
    ∧ (∀ b, t.buffer b = ⟨.free, none, 0, false, false⟩) ∧ t.buffers.claimWaiting = false
    ∧ t.scheduler.grid = none ∧ t.scheduler.admissionBounds = none ∧ t.scheduler.pickBounds = none
    ∧ t.scheduler.waitReason = .notRunning
    ∧ (∀ h, (t.timers h).pick = none ∧ (t.timers h).release = none ∧ (t.timers h).late = none
        ∧ (t.timers h).latePending = false)
    ∧ t.tracker.timing = none ∧ (∀ h, t.sheet h = none)
    ∧ (∀ x, (t.sensor x).coverTimer = none ∧ (t.sensor x).expectations = [])
    ∧ t.output.loopGate = ⟨.out, none, false, none⟩ ∧ t.output.routeGate = ⟨.accumulate, none, false, none⟩
    ∧ t.output.active = .k1 ∧ t.output.selection = none ∧ t.output.latest = none ∧ t.output.committed = none
    ∧ t.output.top1 = none ∧ t.output.top2 = none ∧ t.output.jog1 = .home ∧ t.output.jog2 = .home
    ∧ t.output.set.state = .empty ∧ t.output.set.members = [] ∧ t.output.set.overruns = []
    ∧ t.output.set.condition = .sound ∧ t.output.broken = []
    ∧ t.drive = ⟨.off, 0, 0, 0, 0, none, 0, 0, 0, none, false, 0⟩
    ∧ t.run.state = .inactive ∧ t.run.holds.any = false ∧ t.run.jam = none ∧ t.run.lastJam = none
    ∧ t.run.graceDeadline = none ∧ t.run.clearanceMark = false ∧ t.run.outstanding = 0 ∧ t.run.drainTarget = none
    ∧ t.run.changeStatus = .none ∧ t.run.command = .idle ∧ t.run.running = none
    ∧ t.log.producer = 0 ∧ t.log.consumer = 0 ∧ t.log.waiting = [] ∧ t.log.inFlight = none ∧ t.log.overrun = false
    ∧ t.attention.e = ESummary.empty ∧ t.attention.p = PSummary.empty ∧ t.attention.lineE = false
    ∧ t.attention.lineP = false
    ∧ t.junction.arbiter = .rotating ∧ t.junction.rotation = .E ∧ t.junction.guardOn = true ∧ t.junction.latch = none
    ∧ t.junction.anchorFlag = false ∧ t.junction.lastResult = 0 ∧ t.junction.agentQueue = []

/-! ## What each command may change -/

/-- The parts a stop, a break of a copy or a delivery may reach: all but the tick, the configuration, the lines, memory
and the waiting commands. -/
def pathBlocks : List Block := [.plan, .buffers, .scheduler, .tracker, .output, .drive, .run, .log, .attention]

/-- The parts of the state a command may change, besides the junction and the pulses. -/
def mayChange : Sys2Proof.Instr → List Block
  | .powerReset => .tick :: .config :: pathBlocks
  | .engineReset => pathBlocks
  | .coverOpen => .lines :: pathBlocks
  | .leadingEdge _ => pathBlocks
  | .trailingEdge _ => pathBlocks
  | .imageFault => [.lines, .plan, .buffers, .tracker, .output, .log, .attention]
  | .trayEmptyDeasserted _ => [.lines, .plan, .scheduler, .tracker, .run]
  | .stackerFull _ _ => [.lines, .plan, .scheduler, .tracker, .output, .run, .log, .attention]
  | .purgeFull _ => [.lines, .plan, .scheduler, .tracker, .output, .run, .log, .attention]
  | .encoder => [.drive]
  | .encoderWindowClose => pathBlocks
  | .lockTimeout => [.tracker, .output, .drive, .run, .log, .attention]
  | .slotPasses => [.plan, .scheduler, .tracker]
  | .pickDue _ => [.plan, .buffers, .scheduler, .tracker, .output, .run, .log, .attention]
  | .releaseDue _ => [.scheduler, .tracker]
  | .lateRelease _ => [.scheduler, .tracker]
  | .windowExpiry _ _ => pathBlocks
  | .stall _ => pathBlocks
  | .graceExpiry => [.tracker, .output, .run, .log, .attention]
  | .upstreamAccess _ _ => [.buffers, .attention]
  | .accessComplete => .memory :: .config :: pathBlocks
  | .droppedWrite _ _ => []
  | .commitEvent _ => [.plan]
  | .tagCommitEvent _ => [.buffers]
  | .codeEvent => [.run]
  | .consumerWrite _ _ => [.plan, .scheduler, .tracker, .log, .attention]
  | .anchorEvent _ => .config :: pathBlocks
  | .claim _ => [.buffers, .attention]
  | .claimInspection _ => [.attention]
  | .abandon _ => [.buffers, .attention]
  | .summaryRead _ _ => [.buffers, .attention]
  | .captureRearm _ _ => [.buffers, .attention]
  | .planFetchComplete => [.plan, .buffers, .scheduler, .tracker]
  | .planCommitWordWritten => [.memory, .plan]
  | .tagFetchComplete => [.buffers, .attention]
  | .tagCommitWordWritten => [.memory, .buffers]
  | .unknownCommandCode => [.memory, .run]
  | .start => [.memory, .drive, .run]
  | .stop => .memory :: pathBlocks
  | .pauseFeed => [.memory, .run]
  | .resumeFeed => [.memory, .plan, .scheduler, .tracker, .run]
  | .changeSpeed => .memory :: pathBlocks
  | .cancelSpeedChange => [.memory, .plan, .scheduler, .tracker, .output, .drive, .run, .log, .attention]
  | .halt => .memory :: pathBlocks
  | .clear => [.memory, .plan, .buffers, .scheduler, .tracker, .output, .run, .log, .attention]
  | .withdraw => [.memory, .plan, .buffers, .tracker, .output, .run, .log, .attention]
  | .releaseBuffer => [.memory, .buffers, .run, .attention]
  | .reclaimBuffer => [.memory, .buffers, .run, .attention]
  | .guardOn => [.memory, .run]
  | .guardOff => [.memory, .run]
  | .selectStacker => [.memory, .output, .run]
  | .commandFinishWritten => [.memory, .attention]
  | .logRecordWritten => [.memory, .tracker, .output, .run, .log, .attention]
  | .configReadComplete => [.config, .plan, .buffers, .scheduler, .tracker, .output, .run, .log, .attention]
  | .anchorResultWritten => [.memory]
  | .trayEmptyAsserted _ => [.lines]
  | .coverOpenDeasserted => [.lines]
  | .imageFaultDeasserted => [.lines]
  | .anchorReadComplete => [.memory]

/-! ## The slot search (R62) -/

/-- A front slot meets every requirement of R62, for the sheet `x` at the present tick, under the admission bounds. -/
def Grid.Fits (g : Grid) (now : Tick) (last : Option Bounds) (x : PlanEntry) (slot : Nat) : Prop :=
  let final := match x.sides with
    | .simplex => slot
    | .duplex => slot + g.loopPitches
  let due := g.t0 + BitVec.ofNat 32 (slot * g.pitch) - BitVec.ofNat 32 g.lead[x.tray]
  notEarlier due now = true
    ∧ (∀ b, last = some b →
        laterThan due b.pickDue = true ∧ b.front < slot ∧ b.final < final
          ∧ (x.k = 1 → x.mode = .set → b.final + g.setGap ≤ final))
    ∧ g.current ≤ slot ∧ slot ≤ g.current + 31 ∧ g.ring[slot - g.current]? = some .free
    ∧ g.current ≤ final ∧ final ≤ g.current + 31 ∧ g.ring[final - g.current]? = some .free

/-! ## Lines and sensors -/

/-- The state `t` is `u` after one evaluation of admission (R61 to R65), with no other request to the junction. -/
def EvaluatedAs (u t : State) : Prop :=
  t.plan = u.evaluate.plan ∧ t.scheduler = u.evaluate.scheduler ∧ t.tracker = u.evaluate.tracker
    ∧ t.junction = u.junction.grant ∧ t.pulses = [] ∧ KeepsBut [.junction, .pulses, .plan, .scheduler, .tracker] u t

/-- An ACCEPTED command is abandoned (R151, R157). -/
def RunControl.abandoned (r : RunControl) : RunControl :=
  if r.command = .accepted then { r with command := .idle, running := none } else r

/-- A leading edge at a sensor is a collision: at LH with a sheet HELD, at AC with the set in flight (R87, R88). -/
def State.Collides (s : State) (x : Sensor) : Prop :=
  (x = .LH ∧ ∃ h sh, s.sheet h = some sh ∧ sh.state = .held)
    ∨ (x = .AC ∧ (s.output.set.state = .ejecting ∨ s.output.set.state = .dumping))

/-- The leg a sheet sets out on when it is matched at a sensor before the transfer station (R3, R82). -/
def nextLeg : Sensor → Option Leg
  | .F1 => some 0
  | .F2 => some 1
  | .F3 => some 2
  | .F4 => some 3
  | .MG => some 4
  | .RG => some 5
  | .TR => none
  | .FX => none
  | .LI => none
  | .LH => none
  | .XO => none
  | .AC => none
  | .K1 => none
  | .K2 => none
  | .PB => none

/-! ## Expiries -/

/-- A count lies in the band of an expected count and a tolerance in 1/256 (R124). -/
def InBand (expected tolerance count : Nat) : Prop :=
  expected - expected * tolerance / 256 ≤ count ∧ count ≤ expected + expected * tolerance / 256

/-- The drive after an open window has closed and the next has opened at the present tick (R123). -/
def State.nextWindow (s : State) : Drive :=
  { s.drive with lastCount := s.drive.count, count := 0, windowClose := some (s.tick + 1000) }

/-- The expectation of a sheet for a stretch with the present tick as its reference (R8, R9, R81). -/
def State.expects (s : State) (timing : TimingSet) (h : Handle) (sh : Sheet) (st : Stretch) : Expectation :=
  ⟨.sheet h, s.tick + BitVec.ofNat 32 (max 1 ((timing.time st).nominal - (timing.time st).early)),
    s.tick + BitVec.ofNat 32 ((timing.time st).nominal + (timing.time st).late),
    (timing.coverAt sh.plan.media st).min, (timing.coverAt sh.plan.media st).max, true⟩

/-- A HOLD RELEASE pulse for the sheet of a handle (R70, R93): it is RETURNING on pass 2, expected at MG from the
pulse, and the cover of LH counts from it. -/
def ReleasedAs (s : State) (timing : TimingSet) (h : Handle) (sh : Sheet) (t : State) : Prop :=
  t.pulses = [.holdRelease]
    ∧ t.sheet h = some { sh with state := .returning, pass := 2, leg := some (.leg 9), reference := s.tick }
    ∧ (∀ k, k ≠ h → t.sheet k = s.sheet k)
    ∧ t.sensor .MG = { s.sensor .MG with
        expectations := insertByOpen (s.expects timing h sh (.leg 9)) (s.sensor .MG).expectations }
    ∧ t.sensor .LH = (if (s.sensor .LH).occupant = .sheet h then
        { s.sensor .LH with
          coverStart := s.tick, coverTimer := some (s.tick + BitVec.ofNat 32 (s.sensor .LH).coverMax) }
        else s.sensor .LH)
    ∧ (∀ y, y ≠ .MG → y ≠ .LH → t.sensor y = s.sensor y)
    ∧ (∀ k, k ≠ h → t.timers k = s.timers k) ∧ t.scheduler = { s.scheduler with timers := t.scheduler.timers }
    ∧ t.junction = s.junction.grant ∧ KeepsBut [.junction, .pulses, .scheduler, .tracker] s t

/-- The row of the table that an event of a completed access is (R181, R185). -/
def PortEvent.command : PortEvent → Sys2Proof.Instr
  | .commit i => .commitEvent i
  | .tagCommit b => .tagCommitEvent b
  | .code => .codeEvent
  | .consumer w m => .consumerWrite w m
  | .anchor v => .anchorEvent v

/-- The junction with operations asked of the record agent. -/
def Junction.asked (j : Junction) (ops : List RecordOp) : Junction := { j with agentQueue := j.agentQueue ++ ops }

/-- The attention with a condition of the E summary raised. -/
def Attention.withE (a : Attention) (c : ECondition) : Attention := { a with e := a.e.add c, lineE := true }

/-- The occupant of a sensor when the path is stranded (R99). -/
def Occupant.stranded : Occupant → Occupant
  | .none => .none
  | .untracked => .untracked
  | .sheet _ => .untracked
  | .set => .untracked

/-! ## Port accesses and the view -/

/-- The access is a write that writes the value at the address. -/
def Access.writes (a : Access) (x : Nat) (v : Byte) : Prop :=
  a.write = true ∧ a.addr.toNat ≤ x ∧ a.data[x - a.addr.toNat]? = some v

/-- A descriptor applies to an access of a port (R179): enabled, it contains the address and admits the access, and
none of a lower index does. -/
def Configuration.Applies (c : Configuration) (p : Port) (a : Access) (d : Descriptor) : Prop :=
  let fits := fun e : Descriptor =>
    e.enabled = true ∧ e.base ≤ a.addr.toNat ∧ a.addr.toNat < e.base + 2 ^ e.sizeLog2 ∧ e.admits p a.write = true
  ∃ i : Fin 8, c.descriptors[i] = d ∧ fits d ∧ ∀ j : Fin 8, j < i → ¬ fits c.descriptors[j]

/-- Some enabled descriptor contains the address of an access (R179). -/
def Configuration.Contains (c : Configuration) (a : Access) : Prop :=
  ∃ i : Fin 8, c.descriptors[i].enabled = true ∧ c.descriptors[i].base ≤ a.addr.toNat
    ∧ a.addr.toNat < c.descriptors[i].base + 2 ^ c.descriptors[i].sizeLog2

/-- The access is well formed and its port ready for it (R177). -/
def State.Presents (s : State) (p : Port) (a : Access) : Prop := a.wf = true ∧ s.junction.access p = none

/-- The access is taken and reaches memory (R177): it waits at its port with the bytes it will write and the events it
will carry, and nothing else changes. -/
def PassesWith (s : State) (p : Port) (a : Access) (bytes : List Host.Cell) (events : List PortEvent) (t : State) :
    Prop :=
  ActsOn [] (s.setJunction ((s.junction.setAccess p (some ⟨a, bytes, events⟩)).setResponse p none)) t

/-- The access is a violation (R179, R180, R183): the latch takes it or sets MORE, CAPTURE is raised, and it is answered
ERROR, a read with all ones. -/
def Violates (s : State) (p : Port) (a : Access) (cause : CaptureCause) (t : State) : Prop :=
  let latch : Capture := match s.junction.latch with
    | none => ⟨a.addr, p, a.write, cause, false⟩
    | some x => { x with more := true }
  let data := if a.write then [] else List.replicate a.size.bytes 0xFF
  let raised := s.attention.withE .capture
  ActsOn [.attention] (s.setJunction ({ s.junction with latch := some latch }.setResponse p (some ⟨false, data⟩))) t
    ∧ t.attention = match p with
      | .E => raised
      | .P => { raised with p := raised.p.add .capture, lineP := true }

/-- The access is answered OKAY by the part with these data, and nothing else changes (R177, R180, R182). -/
def AnsweredBy (s : State) (p : Port) (data : List Byte) (t : State) : Prop :=
  ActsOn [] (s.setJunction (s.junction.setResponse p (some ⟨true, data⟩))) t

/-- The tag slots an access touches in a TAG window at `base` (R44). -/
def Access.touchesTag (a : Access) (base b : Nat) : Prop :=
  b = (a.addr.toNat - base) / 16 ∨ b = (a.addr.toNat + a.size.bytes - 1 - base) / 16

/-- Buffer `b` is below the configured count and FILLING, so its memory and tag slot are open (R44, R53). -/
def State.Open (s : State) (c : Configuration) (b : Nat) : Prop :=
  ∃ n : BufferNo, n.val = b ∧ b < c.bufferCount ∧ (s.buffer n).state = .filling

/-- The view read of `a` shows the byte at offset `o` of a VIEW window at `base`. -/
def Access.shows (a : Access) (base o : Nat) : Prop :=
  a.addr.toNat ≤ base + o ∧ base + o < a.addr.toNat + a.size.bytes

/-- A read of the VIEW window by a port whose bytes include the byte at an offset (R182). -/
def ViewRead (s : State) (c : Configuration) (d : Descriptor) (p : Port) (a : Access) (o : Nat) : Prop :=
  s.config = some c ∧ s.Presents p a ∧ a.write = false ∧ a.size ≠ .burst ∧ c.Applies p a d ∧ d.kind = some .view
    ∧ d.base % 4096 = 0 ∧ a.shows d.base o

/-- A view read has been answered with data whose byte at an offset is the value given. -/
def ShowsByte (t : State) (d : Descriptor) (p : Port) (a : Access) (o : Nat) (v : Byte) : Prop :=
  ∃ data, t.junction.response p = some ⟨true, data⟩ ∧ data.length = a.size.bytes
    ∧ data[d.base + o - a.addr.toNat]? = some v

/-- A field of `n` bytes at an offset of the view window shows a number, least significant byte first, whichever access
reads one of its bytes (R182, R194). -/
def Shows (s : State) (c : Configuration) (d : Descriptor) (o n v : Nat) : Prop :=
  ∀ (p : Port) (a : Access) (i : Nat), i < n → ViewRead s c d p a (o + i) →
    ∃ t, exec (.upstreamAccess p a) s = .next t ∧ ShowsByte t d p a (o + i) (BitVec.ofNat 8 (v / 256 ^ i))

/-- A field of `n` bytes at an offset of a list of bytes holds a number, least significant byte first (R188). -/
def Field (l : List Byte) (o n v : Nat) : Prop := ∀ i, i < n → l[o + i]? = some (BitVec.ofNat 8 (v / 256 ^ i))

/-! ## The record agent and commands -/

/-- The buffer fields of a record that name a buffer, each with the side it is named for (R24, R189). -/
def PlanRecord.named (r : PlanRecord) : List (Nat × TagSide) :=
  [(r.front, .front), (r.back, .back)].filter (fun x => x.1 != 0xFF)

/-- A plan record fails a check of R24, as R26 to R29 give it, against what the part holds. -/
def State.Fails (s : State) (c : Configuration) (r : PlanRecord) : PlanRefusal → Prop
  | .sequence => r.sequence ≤ s.plan.lastAccepted ∨ s.plan.lastAccepted = 0xFFFFFFFF
  | .field =>
    r.tray < 1 ∨ 4 < r.tray ∨ 3 < r.media ∨ r.statement = 0 ∨ r.k = 0 ∨ 1023 < r.k ∨ r.n = 0 ∨ 1023 < r.n
      ∨ r.n < r.k
  | .sides => ¬ (r.sides = 1 ∧ r.back = 0xFF) ∧ ¬ (r.sides = 2 ∧ r.front ≠ 0xFF ∧ r.back ≠ 0xFF)
  | .buffer =>
    ∃ x ∈ r.named, ∀ b : BufferNo, b.val = x.1 → c.bufferCount ≤ x.1 ∨ (s.buffer b).state ≠ .held
      ∨ 255 < (s.buffer b).count + (r.named.filter (fun y => y.1 == x.1)).length
  | .identity =>
    ∃ x ∈ r.named, ∀ b : BufferNo, b.val = x.1 →
      (s.buffer b).persistent = false ∧ (s.buffer b).tag ≠ some ⟨r.statement, r.k, x.2⟩
  | .continuity =>
    match s.plan.tail with
    | none => r.k ≠ 1
    | some p => r.k = 1 ∨ p.statement ≠ r.statement ∨ p.k + 1 ≠ r.k ∨ p.n ≠ r.n

/-- The acceptance of a record fetched from a slot (R31, R32), before admission is evaluated. -/
def AcceptedAs (s : State) (c : Configuration) (i : Nat) (r : PlanRecord) (u : State) : Prop :=
  (∃ e : PlanEntry,
    u.plan =
      { slots := s.plan.slots.set i .taken
        queue := s.plan.queue ++ [e]
        lastAccepted := r.sequence
        tail := if r.k < r.n then some ⟨r.statement, r.k, r.n, e.opening⟩ else none }
    ∧ e.sequence = r.sequence ∧ e.statement = r.statement ∧ e.k = r.k ∧ e.n = r.n ∧ e.tray.val + 1 = r.tray
    ∧ e.media.val = r.media ∧ (e.sides = .duplex ↔ r.sides = 2) ∧ e.breakFlag = r.breakFlag ∧ e.slot = i
    ∧ (e.front.map Fin.val = if r.front = 0xFF then none else some r.front)
    ∧ (e.back.map Fin.val = if r.back = 0xFF then none else some r.back)
    ∧ (r.k = 1 → e.opening = r.sequence) ∧ (∀ p, r.k ≠ 1 → s.plan.tail = some p → e.opening = p.opening)
    ∧ e.mode = (if r.n ≤ c.accumulatorCapacity then .set else .direct))
  ∧ (∀ b : BufferNo, u.buffer b = { s.buffer b with
      count := (s.buffer b).count + (r.named.filter (fun y => y.1 == b.val)).length })
  ∧ u.buffers.claimWaiting = s.buffers.claimWaiting
  ∧ u.junction = s.junction.answered [.planWrite i .taken] ∧ u.pulses = []
  ∧ KeepsBut [.plan, .buffers, .junction, .pulses] s u

/-- A command whose read has been taken and that is now carried out (R154): the block reads ACCEPTED, the command
operation is over, and code and operands are as the read found them. -/
def TakenAs (s : State) (c : Configuration) (code : CommandCode) (k : RunningCommand) (u : State) : Prop :=
  WritesAccepted s c u ∧ u.run = s.run.running' s c (some code) k ∧ u.junction = s.junction.answered []
    ∧ u.pulses = [] ∧ KeepsBut [.memory, .run, .junction, .pulses] s u

/-- The command `k`, carried out from `u`, has finished with a result (R156), with effects only on the blocks listed and
on the run controller. -/
def CarriedOut (k : RunningCommand) (result : ResultCode) (detail : Nat) (changed : List Block) (u t : State) : Prop :=
  t.run.command = .done ∧ t.run.running = none ∧ t.junction = (u.junction.asked [finishOp k result detail]).grant
    ∧ t.pulses = [] ∧ KeepsBut (.run :: .junction :: .pulses :: changed) u t

/-- The command has been carried out and has not finished: it stays ACCEPTED. -/
def StaysAccepted (changed : List Block) (u t : State) : Prop :=
  t.run.command = u.run.command ∧ t.run.running = u.run.running ∧ t.junction = u.junction.grant ∧ t.pulses = []
    ∧ KeepsBut (.run :: .junction :: .pulses :: changed) u t

/-- The plan entries of the SCHEDULED sheets, one for each, in the order of the handles. -/
def State.scheduledPlans (s : State) : List PlanEntry :=
  (List.finRange 16).filterMap (fun h =>
    ((s.sheet h).filter (fun sh => sh.state == .scheduled)).map (fun sh => sh.plan))

/-- The SCHEDULED sheets of `u` have been descheduled in `t` (R72): their entries, one each, lead the queue in order of
increasing sequence, their handles are FREE, and every other sheet and every sensor stands. -/
def Descheduled (u t : State) : Prop :=
  (∃ front, t.plan = { u.plan with queue := front ++ u.plan.queue }
      ∧ front.Pairwise (fun a b => a.sequence ≤ b.sequence) ∧ front.Perm u.scheduledPlans)
    ∧ (∀ k, t.sheet k = match u.sheet k with
        | some y => if y.state = .scheduled then none else some y
        | none => none)
    ∧ t.tracker.sensors = u.tracker.sensors

/-- Some live sheet is past SCHEDULED. -/
def State.inPath (s : State) : Prop := ∃ h sh, s.sheet h = some sh ∧ sh.state ≠ .scheduled

/-- The quiet conditions of R185. -/
def State.Quiet (s : State) : Prop :=
  (∀ x ∈ s.plan.slots, x = .free) ∧ s.plan.queue = [] ∧ (∀ h, s.sheet h = none) ∧ s.output.set.state = .empty
    ∧ (∀ b, (s.buffer b).state = .free) ∧ s.log.waiting = [] ∧ s.log.inFlight = none

/-- What POWER RESET, activation and deactivation alike leave in the blocks of the path: nothing planned, claimed,
scheduled, tracked, collected or logged, the guard on and the latch EMPTY. -/
def State.Emptied (t : State) : Prop :=
  t.plan.queue = [] ∧ t.plan.lastAccepted = 0 ∧ t.plan.tail = none
    ∧ (∀ b, t.buffer b = ⟨.free, none, 0, false, false⟩) ∧ t.buffers.claimWaiting = false
    ∧ t.scheduler.grid = none ∧ t.scheduler.admissionBounds = none ∧ t.scheduler.pickBounds = none
    ∧ t.scheduler.waitReason = .notRunning
    ∧ (∀ h, (t.timers h).pick = none ∧ (t.timers h).release = none ∧ (t.timers h).late = none
        ∧ (t.timers h).latePending = false)
    ∧ t.tracker.timing = none ∧ (∀ h, t.sheet h = none) ∧ (∀ x, (t.sensor x).expectations = [])
    ∧ t.output.loopGate = ⟨.out, none, false, none⟩ ∧ t.output.routeGate = ⟨.accumulate, none, false, none⟩
    ∧ t.output.active = .k1 ∧ t.output.selection = none ∧ t.output.latest = none ∧ t.output.committed = none
    ∧ t.output.top1 = none ∧ t.output.top2 = none ∧ t.output.jog1 = .home ∧ t.output.jog2 = .home
    ∧ t.output.set.state = .empty ∧ t.output.set.members = [] ∧ t.output.set.overruns = []
    ∧ t.output.set.condition = .sound ∧ t.output.broken = []
    ∧ t.run.holds.any = false ∧ t.run.jam = none ∧ t.run.lastJam = none ∧ t.run.graceDeadline = none
    ∧ t.run.clearanceMark = false ∧ t.run.outstanding = 0 ∧ t.run.drainTarget = none ∧ t.run.changeStatus = .none
    ∧ t.log.producer = 0 ∧ t.log.consumer = 0 ∧ t.log.waiting = [] ∧ t.log.inFlight = none ∧ t.log.overrun = false
    ∧ t.attention.e = ESummary.empty ∧ t.attention.p = PSummary.empty ∧ t.attention.lineE = false
    ∧ t.attention.lineP = false ∧ t.junction.guardOn = true ∧ t.junction.latch = none

/-! ## Rules as relations: what an event does, step by step -/

/-- The state in which a command finds the part: no pulse of the step before is left. -/
def Begun (s u : State) : Prop := u.pulses = [] ∧ KeepsBut [.pulses] s u

/-- The end of an event: the M-port is granted if it is free (R178). -/
def Granted (u t : State) : Prop := t.junction = u.junction.grant ∧ KeepsBut [.junction] u t

/-- A relation of two states made for each entry of a list in turn. -/
def Each {α : Type} (R : α → State → State → Prop) : List α → State → State → Prop
  | [], u, t => KeepsBut [] u t
  | x :: xs, u, t => ∃ v, R x u v ∧ Each R xs v t

/-! ## References and records (chapters 3 and 10) -/

/-- How often the sides in a list name a buffer. -/
def usesOf (l : List (Option BufferNo × Option BufferNo)) (b : BufferNo) : Nat :=
  (l.map (fun x => (if x.1 = some b then 1 else 0) + (if x.2 = some b then 1 else 0))).sum

/-- References have been dropped for delivery, as many of each buffer as `uses` says (R49): a HELD buffer that is not
PERSISTENT and whose count is then 0 is FREE, with BUFFER AVAILABLE when claim-waiting was set (R54). -/
def DropsDelivered (uses : BufferNo → Nat) (u t : State) : Prop :=
  let freed := fun b => (u.buffer b).state = .held ∧ uses b ≠ 0 ∧ (u.buffer b).count ≤ uses b
    ∧ (u.buffer b).persistent = false
  (∀ b, freed b → t.buffer b = ⟨.free, none, 0, false, false⟩)
    ∧ (∀ b, ¬ freed b → (u.buffer b).state = .held →
        t.buffer b = { u.buffer b with count := (u.buffer b).count - uses b })
    ∧ (∀ b, (u.buffer b).state ≠ .held → t.buffer b = u.buffer b)
    ∧ (u.buffers.claimWaiting = true → (∃ b, freed b) → t.buffers.claimWaiting = false
        ∧ t.attention = { u.attention with p := u.attention.p.add .bufferAvailable, lineP := true })
    ∧ (u.buffers.claimWaiting = false ∨ (∀ b, ¬ freed b) → t.buffers.claimWaiting = u.buffers.claimWaiting
        ∧ t.attention = u.attention)
    ∧ KeepsBut [.buffers, .attention] u t

/-- References have been dropped not delivered, as many of each buffer as `uses` says (R50): a HELD buffer keeps its
tag and is marked for replay. -/
def DropsLost (uses : BufferNo → Nat) (u t : State) : Prop :=
  (∀ b, t.buffer b = if (u.buffer b).state = .held ∧ uses b ≠ 0 then
      { u.buffer b with count := (u.buffer b).count - uses b, replay := true } else u.buffer b)
    ∧ t.buffers.claimWaiting = u.buffers.claimWaiting ∧ KeepsBut [.buffers] u t

/-- The log writer has been asked for its next record (R170, R171). With a write in flight it takes none. With an entry
of the ring free the oldest record that waits becomes the write in flight, and its write is asked for. In a full ring
the event records at the head are discarded, with LOG OVERRUN raised if it was clear, and a disposition at the head
waits. -/
def TakesNext (u t : State) : Prop :=
  let full := ∀ c, u.config = some c → c.logEntries ≤ (u.log.producer - u.log.consumer).toNat
  (u.log.inFlight ≠ none → KeepsBut [] u t)
    ∧ (u.log.inFlight = none → u.log.waiting = [] → KeepsBut [] u t)
    ∧ (∀ x rest, u.log.inFlight = none → u.log.waiting = x :: rest →
      (¬ full → t.log = { u.log with waiting := rest, inFlight := some (u.log.producer, x) }
          ∧ t.attention = u.attention ∧ t.junction = u.junction.asked [.logWrite u.log.producer x])
      ∧ (full → ∃ lost left, u.log.waiting = lost ++ left ∧ (∀ y ∈ lost, y.body.disposition = none)
          ∧ (∀ y, left.head? = some y → y.body.disposition ≠ none) ∧ t.junction = u.junction
          ∧ (lost = [] → t.log = u.log ∧ t.attention = u.attention)
          ∧ (lost ≠ [] → t.log = { u.log with waiting := left, overrun := true }
              ∧ t.attention = (if u.log.overrun then u.attention else u.attention.withE .logOverrun))))
    ∧ KeepsBut [.junction, .log, .attention] u t

/-- A record has been handed to the log writer (R170, R171): it joins the pending records, and the writer takes its
next one if no write is in flight; but an event record that finds 32 event records pending is discarded with LOG
OVERRUN. A record in flight is not yet written and is one of the pending list (R168, notes/assumptions/50.md). -/
def HandsOver (r : LogRecord) (u t : State) : Prop :=
  let pending := (u.log.inFlight.map (fun x => x.2)).toList ++ u.log.waiting
  let crowded := r.body.disposition = none ∧ 32 ≤ (pending.filter (fun x => x.body.disposition.isNone)).length
  (crowded → t.log = { u.log with overrun := true } ∧ t.junction = u.junction
      ∧ t.attention = (if u.log.overrun then u.attention else u.attention.withE .logOverrun))
    ∧ (¬ crowded → ∃ v, v.log = { u.log with waiting := u.log.waiting ++ [r] } ∧ KeepsBut [.log] u v ∧ TakesNext v t)
    ∧ KeepsBut [.junction, .log, .attention] u t

/-- The sequence a report names for an item (R97): the sheet's, or that of the set's first member. (A handle whose sheet
has left: notes/assumptions/49.md. A set without members: 52.md.) -/
def State.sequenceNamed (s : State) (i : Item) : Option Nat :=
  match i with
  | .sheet h => (s.sheet h).map (fun sh => sh.plan.sequence)
  | .set => s.output.set.members.head?.map (fun m => m.sequence)

/-! ## Withdrawals (chapter 2) -/

/-- The entries of a list have left the queue as WITHDRAWN (R35, R37): their references are dropped not delivered and
their records handed over in the order of the list. -/
def Withdraws (gone queue : List PlanEntry) (tail : Option Tail) (u t : State) : Prop :=
  ∃ v w, v.plan = { u.plan with queue := queue, tail := tail } ∧ KeepsBut [.plan] u v
    ∧ DropsLost (usesOf (gone.map (fun e => (e.front, e.back)))) v w
    ∧ Each HandsOver (gone.map (fun e => ⟨u.tick, .withdrawn ⟨e.sequence, e.statement, e.k, e.slot⟩⟩)) w t

/-- A withdrawal by copy has been carried out (R37). -/
def WithdrawsCopy (c : Copy) (u t : State) : Prop :=
  Withdraws (u.plan.queue.filter (fun e => e.copy == c)) (u.plan.queue.filter (fun e => !(e.copy == c)))
    (match u.plan.tail with
      | some p => if p.statement = c.statement ∧ p.opening = c.opening then none else some p
      | none => none) u t

/-! ## Commands finished (R156) -/

/-- The command of a code, if it is the one being run, has finished with a result. -/
def FinishesIf (code : CommandCode) (result : ResultCode) (detail : Nat) (u t : State) : Prop :=
  (∀ k, u.run.running = some k → k.code = some code →
      t.run = u.run.finished ∧ t.junction = u.junction.asked [finishOp k result detail]
        ∧ KeepsBut [.run, .junction] u t)
    ∧ ((∀ k, u.run.running = some k → k.code ≠ some code) → KeepsBut [] u t)

/-! ## Boundary decisions, ejects and dumps (R105, R106, R111, R112) -/

/-- The candidate of the three steps of R105 and the step that last changed it. -/
def Candidate (o : OutputUnit) (full : Stacker → Bool) (flag : Bool) (k : Stacker) (why : SwitchReason) : Prop :=
  let turned := o.selection = none ∧ flag = true ∧ full o.active.other = false
  ∃ (first : Stacker) (step : SwitchReason),
    (∀ j, o.selection = some j → first = j ∧ step = .selected)
      ∧ (turned → first = o.active.other ∧ step = .breakFlag)
      ∧ (o.selection = none → ¬ turned → first = o.active)
      ∧ (full first = true ∧ full first.other = false → k = first.other ∧ why = .full)
      ∧ (¬ (full first = true ∧ full first.other = false) → k = first ∧ why = step)

/-- A boundary decision has settled on a candidate (R105): the selection is consumed, and a candidate other than the
active stacker becomes it with its STACKER SWITCH record. -/
def Settles (k : Stacker) (why : SwitchReason) (u t : State) : Prop :=
  let v := u.setOutput { u.output with selection := none, active := k }
  (k = u.output.active → KeepsBut [] v t)
    ∧ (k ≠ u.output.active → HandsOver ⟨u.tick, .stackerSwitch u.output.active k why⟩ v t)

/-- The boundary decision of R105 has been made for a break flag. -/
def DecidesBoundary (flag : Bool) (u t : State) : Prop :=
  ∃ k why, Candidate u.output u.lines.stackerFull flag k why ∧ Settles k why u t

/-- The boundary decision of a DIRECT sheet 1 has been made (R106): first the one of the latest set copy, when a set is
pending without a committed destination for it, and then its own, away from the committed stacker. -/
def DecidesDirect (flag : Bool) (u t : State) : Prop :=
  let pending := u.output.set.state ≠ .empty ∨ ∃ h sh, u.sheet h = some sh ∧ sh.route = some .accumulate
  ∃ v,
    (∀ c f, u.output.latest = some (c, f) → pending → (∀ k, u.output.committed ≠ some (c, k)) →
        ∃ w, DecidesBoundary f u w ∧ v.output = { w.output with committed := some (c, w.output.active) }
          ∧ KeepsBut [.output] w v)
      ∧ ((u.output.latest = none ∨ ¬ pending ∨ ∃ c f k, u.output.latest = some (c, f) ∧ u.output.committed = some (c, k))
          → KeepsBut [] u v)
      ∧ ∃ k why, Candidate v.output v.lines.stackerFull flag k why
        ∧ (let avoids := (∃ c, v.output.committed = some (c, k)) ∧ v.lines.stackerFull k.other = false
          (avoids → Settles k.other .setPending v t) ∧ (¬ avoids → Settles k why v t))

/-- The set has gone into flight to a destination (R82, R89, R111, R112): EJECT is pulsed, and the set's expectation
stands at the destination's sensor, its window from the pulse and its cover of the longest of the sheets. -/
def Launched (c : Configuration) (timing : TimingSet) (d : Destination) (sheets : List Member) (u t : State) : Prop :=
  let x : Sensor := match d with | .k1 => .K1 | .k2 => .K2 | .purge => .PB
  let l : Leg := match d with | .k1 => 15 | .k2 => 16 | .purge => 17
  t.pulses = u.pulses ++ [.eject d]
    ∧ t.output = { u.output with set := { u.output.set with
        state := if d = .purge then .dumping else .ejecting, destination := some d, arrived := false } }
    ∧ (∃ m : MediaClass, (∃ y ∈ sheets, y.media = m) ∧ (∀ y ∈ sheets, c.mediaLength[y.media] ≤ c.mediaLength[m])
        ∧ t.sensor x = { u.sensor x with expectations := insertByOpen ⟨.set,
            u.tick + BitVec.ofNat 32 (max 1 (timing.legs[l].nominal - timing.legs[l].early)),
            u.tick + BitVec.ofNat 32 (timing.legs[l].nominal + timing.legs[l].late),
            timing.cover[m][l].min, timing.cover[m][l].max, true⟩ (u.sensor x).expectations })
    ∧ (∀ y, y ≠ x → t.sensor y = u.sensor y) ∧ t.tracker.sheets = u.tracker.sheets
    ∧ t.tracker.timing = u.tracker.timing ∧ KeepsBut [.pulses, .tracker, .output] u t

/-- An eject has begun (R111): to the committed destination's stacker when it names the set's copy, and else to the
stacker that a boundary decision leaves active. -/
def EjectBegun (u t : State) : Prop :=
  let set := u.output.set
  ∀ c timing, u.config = some c → u.tracker.timing = some timing → set.members ≠ [] →
    (∀ a k, set.copy = some a → u.output.committed = some (a, k) →
        Launched c timing k.destination set.members (u.setOutput { u.output with committed := none }) t)
      ∧ ((∀ a k, u.output.committed = some (a, k) → set.copy ≠ some a) →
        ∃ v, DecidesBoundary set.breakFlag u v ∧ Launched c timing v.output.active.destination set.members v t)

/-- A dump has begun (R112, R115): the whole set goes to the purge bin, its condition SOUND again, and a committed
destination for its copy is removed. -/
def DumpBegun (u t : State) : Prop :=
  let set := u.output.set
  ∀ c timing, u.config = some c → u.tracker.timing = some timing → set.members ++ set.overruns ≠ [] →
    Launched c timing .purge (set.members ++ set.overruns)
      (u.setOutput { u.output with
        committed := match u.output.committed with
          | some (a, k) => if set.copy = some a then none else some (a, k)
          | none => none
        set := { set with condition := .sound } }) t

/-- The eject condition has been examined (R111). -/
def EjectExamined (u t : State) : Prop :=
  let may := u.output.set.state = .complete ∧ u.output.set.condition = .sound
    ∧ (u.run.state = .running ∨ u.run.state = .draining ∨ u.run.state = .idle)
    ∧ ¬ (u.lines.stackerFull1 = true ∧ u.lines.stackerFull2 = true)
  (may → EjectBegun u t) ∧ (¬ may → KeepsBut [] u t)

/-- The dump condition has been examined (R112); DISTURBED after a CLEAR is read as DISTURBED with the set-clearance
mark clear (notes/assumptions/14.md). -/
def DumpExamined (u t : State) : Prop :=
  let set := u.output.set
  let may := ((set.state = .collecting ∧ set.broken = true ∧ set.condition = .sound)
      ∨ (set.condition = .disturbed ∧ u.run.clearanceMark = false))
    ∧ (∀ c, set.copy = some c → u.output.brokenRecord c = none) ∧ u.lines.purgeFull = false
    ∧ (u.run.state = .running ∨ u.run.state = .draining ∨ u.run.state = .idle ∨ u.run.state = .clearing)
  (may → DumpBegun u t) ∧ (¬ may → KeepsBut [] u t)

/-- The eject and then the dump condition have been examined. -/
def SetExamined (u t : State) : Prop := ∃ v, EjectExamined u v ∧ DumpExamined v t

/-! ## Broken copies (R117 to R119) -/

/-- A stacker's top has been looked at for a resolved copy (R119). -/
def NoticeGiven (c : Copy) (k : Stacker) (u t : State) : Prop :=
  (∀ n, u.output.top k = some (c, n) → ∃ v, HandsOver ⟨u.tick, .topNotice c.statement k n⟩ u v
      ∧ t.output.top k = none ∧ t.output.top k.other = v.output.top k.other
      ∧ t.output = { v.output with top1 := t.output.top1, top2 := t.output.top2 } ∧ KeepsBut [.output] v t)
    ∧ ((∀ n, u.output.top k ≠ some (c, n)) → KeepsBut [] u t)

/-- A copy's broken-copy record has been examined (R118): resolved, it leaves the list, and the dump condition is
examined for a SET copy and the stack tops for a DIRECT one, K1's first (notes/assumptions/40.md). -/
def CopyExamined (c : Copy) (u t : State) : Prop :=
  let live := ∃ h sh, u.sheet h = some sh ∧ sh.plan.copy = c
  (u.output.brokenRecord c = none → KeepsBut [] u t)
    ∧ ∀ r, u.output.brokenRecord c = some r →
      (r.withdrawalPending = true ∨ live → KeepsBut [] u t)
      ∧ (r.withdrawalPending = false → ¬ live →
        ∃ v, v.output.brokenRecord c = none ∧ (∀ d, d ≠ c → v.output.brokenRecord d = u.output.brokenRecord d)
          ∧ v.output = { u.output with broken := v.output.broken } ∧ KeepsBut [.output] u v
          ∧ (r.mode = .set → DumpExamined v t)
          ∧ (r.mode = .direct → ∃ w, NoticeGiven r.copy .k1 v w ∧ NoticeGiven r.copy .k2 w t))

/-- A withdrawal by copy asked for a broken copy has been carried out and reported, and the record examined (R118; in
one event: notes/assumptions/13.md). -/
def WithdrawsBroken (c : Copy) (mode : OutputMode) (u t : State) : Prop :=
  ∃ v w,
    v.output = { u.output with broken := v.output.broken } ∧ KeepsBut [.output] u v
      ∧ v.output.brokenRecord c
          = some ⟨c, (match u.output.brokenRecord c with | some r => r.mode | none => mode), false⟩
      ∧ (∀ d, d ≠ c → v.output.brokenRecord d = u.output.brokenRecord d)
      ∧ WithdrawsCopy c v w ∧ CopyExamined c w t

/-- A break of a copy has been taken (R117). -/
def BreaksCopy (c : Copy) (mode : OutputMode) (u t : State) : Prop :=
  ∃ v,
    (∀ h, v.sheet h = (u.sheet h).map (fun sh => if sh.plan.copy = c then { sh with broken := true } else sh))
      ∧ v.tracker.sensors = u.tracker.sensors ∧ v.tracker.timing = u.tracker.timing
      ∧ v.output = { u.output with set :=
          if u.output.set.copy = some c then { u.output.set with
            broken := true, state := if u.output.set.state = .complete then .collecting else u.output.set.state }
          else u.output.set }
      ∧ KeepsBut [.tracker, .output] u v
      ∧ WithdrawsBroken c mode v t

/-! ## The set in doubt (R114, R143, R148) -/

/-- The set's condition has become another: the set-clearance mark is set, and in CLEARING a CLEAR being run finishes
FAILED with the cause (R143, R148). -/
def Doubts (x : SetCondition) (cause : Cause) (u t : State) : Prop :=
  ∃ v, v.output = { u.output with set := { u.output.set with condition := x } }
    ∧ v.run = { u.run with clearanceMark := true } ∧ KeepsBut [.output, .run] u v
    ∧ (u.run.state = .clearing → FinishesIf .clear .failed (0x100 + cause.code) v t)
    ∧ (u.run.state ≠ .clearing → KeepsBut [] v t)

/-- A set has been put in doubt by a cause: SCATTERED when it is in flight, and else DISTURBED unless it is SCATTERED
or DISTURBED already (R110, R114). -/
def Disturbs (inFlight : Prop) (cause : Cause) (u t : State) : Prop :=
  (inFlight → u.output.set.condition ≠ .scattered → Doubts .scattered cause u t)
    ∧ (inFlight → u.output.set.condition = .scattered → KeepsBut [] u t)
    ∧ (¬ inFlight → u.output.set.condition = .sound → Doubts .disturbed cause u t)
    ∧ (¬ inFlight → u.output.set.condition ≠ .sound → KeepsBut [] u t)

/-- The set is EJECTING or DUMPING. -/
def SetRecord.flies (r : SetRecord) : Prop := r.state = .ejecting ∨ r.state = .dumping

/-- COVER OPEN has put the set in doubt (R114, R149): a set in flight is cut off, its place emptied and a set occupant
UNTRACKED, and SCATTERED; a set at rest that is not EMPTY is DISTURBED. -/
def CoversSet (u t : State) : Prop :=
  (u.output.set.flies → ∃ v,
      (∀ x, v.sensor x = { u.sensor x with
        expectations := (u.sensor x).expectations.filter (fun e => e.item != .set)
        occupant := if (u.sensor x).occupant = .set then .untracked else (u.sensor x).occupant
        coverTimer := if (u.sensor x).occupant = .set then none else (u.sensor x).coverTimer })
      ∧ v.tracker.sheets = u.tracker.sheets ∧ v.tracker.timing = u.tracker.timing ∧ KeepsBut [.tracker] u v
      ∧ Disturbs True .coverOpen v t)
    ∧ (¬ u.output.set.flies → u.output.set.state ≠ .empty → Disturbs False .coverOpen u t)
    ∧ (u.output.set.state = .empty → KeepsBut [] u t)

/-! ## The deschedule (R72, R118) and the grid (R57) -/

/-- A copy whose entry was descheduled has been withdrawn again where it is broken (R118). -/
def Rewithdraws (e : PlanEntry) (u t : State) : Prop :=
  (u.output.brokenRecord e.copy = none → KeepsBut [] u t)
    ∧ (∀ r, u.output.brokenRecord e.copy = some r → WithdrawsBroken e.copy r.mode u t)

/-- A deschedule has been made (R72): the SCHEDULED sheets are taken out with their timers and ring entries, their
entries, one each, stand at the queue head in the order of their sequences, and the admission bounds are the pick
bounds. Broken copies among them are withdrawn again, the newest entry's first (notes/assumptions/41.md). -/
def Deschedules (u t : State) : Prop :=
  ∃ (newest : List PlanEntry) (v : State),
    newest.Pairwise (fun a b => b.sequence ≤ a.sequence) ∧ newest.Perm u.scheduledPlans
      ∧ v.plan = { u.plan with queue := newest.reverse ++ u.plan.queue }
      ∧ (∀ h, v.sheet h = match u.sheet h with
          | some sh => if sh.state = .scheduled then none else some sh
          | none => none)
      ∧ v.tracker.sensors = u.tracker.sensors ∧ v.tracker.timing = u.tracker.timing
      ∧ (∀ h, v.timers h = match u.sheet h with
          | some sh => if sh.state = .scheduled then ⟨none, none, none, false, none⟩ else u.timers h
          | none => u.timers h)
      ∧ (u.scheduler.grid = none → v.scheduler.grid = none)
      ∧ (∀ g, u.scheduler.grid = some g → ∃ ring, v.scheduler.grid = some { g with ring := ring }
          ∧ ring.length = g.ring.length
          ∧ ∀ (i : Nat) (e : RingEntry), g.ring[i]? = some e →
            let own := ∃ h sh, u.sheet h = some sh ∧ sh.state = .scheduled
              ∧ ((e = .front h ∧ sh.frontSlot = g.current + i) ∨ (e = .back h ∧ sh.backSlot = some (g.current + i)))
            (own → ring[i]? = some .free) ∧ (¬ own → ring[i]? = some e))
      ∧ v.scheduler.admissionBounds = u.scheduler.pickBounds ∧ v.scheduler.pickBounds = u.scheduler.pickBounds
      ∧ v.scheduler.waitReason = u.scheduler.waitReason
      ∧ KeepsBut [.plan, .scheduler, .tracker] u v
      ∧ Each Rewithdraws newest v t

/-- The run grid has been discarded with its bounds and every timer (R57); the wait reason is NOT RUNNING (R65). -/
def GridDiscarded (u t : State) : Prop :=
  t.scheduler.grid = none ∧ t.scheduler.admissionBounds = none ∧ t.scheduler.pickBounds = none
    ∧ t.scheduler.waitReason = .notRunning
    ∧ (∀ h, t.timers h = ⟨none, none, none, false, (u.timers h).arrival⟩) ∧ KeepsBut [.scheduler] u t

/-! ## Stops, drains and clearances (chapter 8) -/

/-- The effect of a first stop cause on a state `u` in which it is taken (R139): the jam record begun, the coast, the
grace deadline and STOPPING; the deschedule, and the grid discarded; a speed change in progress ABORTED; and a START,
STOP or CANCEL SPEED CHANGE being run finished FAILED with the cause in its detail (R135). -/
def StopsFor (r : Report) (u t : State) : Prop :=
  let changing := u.run.state = .respeed ∨ (u.run.state = .draining ∧ u.run.drainTarget ≠ none)
  ∃ v w x y : State,
    v.run = { u.run with
        state := .stopping, jam := some ⟨r.cause, r.sensor, r.sequence, r.setMark, u.tick, none, false⟩
        graceDeadline := some (match u.config with
          | some c => if r.cause = .coverOpen then u.tick else u.tick + BitVec.ofNat 32 c.stopGrace
          | none => u.tick) }
      ∧ v.drive = u.drive.coast u.tick ∧ KeepsBut [.run, .drive] u v
      ∧ Deschedules v w ∧ GridDiscarded w x
      ∧ (changing → y.run = { x.run with changeStatus := .aborted, drainTarget := none }
          ∧ y.attention = x.attention.withE .speedChangeEnd ∧ KeepsBut [.run, .attention] x y)
      ∧ (¬ changing → KeepsBut [] x y)
      ∧ (∀ k, y.run.running = some k →
          k.code = some .start ∨ k.code = some .stop ∨ k.code = some .cancelSpeedChange →
          t.run = y.run.finished ∧ t.junction = y.junction.asked [finishOp k .failed (0x100 + r.cause.code)]
            ∧ KeepsBut [.run, .junction] y t)
      ∧ ((∀ k, y.run.running = some k →
          k.code ≠ some .start ∧ k.code ≠ some .stop ∧ k.code ≠ some .cancelSpeedChange) → KeepsBut [] y t)

/-- A stop cause report has been taken (R138): a first cause in a run, a later cause in STOPPING, and else no cause. -/
def Reported (r : Report) (u t : State) : Prop :=
  (u.run.state.runs = true → StopsFor r u t ∧ t.output.set = u.output.set ∧ t.tracker.sensors = u.tracker.sensors)
    ∧ (u.run.state = .stopping → t.run = u.run.afterLater u.tick r ∧ KeepsBut [.run] u t)
    ∧ (u.run.state.runs = false → u.run.state ≠ .stopping → KeepsBut [] u t)

/-- A set failure outside a run has been taken (R150): a JAM of its own, kept as the last, and STOP raised. -/
def SetFails (r : Report) (u t : State) : Prop :=
  let j : Jam := ⟨r.cause, r.sensor, r.sequence, r.setMark, u.tick, none, false⟩
  ∃ v w, v.run = { u.run with lastJam := some j } ∧ KeepsBut [.run] u v ∧ HandsOver ⟨u.tick, .jam j⟩ v w
    ∧ t.attention = w.attention.withE .stop ∧ KeepsBut [.attention] w t

/-- A fault of the path has been reported (R83, R97): where sheet queues are judged as a stop cause or a later cause,
and elsewhere as a set failure. -/
def Faults (r : Report) (u t : State) : Prop :=
  (u.run.state.judgesSheets = true → Reported r u t) ∧ (u.run.state.judgesSheets = false → SetFails r u t)

/-- The drain end has been examined (R142): with no live sheet and no set in flight the grid is discarded, and the
drive coasts into IDLE, a STOP being run finishing DONE, or turns to the drain target (R132). -/
def DrainExamined (u t : State) : Prop :=
  let ended := u.run.state = .draining ∧ (∀ h, u.sheet h = none) ∧ ¬ u.output.set.flies
  (¬ ended → KeepsBut [] u t)
    ∧ (ended → ∃ v, GridDiscarded u v
      ∧ (u.run.drainTarget = none → ∃ w x,
          w.drive = u.drive.coast u.tick ∧ w.run = { u.run with state := .idle } ∧ KeepsBut [.drive, .run] v w
            ∧ FinishesIf .stop .done 0 w x ∧ SetExamined x t)
      ∧ (∀ code c, u.run.drainTarget = some code → u.config = some c →
          t.drive = u.drive.relockTo u.tick code c.lockTimeout
            ∧ t.run = { u.run with state := .respeed, changeStatus := .relocking } ∧ KeepsBut [.drive, .run] v t))

/-- The end of the clearance has been examined (R147; EMPTY with overrun sheets: notes/assumptions/39.md). -/
def ClearanceExamined (u t : State) : Prop :=
  let ended := u.run.state = .clearing ∧ u.run.outstanding = 0 ∧ u.run.clearanceMark = false
    ∧ (u.output.set.state = .empty ∨ (u.output.set.condition = .sound ∧ u.output.set.broken = false))
  (¬ ended → KeepsBut [] u t)
    ∧ (ended → ∃ v w, v.run = { u.run with state := .idle } ∧ KeepsBut [.run] u v
        ∧ FinishesIf .clear .done 0 v w ∧ SetExamined w t)

/-- The grace has ended (R99, R140): every live sheet STRANDED, every expectation and cover timer cancelled, every
occupant UNTRACKED; a set in flight SCATTERED; the jam record handed over and kept as the last; STOP raised; STOPPED. -/
def GraceEnds (u t : State) : Prop :=
  ∃ v w x y : State,
    (∀ h, v.sheet h = (u.sheet h).map (fun sh => { sh with state := .stranded, covering := false }))
      ∧ (∀ p, v.sensor p = { u.sensor p with
          expectations := [], coverTimer := none, occupant := (u.sensor p).occupant.stranded })
      ∧ v.tracker.timing = u.tracker.timing ∧ KeepsBut [.tracker] u v
      ∧ (u.output.set.flies → Disturbs True .late v w) ∧ (¬ u.output.set.flies → KeepsBut [] v w)
      ∧ (u.run.jam = none → KeepsBut [] w y)
      ∧ (∀ j, u.run.jam = some j → x.run = { w.run with lastJam := some j, jam := none } ∧ KeepsBut [.run] w x
          ∧ HandsOver ⟨j.time, .jam j⟩ x y)
      ∧ t.run = { y.run with state := .stopped, graceDeadline := none }
      ∧ t.attention = y.attention.withE .stop ∧ KeepsBut [.run, .attention] y t

/-- One evaluation of admission has been made (R61 to R65). -/
def Evaluates (u t : State) : Prop :=
  t.plan = u.evaluate.plan ∧ t.scheduler = u.evaluate.scheduler ∧ t.tracker = u.evaluate.tracker
    ∧ KeepsBut [.plan, .scheduler, .tracker] u t

/-- A report has been taken, as an event of its own. -/
def ReportTaken (r : Report) (u t : State) : Prop := ∃ v w, Begun u v ∧ Reported r v w ∧ Granted w t

/-- A fault of the path has been taken from the state in which it has had its effect on the tracker (R97, R138, R150). -/
def FaultTaken (r : Report) (u t : State) : Prop := ∃ v w, Begun u v ∧ Faults r v w ∧ Granted w t

/-! ## Sheets on their way (R77, R78, R82, R84 to R86, R91, R104) -/

/-- The entry of a handle has become another, and nothing else. -/
def SheetBecomes (h : Handle) (x : Sheet) (u t : State) : Prop :=
  t.sheet h = some x ∧ (∀ k, k ≠ h → t.sheet k = u.sheet k) ∧ t.tracker.sensors = u.tracker.sensors
    ∧ t.tracker.timing = u.tracker.timing ∧ KeepsBut [.tracker] u t

/-- A sheet of a handle has been met at a sensor by its expectation (R85): the expectation leaves, the sheet is the
occupant, and its cover is timed, but at LH only from its release (R93). -/
def SheetMet (x : Sensor) (e : Expectation) (h : Handle) (sh : Sheet) (u t : State) : Prop :=
  t.sensor x = { u.sensor x with
      covered := true, occupant := .sheet h, coverStart := u.tick, coverMin := e.coverMin, coverMax := e.coverMax,
      coverTimer := if x = .LH then none else some (u.tick + BitVec.ofNat 32 e.coverMax),
      expectations := (u.sensor x).expectations.filter (fun f => f.item != .sheet h) }
    ∧ (∀ y, y ≠ x → t.sensor y = u.sensor y)
    ∧ t.sheet h = some { sh with lastSensor := some x, covering := true, coverStart := u.tick }
    ∧ (∀ k, k ≠ h → t.sheet k = u.sheet k) ∧ t.tracker.timing = u.tracker.timing
    ∧ t.pulses = [] ∧ KeepsBut [.tracker, .pulses] u t

/-- The next expectation of a sheet has been placed, for a leg from the present tick (R82). -/
def Places (h : Handle) (l : Leg) (u t : State) : Prop :=
  ∀ sh timing, u.sheet h = some sh → u.tracker.timing = some timing →
    t.sheet h = some { sh with leg := some (.leg l), reference := u.tick } ∧ (∀ k, k ≠ h → t.sheet k = u.sheet k)
      ∧ t.sensor (legTo l) = { u.sensor (legTo l) with
          expectations := insertByOpen (u.expects timing h sh (.leg l)) (u.sensor (legTo l)).expectations }
      ∧ (∀ y, y ≠ legTo l → t.sensor y = u.sensor y) ∧ t.tracker.timing = u.tracker.timing ∧ KeepsBut [.tracker] u t

/-- The side being printed of a sheet has been marked faulted; the first mark breaks its copy (R96, R117). -/
def SideFaulted (h : Handle) (sh : Sheet) (u t : State) : Prop :=
  let marked := if sh.pass = 1 then { sh with frontFaulted := true } else { sh with backFaulted := true }
  let first := (if sh.pass = 1 then sh.frontFaulted else sh.backFaulted) = false
  ∃ v, SheetBecomes h marked u v ∧ (first → BreaksCopy sh.plan.copy sh.plan.mode v t) ∧ (¬ first → KeepsBut [] v t)

/-- A trailing edge has taken the occupant off a sensor (R91): the cover timer is cancelled, and a live sheet's
covering flag tells whether it still occupies a sensor. -/
def Vacated (x : Sensor) (u t : State) : Prop :=
  let r := { u.sensor x with covered := false, occupant := .none, coverTimer := none }
  t.sensor x = r ∧ (∀ y, y ≠ x → t.sensor y = u.sensor y)
    ∧ (∀ h, t.sheet h = (u.sheet h).map (fun sh =>
        if (u.sensor x).occupant = .sheet h then { sh with covering := (u.putSensor x r).occupies h } else sh))
    ∧ t.tracker.timing = u.tracker.timing ∧ t.pulses = [] ∧ KeepsBut [.tracker, .pulses] u t

/-- A gate has been told that a sheet has cleared its sensor (R104): a gate held for it turns to the pending position
and its holder, or is marked cleared. -/
def Gate.Cleared {α : Type} (g : Gate α) (h : Handle) (g' : Gate α) : Prop :=
  (g.holder ≠ some h → g' = g)
    ∧ (g.holder = some h →
        (∀ p k, g.pending = some (p, k) → g' = ⟨p, some k, false, none⟩)
        ∧ (g.pending = none → g' = { g with cleared := true }))

/-- The gate of a sensor has been told that a sheet has cleared it: the loop gate of FX, the route gate of XO. -/
def GateTold (x : Sensor) (h : Handle) (u t : State) : Prop :=
  (x = .FX → u.output.loopGate.Cleared h t.output.loopGate
      ∧ t.output = { u.output with loopGate := t.output.loopGate } ∧ KeepsBut [.output] u t)
    ∧ (x = .XO → u.output.routeGate.Cleared h t.output.routeGate
      ∧ t.output = { u.output with routeGate := t.output.routeGate } ∧ KeepsBut [.output] u t)
    ∧ (x ≠ .FX → x ≠ .XO → KeepsBut [] u t)

/-- The entry of a handle is FREE and its timers are none (R78). -/
def HandleFreed (h : Handle) (u t : State) : Prop :=
  t.sheet h = none ∧ (∀ k, k ≠ h → t.sheet k = u.sheet k) ∧ t.tracker.sensors = u.tracker.sensors
    ∧ t.tracker.timing = u.tracker.timing ∧ t.timers h = ⟨none, none, none, false, none⟩
    ∧ (∀ k, k ≠ h → t.timers k = u.timers k) ∧ t.scheduler = { u.scheduler with timers := t.scheduler.timers }
    ∧ KeepsBut [.scheduler, .tracker] u t

/-- What follows when a sheet of a copy has left the table (R78): the copy's record, the drain end and admission are
examined. -/
def FollowsLeaving (c : Copy) (u t : State) : Prop := ∃ v w, CopyExamined c u v ∧ DrainExamined v w ∧ Evaluates w t

/-- A sheet as a member of the set (R109). -/
def Sheet.asMember (sh : Sheet) : Member :=
  ⟨sh.plan.sequence, sh.plan.statement, sh.plan.k, sh.plan.front, sh.plan.back, sh.plan.slot, sh.plan.media,
    sh.frontFaulted || sh.backFaulted⟩

/-- The arrival of a sheet at the hold station has been reported (R69): it is noted, and a pending late release is due
the minimum dwell later. -/
def ArrivesAtHold (h : Handle) (u t : State) : Prop :=
  ∀ c, u.config = some c →
    let late := (u.timers h).latePending = true ∧ u.scheduler.grid ≠ none
    (late → t.timers h = { u.timers h with
        arrival := some u.tick, latePending := false, late := some (u.tick + BitVec.ofNat 32 c.minimumDwell) })
      ∧ (¬ late → t.timers h = { u.timers h with arrival := some u.tick })
      ∧ (∀ k, k ≠ h → t.timers k = u.timers k) ∧ t.scheduler = { u.scheduler with timers := t.scheduler.timers }
      ∧ KeepsBut [.scheduler] u t

/-- The set record has become another, and nothing else. -/
def SetBecomes (x : SetRecord) (u t : State) : Prop := t.output = { u.output with set := x } ∧ KeepsBut [.output] u t

/-- An overrun sheet has been taken (R110): it is an overrun of the set, which is put in doubt; another copy than the
set's is broken; and the collision is reported. -/
def Overruns (sh : Sheet) (u t : State) : Prop :=
  let set := u.output.set
  ∃ v w x, SetBecomes { set with overruns := set.overruns ++ [sh.asMember] } u v
    ∧ Disturbs set.flies .accumulatorCollision v w
    ∧ (set.copy = some sh.plan.copy → KeepsBut [] w x)
    ∧ (set.copy ≠ some sh.plan.copy → BreaksCopy sh.plan.copy sh.plan.mode w x)
    ∧ Reported ⟨.accumulatorCollision, some .AC, some sh.plan.sequence, false⟩ x t

/-- The eject or dump of the set has been completed (R113): each sheet's references are dropped, for delivery on a
stacker, and its record handed over; an eject leaves the stack top and toggles the jog line; the latest set copy is
forgotten if it is the set's; and the set is EMPTY. A SCATTERED set is not completed (R114). -/
def SetCompletes (u t : State) : Prop :=
  let set := u.output.set
  let sheets := set.members ++ set.overruns
  let uses := usesOf (sheets.map (fun m => (m.front, m.back)))
  let of := fun m : Member => (⟨m.sequence, m.statement, m.k, m.slot⟩ : Disposition)
  (set.flies → set.condition ≠ .scattered → ∀ d c, set.destination = some d → set.copy = some c →
    ∃ v w, (d ≠ .purge → DropsDelivered uses u v) ∧ (d = .purge → DropsLost uses u v)
      ∧ Each HandsOver (sheets.map (fun m => ⟨u.tick, match d with
          | .k1 => .delivered (of m) .k1
          | .k2 => .delivered (of m) .k2
          | .purge => .dumped (of m)⟩)) v w
      ∧ t.output = { w.output with
          top1 := if d = .k1 then some (c, set.n) else w.output.top1
          top2 := if d = .k2 then some (c, set.n) else w.output.top2
          jog1 := if d = .k1 then w.output.jog1.toggle else w.output.jog1
          jog2 := if d = .k2 then w.output.jog2.toggle else w.output.jog2
          latest := match w.output.latest with
            | some (a, f) => if a = c then none else some (a, f)
            | none => none
          set := ⟨.empty, none, 0, false, [], [], false, .sound, none, false⟩ }
      ∧ KeepsBut [.output] w t)
    ∧ (¬ set.flies ∨ set.condition = .scattered → KeepsBut [] u t)

/-! ## CLEAR (R104, R115, R145) -/

/-- A STRANDED sheet has left its entry at a CLEAR (R145, R118): its references are dropped not delivered, its record
handed over, one more record is outstanding, and its copy's record is examined (notes/assumptions/23.md). -/
def StrandedLeaves (x : Handle × Sheet) (u t : State) : Prop :=
  let sh := x.2
  ∃ v w y z, HandleFreed x.1 u v ∧ DropsLost (usesOf [(sh.plan.front, sh.plan.back)]) v w
    ∧ HandsOver ⟨u.tick, .stranded ⟨sh.plan.sequence, sh.plan.statement, sh.plan.k, sh.plan.slot⟩ sh.lastSensor⟩ w y
    ∧ z.run = { y.run with outstanding := u.run.outstanding + 1 } ∧ KeepsBut [.run] y z
    ∧ CopyExamined sh.plan.copy z t

/-- The copies of a list with their modes, each where it first stands (R145). -/
def firstOfEach : List (Copy × OutputMode) → List (Copy × OutputMode)
  | [] => []
  | p :: ps => p :: (firstOfEach ps).filter (fun q => !(q.1 == p.1))

/-- A sheet of a SCATTERED set has been given its STRANDED record at a CLEAR (R115, R145). -/
def MemberStranded (last : Sensor) (m : Member) (u t : State) : Prop :=
  ∃ v w, DropsLost (usesOf [(m.front, m.back)]) u v
    ∧ HandsOver ⟨u.tick, .stranded ⟨m.sequence, m.statement, m.k, m.slot⟩ (some last)⟩ v w
    ∧ t.run = { w.run with outstanding := u.run.outstanding + 1 } ∧ KeepsBut [.run] w t

/-- The set's copy, if it holds one, has been broken. -/
def BreaksSet (u t : State) : Prop :=
  (∀ c, u.output.set.copy = some c → BreaksCopy c .set u t) ∧ (u.output.set.copy = none → KeepsBut [] u t)

/-- What a CLEAR has done to the set (R115). SCATTERED, its sheets are STRANDED, last seen at the destination's sensor
once it had arrived and else at AC, its copy is broken, and it is EMPTY with no committed destination. DISTURBED, its
copy and it are broken, and SOUND it stands; in both the dump condition is examined. -/
def SetCleared (u t : State) : Prop :=
  let set := u.output.set
  let last : Sensor := match set.arrived, set.destination with
    | true, some .k1 => .K1
    | true, some .k2 => .K2
    | true, some .purge => .PB
    | _, _ => .AC
  (set.condition = .scattered → ∃ v w, Each (MemberStranded last) (set.members ++ set.overruns) u v ∧ BreaksSet v w
      ∧ t.output = { w.output with
          set := ⟨.empty, none, 0, false, [], [], false, .sound, none, false⟩
          committed := match w.output.committed with
            | some (a, k) => if set.copy = some a then none else some (a, k)
            | none => none }
      ∧ KeepsBut [.output] w t)
    ∧ (set.condition = .disturbed → ∃ v w, BreaksSet u v
      ∧ w.output = { v.output with set := { v.output.set with broken := true } } ∧ KeepsBut [.output] v w
      ∧ DumpExamined w t)
    ∧ (set.condition = .sound → DumpExamined u t)

/-- A gate after a CLEAR (R104): at its pending position if it has one, with no holder. -/
def Gate.Settled {α : Type} (g g' : Gate α) : Prop :=
  g' = ⟨match g.pending with | some p => p.1 | none => g.position, none, false, none⟩

end Sys2Proof.Machine
end

