-- ==== Sys2Proof/Certificates/Slice0/Obligations.lean ====
section
/-! DEFINITION. The statements for the provers. `KeepsBut`, `ActsOn`, `StopsFor` and the invariants are those of
Safety; every statement about a command says that `exec` answers a next state and what that state is. Three readings
of the model hold wherever their relation stands: a record in flight still counts in the pending list (`HandsOver`:
notes/assumptions/50.md), the withdrawals of one deschedule go in its order (`Deschedules`: 41.md), and what one block
asks of another is carried out in the same event (13.md), in the order of 53.md where no rule gives one. -/

open Sys2Proof Sys2Proof.Machine

/-! ## Steps and resets -/

/-- One step takes the command at the front of the queue and runs it on the state with the queue's rest (the model's
queue: notes/assumptions/5.md). -/
def Obligations.StepRunsFrontCommand : Prop :=
  ∀ (c : Instr) (rest : List Instr) (s : State), step (s.setPending (c :: rest)) = exec c (s.setPending rest)

/-- With no command waiting, the part takes an expiry that is due, and otherwise one tick passes: the counter advances
by one and wraps (R1, R2; that time passes only then is the model's, notes/assumptions/5.md). -/
def Obligations.StepWithNothingWaiting : Prop :=
  ∀ s : State, s.pending = [] →
    (s.dueNow ≠ [] → ∃ c ∈ s.dueNow, step s = exec c s)
    ∧ (s.dueNow = [] →
        ∃ t, step s = .next t ∧ t.tick = s.tick + 1 ∧ t.pulses = [] ∧ KeepsBut [.tick, .pulses] s t)

/-- The reset state and the state after POWER RESET have every value the manual gives for POWER RESET; the lines,
memory and the waiting commands stand, and paper over a sensor is UNTRACKED. What stands, and the levels and memory of
the reset state, are the model's choice: notes/assumptions/1.md and 8.md. -/
def Obligations.PowerResetValues : Prop :=
  State.reset.AtPowerReset
    ∧ ∀ s : State, ∃ t, exec .powerReset s = .next t ∧ t.AtPowerReset ∧ t.pulses = []
      ∧ KeepsBut (.tick :: .config :: .junction :: .pulses :: pathBlocks) s t
      ∧ ∀ x, (t.sensor x).covered = (s.sensor x).covered
          ∧ (t.sensor x).occupant = if (s.sensor x).covered then .untracked else .none

/-- The reset state meets every invariant below. -/
def Obligations.ResetMeetsInvariants : Prop :=
  Memory.wf State.reset.memory = true ∧ State.reset.drive.Sound ∧ State.reset.attention.Sound
    ∧ State.reset.buffers.Sound ∧ State.reset.ActivationSound ∧ State.reset.GuardSound
    ∧ State.reset.junction.Sound ∧ State.reset.run.CommandSound

/-! ## Invariants of every step -/

/-- Every step keeps memory in its canonical form. The form is the model's own. -/
def Obligations.MemoryStaysCanonical : Prop :=
  ∀ s t : State, Memory.wf s.memory = true → step s = .next t → Memory.wf t.memory = true

/-- Every step keeps the tables of R122: DRIVE ENABLE and DRIVE SPEED by the drive state, the window, the lock
deadline and the ranges of the runs. -/
def Obligations.DriveTableHolds : Prop :=
  ∀ s t : State, s.drive.Sound → step s = .next t → t.drive.Sound

/-- Every step leaves each attention line asserted exactly while its summary holds a condition. -/
def Obligations.AttentionLinesFollow : Prop :=
  ∀ s t : State, s.attention.Sound → step s = .next t → t.attention.Sound

/-- Every step leaves every buffer entry in the form of its state. -/
def Obligations.BufferEntriesHold : Prop :=
  ∀ s t : State, s.buffers.Sound → step s = .next t → t.buffers.Sound

/-- Every step leaves the part PASS-ALL exactly while the run state is INACTIVE. -/
def Obligations.PassAllWhileInactive : Prop :=
  ∀ s t : State, s.ActivationSound → step s = .next t → t.ActivationSound

/-- Every step leaves the guard off only in IDLE and CLEARING. -/
def Obligations.GuardOffOnlyAtRest : Prop :=
  ∀ s t : State, s.ActivationSound → s.GuardSound → step s = .next t → t.GuardSound

/-- Every step leaves the M-port held exactly while some requester waits, and by one that waits. The grant's moment is
the model's: notes/assumptions/6.md. -/
def Obligations.PortHeldWhileWanted : Prop :=
  ∀ s t : State, s.junction.Sound → step s = .next t → t.junction.Sound

/-- Every step leaves a command being run exactly while the command state is ACCEPTED. -/
def Obligations.CommandHeldWhileAccepted : Prop :=
  ∀ s t : State, s.run.CommandSound → step s = .next t → t.run.CommandSound

/-- Whatever step is made, a PICK pulse on a tray's line means that the run was RUNNING with the drive LOCKED and the
tray's TRAY EMPTY line low, and that a SCHEDULED sheet of that tray is now FEEDING; a HOLD RELEASE pulse means that
the run was RUNNING or DRAINING with the drive LOCKED, and that a HELD sheet is now RETURNING on its second pass. In
states that no run reaches this rests on notes/assumptions/24.md. -/
def Obligations.PulsesOnlyWhileLocked : Prop :=
  (∀ (s t : State) (tr : Tray), step s = .next t → .pick tr ∈ t.pulses →
    s.run.state = .running ∧ s.drive.state = .locked ∧ s.lines.trayEmpty[tr] = false
      ∧ ∃ h sh sh', s.sheet h = some sh ∧ sh.state = .scheduled ∧ sh.plan.tray = tr
          ∧ t.sheet h = some sh' ∧ sh'.state = .feeding ∧ sh'.plan = sh.plan)
  ∧ (∀ s t : State, step s = .next t → .holdRelease ∈ t.pulses →
    (s.run.state = .running ∨ s.run.state = .draining) ∧ s.drive.state = .locked
      ∧ ∃ h sh sh', s.sheet h = some sh ∧ sh.state = .held
          ∧ t.sheet h = some sh' ∧ sh'.state = .returning ∧ sh'.pass = 2 ∧ sh'.plan = sh.plan)

/-- Every command changes only the parts of the state listed for it, the junction and the pulses. -/
def Obligations.CommandsChangeOnlyTheirParts : Prop :=
  ∀ (c : Instr) (s t : State), exec c s = .next t → KeepsBut (.junction :: .pulses :: mayChange c) s t

/-! ## Travel arithmetic (chapter 1) -/

/-- The nominal travel: the formula and its rounding, its bounds over the configured ranges, the legs, the picks, the
pitch and the cover limits of a timing set, and the manual's three cases. -/
def Obligations.NominalTravelRule : Prop :=
  (∀ length speed factor, 0 < speed → 0 < factor →
      nominal length speed factor = (length * 2560000 + speed * factor / 2) / (speed * factor)
        ∧ 2 * nominal length speed factor * (speed * factor) ≤ 2 * (length * 2560000) + speed * factor
        ∧ 2 * (length * 2560000) < (2 * nominal length speed factor + 1) * (speed * factor))
    ∧ (∀ length speed factor, 100 ≤ length → length ≤ 40000 → 200 ≤ speed → speed ≤ 2000 → 128 ≤ factor →
        factor ≤ 512 →
        length * 2560000 + speed * factor / 2 ≤ 102400512000
          ∧ 250 ≤ nominal length speed factor ∧ nominal length speed factor ≤ 4000000)
    ∧ nominal 100 2000 512 = 250 ∧ nominal 40000 200 128 = 4000000
    ∧ (∀ (c : Configuration) (code : SpeedCode),
        (∀ l : Leg, ((timingSet c code).time (.leg l)).nominal
            = nominal c.legs[l].length c.speed[code] c.legs[l].factor)
          ∧ (∀ t : Tray, ((timingSet c code).time (.pick t)).nominal = c.pickDelay[t])
          ∧ (timingSet c code).pitch = nominal c.pitchLength c.speed[code] 256
          ∧ ∀ m : MediaClass,
              let limits := fun factor : Nat =>
                let cover := nominal c.mediaLength[m] c.speed[code] factor
                let margin := cover * c.coverRatio / 256 + c.coverFixed
                (⟨max 1 (cover - margin), cover + margin⟩ : CoverLimits)
              (∀ t : Tray, (timingSet c code).coverAt m (.pick t) = limits 256)
                ∧ ∀ l : Leg, (timingSet c code).coverAt m (.leg l) = limits c.legs[l].factor)
    ∧ nominal 3600 1000 256 = 36000 ∧ nominal 4000 1000 384 = 26667 ∧ nominal 3300 1000 256 = 33000

/-- The margins of every stretch, picks included, from its own nominal, its close, their bounds, and the window an
expectation has from its reference. -/
def Obligations.MarginsAndCloses : Prop :=
  ∀ (c : Configuration) (code : SpeedCode) (x : Stretch),
    let t := (timingSet c code).time x
    t.early = t.nominal * c.earlyRatio / 256 + c.earlyFixed
      ∧ t.late = t.nominal * c.lateRatio / 256 + c.lateFixed
      ∧ t.close = t.nominal + t.late
      ∧ (c.geometryInRange = true → t.early ≤ 1010000 ∧ t.late ≤ 1010000 ∧ t.close ≤ 5010000)
      ∧ (1 ≤ t.nominal → max 1 (t.nominal - t.early) ≤ t.close)
      ∧ ∀ (i : Item) (limits : CoverLimits) (reference : Tick),
          let e := expectationOf i t limits reference
          e.opens = reference + BitVec.ofNat 32 (max 1 (t.nominal - t.early))
            ∧ e.closes = reference + BitVec.ofNat 32 t.close

/-- The leads and the return lead, and the pick due and release due the scheduler takes from them. -/
def Obligations.LeadsAndDues : Prop :=
  ∀ (c : Configuration) (code : SpeedCode),
    let n := fun l : Leg => nominal c.legs[l].length c.speed[code] c.legs[l].factor
    let t := timingSet c code
    t.lead[(0 : Tray)] = c.pickDelay[(0 : Tray)] + n 0 + n 4 + n 5
      ∧ t.lead[(1 : Tray)] = c.pickDelay[(1 : Tray)] + n 1 + n 4 + n 5
      ∧ t.lead[(2 : Tray)] = c.pickDelay[(2 : Tray)] + n 2 + n 4 + n 5
      ∧ t.lead[(3 : Tray)] = c.pickDelay[(3 : Tray)] + n 3 + n 4 + n 5
      ∧ t.returnLead = n 9 + n 4 + n 5
      ∧ ∀ (lock : Tick) (x : PlanEntry) (front : Nat),
          let g := t.grid lock
          (g.admissionTimers x front).pick
              = some (lock + BitVec.ofNat 32 (front * t.pitch) - BitVec.ofNat 32 t.lead[x.tray])
            ∧ (x.sides = .duplex → (g.admissionTimers x front).release
              = some (lock + BitVec.ofNat 32 ((front + t.loopPitches) * t.pitch) - BitVec.ofNat 32 t.returnLead))

/-- The loop sum of nine terms, the loop pitches as its quotient by the pitch rounded up, and the back slot. -/
def Obligations.LoopPitchesRule : Prop :=
  ∀ (c : Configuration) (code : SpeedCode), 0 < (timingSet c code).pitch →
    let t := timingSet c code
    let sum := t.legs[(5 : Leg)].late + t.legs[(6 : Leg)].close + t.legs[(7 : Leg)].close
      + t.cover[longestMedia c][(7 : Leg)].max + t.legs[(8 : Leg)].close + c.minimumDwell
      + t.legs[(9 : Leg)].nominal + t.legs[(4 : Leg)].nominal + t.legs[(5 : Leg)].nominal
    sum ≤ t.loopPitches * t.pitch
      ∧ (∀ n, sum ≤ n * t.pitch → t.loopPitches ≤ n)
      ∧ t.returnLead = t.legs[(9 : Leg)].nominal + t.legs[(4 : Leg)].nominal + t.legs[(5 : Leg)].nominal
      ∧ (∀ m : MediaClass, c.mediaLength[m] ≤ c.mediaLength[longestMedia c])
      ∧ ∀ (lock : Tick) (x : PlanEntry) (front : Nat), x.sides = .duplex →
          (admittedSheet (t.grid lock) x front).backSlot = some (front + t.loopPitches)

/-- The eject total as the largest over the three eject legs, and the set gap as one more than its quotient by the
pitch rounded up; a SET statement's sheet 1 keeps at least that distance from the last final slot. -/
def Obligations.SetGapRule : Prop :=
  ∀ (c : Configuration) (code : SpeedCode), 0 < (timingSet c code).pitch →
    let t := timingSet c code
    let total := fun l : Leg => t.legs[l].close + t.cover[longestMedia c][l].max
    (total 15 ≤ (t.setGap - 1) * t.pitch ∧ total 16 ≤ (t.setGap - 1) * t.pitch ∧ total 17 ≤ (t.setGap - 1) * t.pitch)
      ∧ (∀ n, total 15 ≤ n * t.pitch → total 16 ≤ n * t.pitch → total 17 ≤ n * t.pitch → t.setGap ≤ 1 + n)
      ∧ 1 ≤ t.setGap
      ∧ ∀ (lock : Tick) (b : Bounds) (x : PlanEntry) (front final : Nat), x.k = 1 → x.mode = .set →
          orderFits (t.grid lock) (some b) x front final = true → b.final + t.setGap ≤ final

/-! ## Admission (chapter 4) -/

/-- The slot search answers the smallest front slot that meets every requirement of R62, and fails when none does. -/
def Obligations.SlotSearchRule : Prop :=
  ∀ (g : Grid) (now : Tick) (last : Option Bounds) (x : PlanEntry), g.ring.length = 32 →
    (∀ slot, g.search now last x = some slot ↔
      g.Fits now last x slot ∧ ∀ other, g.Fits now last x other → slot ≤ other)
    ∧ (g.search now last x = none ↔ ∀ slot, ¬ g.Fits now last x slot)

/-- An evaluation that admits nothing leaves the state as it is and gives the first failing condition as the reason.
An admission: the head leaves the queue and fills the lowest-numbered FREE sheet entry, its FRONT and BACK ring
entries, its pick due and, for a DUPLEX sheet, its release due are set, the admission bounds are its own, and the
evaluation goes on with the next head. What a fresh entry holds in its reference, its cover start and its mark of rest
is the model's: notes/assumptions/37.md and 19.md. -/
def Obligations.AdmissionEvaluated : Prop :=
  (∀ s : State,
    ((s.scheduler.grid = none ∨ s.run.state ≠ .running ∨ s.drive.state ≠ .locked) →
        s.evaluate = s.setWaitReason .notRunning)
    ∧ ∀ g, s.scheduler.grid = some g → s.run.state = .running → s.drive.state = .locked →
      (s.plan.queue = [] → s.evaluate = s.setWaitReason .queueEmpty)
      ∧ ∀ x rest, s.plan.queue = x :: rest →
        (s.run.holds.any = true ∨ s.lines.trayEmpty[x.tray] = true → s.evaluate = s.setWaitReason .hold)
        ∧ (s.run.holds.any = false → s.lines.trayEmpty[x.tray] = false →
          ((∀ h, s.sheet h ≠ none) → s.evaluate = s.setWaitReason .liveLimit)
          ∧ ((∃ h, s.sheet h = none) →
            (s.logFree < s.liveCount + s.output.set.members.length + 8 →
                s.evaluate = s.setWaitReason .logReserve)
            ∧ (s.liveCount + s.output.set.members.length + 8 ≤ s.logFree →
                g.search s.tick s.scheduler.admissionBounds x = none → s.evaluate = s.setWaitReason .horizon))))
  ∧ (∀ (s : State) (g : Grid) (x : PlanEntry) (rest : List PlanEntry) (h : Handle) (front : Nat),
    s.scheduler.grid = some g → s.run.state = .running → s.drive.state = .locked → s.plan.queue = x :: rest →
    s.run.holds.any = false → s.lines.trayEmpty[x.tray] = false →
    s.sheet h = none → (∀ k : Handle, k < h → s.sheet k ≠ none) →
    s.liveCount + s.output.set.members.length + 8 ≤ s.logFree →
    g.search s.tick s.scheduler.admissionBounds x = some front →
    let duplex := x.sides = .duplex
    let back := front + g.loopPitches
    let final := if duplex then back else front
    let due := g.t0 + BitVec.ofNat 32 (front * g.pitch) - BitVec.ofNat 32 g.lead[x.tray]
    ∃ (u : State) (ring : List RingEntry),
      u.plan = { s.plan with queue := rest }
      ∧ u.sheet h = some {
          plan := x, pass := 1, frontSlot := front, backSlot := if duplex then some back else none, finalSlot := final
          state := .scheduled, leg := none, reference := 0, lastSensor := none, route := none
          frontFaulted := false, backFaulted := false, broken := false, halted := false, covering := false
          coverStart := 0, resting := false }
      ∧ (∀ k, k ≠ h → u.sheet k = s.sheet k)
      ∧ u.scheduler = { s.scheduler with
          grid := some { g with ring := ring }
          admissionBounds := some ⟨front, final, due⟩
          timers := u.scheduler.timers }
      ∧ (∀ i : Nat, ring[i]? =
          if duplex ∧ g.current + i = back then some (.back h)
          else if g.current + i = front then some (.front h)
          else g.ring[i]?)
      ∧ u.timers h = ⟨some due,
          if duplex then some (g.t0 + BitVec.ofNat 32 (back * g.pitch) - BitVec.ofNat 32 g.returnLead) else none,
          none, false, none⟩
      ∧ (∀ k, k ≠ h → u.timers k = s.timers k)
      ∧ u.tracker.sensors = s.tracker.sensors ∧ u.tracker.timing = s.tracker.timing
      ∧ KeepsBut [.plan, .scheduler, .tracker] s u
      ∧ s.evaluate = u.evaluate)

/-! ## Lines (chapters 5, 6 and 8) -/

/-- An assertion of TRAY EMPTY and a deassertion of COVER OPEN or IMAGE FAULT change the level of their line alone;
and a line driven to the level it has already is no edge: nothing of the part changes. That a level the line has is no
edge is the model's reading: notes/assumptions/7.md. -/
def Obligations.LinesFollowed : Prop :=
  (∀ s : State,
    (∀ k : Tray, ∃ t, exec (.trayEmptyAsserted k) s = .next t ∧ ActsOn [.lines] s t
      ∧ t.lines.trayEmpty[k] = true ∧ (∀ j : Tray, j ≠ k → t.lines.trayEmpty[j] = s.lines.trayEmpty[j])
      ∧ t.lines = { s.lines with trayEmpty := t.lines.trayEmpty })
    ∧ (∃ t, exec .coverOpenDeasserted s = .next t ∧ ActsOn [.lines] s t
      ∧ t.lines = { s.lines with coverOpen := false })
    ∧ (∃ t, exec .imageFaultDeasserted s = .next t ∧ ActsOn [.lines] s t
      ∧ t.lines = { s.lines with imageFault := false }))
  ∧ (∀ s : State,
    (s.lines.coverOpen = true → ∃ t, exec .coverOpen s = .next t ∧ ActsOn [] s t)
    ∧ (s.lines.imageFault = true → ∃ t, exec .imageFault s = .next t ∧ ActsOn [] s t)
    ∧ (∀ x, (s.sensor x).covered = true → ∃ t, exec (.leadingEdge x) s = .next t ∧ ActsOn [] s t)
    ∧ (∀ x, (s.sensor x).covered = false → ∃ t, exec (.trailingEdge x) s = .next t ∧ ActsOn [] s t)
    ∧ (∀ k : Tray, s.lines.trayEmpty[k] = false →
        ∃ t, exec (.trayEmptyDeasserted k) s = .next t ∧ ActsOn [] s t)
    ∧ (∀ b, s.lines.stackerFull1 = b → ∃ t, exec (.stackerFull .k1 b) s = .next t ∧ ActsOn [] s t)
    ∧ (∀ b, s.lines.stackerFull2 = b → ∃ t, exec (.stackerFull .k2 b) s = .next t ∧ ActsOn [] s t)
    ∧ (∀ b, s.lines.purgeFull = b → ∃ t, exec (.purgeFull b) s = .next t ∧ ActsOn [] s t))

/-- An assertion of ENGINE RESET: an ACCEPTED command is abandoned with no result written, the run controller takes
ENGINE RESET as the first or a later cause, and the E summary, its line and the capture latch are cleared. The order
within the event is the model's reading: notes/assumptions/31.md and, for a stop, 15.md. -/
def Obligations.EngineResetEffect : Prop :=
  ∀ s : State, ∃ u v t, exec .engineReset s = .next t
    ∧ u.pulses = [] ∧ u.run = s.run.abandoned
    ∧ u.junction = (if s.run.command = .accepted then
        { s.junction with agentQueue := s.junction.agentQueue.map (fun op => match op with
            | .commandOp _ => .commandOp true
            | op => op) ++ [.commandAbandon] }
        else s.junction)
    ∧ KeepsBut [.run, .junction, .pulses] s u
    ∧ Reported (Report.bare .engineReset) u v
    ∧ t.attention = { v.attention with e := ESummary.empty, lineE := false }
    ∧ t.junction = { v.junction with latch := none }.grant ∧ t.junction.guardOn = s.junction.guardOn
    ∧ KeepsBut [.attention, .junction] v t

/-- An assertion of COVER OPEN, by the run state: in a run a stop with no grace, in STOPPING a later cause that ends
the grace at once, elsewhere no cause; and the set put in doubt, which ends a clearance with CLEAR FAILED. That a stop
entry changes no more of the set, and that the grace of a first cause expires in an event of its own, are the model's
reading: notes/assumptions/15.md and 46.md. -/
def Obligations.CoverOpenEffect : Prop :=
  ∀ s : State, s.lines.coverOpen = false →
    ∃ u t, exec .coverOpen s = .next t
      ∧ u.lines = { s.lines with coverOpen := true } ∧ u.pulses = [] ∧ KeepsBut [.lines, .pulses] s u
      ∧ (s.run.state = .inactive → Granted u t)
      ∧ (s.run.state = .stopping → ∃ v w x,
          v.run = { s.run with
            graceDeadline := some s.tick
            jam := s.run.jam.map (fun j => match j.secondary with
              | none => { j with secondary := some (.coverOpen, none) }
              | some _ => { j with multiple := true }) }
          ∧ KeepsBut [.run] u v ∧ CoversSet v w ∧ GraceEnds w x ∧ Granted x t)
      ∧ (s.run.state ≠ .inactive → s.run.state ≠ .stopping → ∃ v w,
          Reported (Report.bare .coverOpen) u v ∧ CoversSet v w ∧ Granted w t)

/-- A leading edge that finds no head, or comes before its head's window, or after it outside STOPPING, where sheet
queues are judged: the paper is UNTRACKED and the fault STRAY or EARLY is taken. At LH with a sheet HELD and at AC with
the set in flight the edge is a collision: within the window of the head's sheet that sheet is met and halted, at LH
resting there, and otherwise the paper is UNTRACKED; the collision is reported either way. Where sheet queues are not
judged the paper is only UNTRACKED with no set expected and after the set's window, and before it the set fails EARLY.
The reading of a late edge, the mark of rest and a stop's order are the model's: notes/assumptions/21.md, 38.md, 19.md
and 15.md; the sequence named for a set without members 52.md. -/
def Obligations.StrayAndEarlyEdges : Prop :=
  ∀ (s : State) (x : Sensor), (s.sensor x).covered = false →
    let r := { s.sensor x with covered := true, occupant := .untracked, coverStart := s.tick, coverTimer := none }
    let u := s.putSensor x r
    (s.run.state.judgesSheets = true → ¬ s.Collides x → (s.sensor x).expectations = [] →
        ∃ t, exec (.leadingEdge x) s = .next t ∧ FaultTaken ⟨.stray, some x, none, false⟩ u t)
    ∧ (∀ e rest, s.run.state.judgesSheets = true → ¬ s.Collides x → (s.sensor x).expectations = e :: rest →
        (laterThan e.opens s.tick = true →
          ∃ t, exec (.leadingEdge x) s = .next t
            ∧ FaultTaken ⟨.early, some x, s.sequenceNamed e.item, e.item == .set⟩ u t)
        ∧ (laterThan e.opens s.tick = false → laterThan s.tick e.closes = true → s.run.state ≠ .stopping →
          ∃ t, exec (.leadingEdge x) s = .next t ∧ FaultTaken ⟨.stray, some x, none, false⟩ u t))
    ∧ (s.run.state.judgesSheets = true → s.Collides x →
        let cause : Cause := if x = .LH then .holdCollision else .accumulatorCollision
        (∀ e rest h sh, (s.sensor x).expectations = e :: rest → e.item = .sheet h → s.sheet h = some sh →
          laterThan e.opens s.tick = false → laterThan s.tick e.closes = false →
          ∃ v w y t, exec (.leadingEdge x) s = .next t ∧ SheetMet x e h sh s v
            ∧ SheetBecomes h { sh with
                lastSensor := some x, covering := true, coverStart := s.tick, halted := true, resting := x == .LH } v w
            ∧ Reported ⟨cause, some x, some sh.plan.sequence, false⟩ w y ∧ Granted y t)
        ∧ ((∀ e rest h, (s.sensor x).expectations = e :: rest → e.item = .sheet h →
              laterThan e.opens s.tick = true ∨ laterThan s.tick e.closes = true) →
          ∃ (other : Option Nat) (t : State), exec (.leadingEdge x) s = .next t
            ∧ (x = .LH → ∃ h sh, s.sheet h = some sh ∧ sh.state = .held ∧ other = some sh.plan.sequence)
            ∧ (x = .AC → other = none) ∧ ReportTaken ⟨cause, some x, other, false⟩ u t))
    ∧ (s.run.state.judgesSheets = false → (∀ e ∈ (s.sensor x).expectations, e.item ≠ .set) →
        ∃ t, exec (.leadingEdge x) s = .next t ∧ t.sensor x = r ∧ (∀ y, y ≠ x → t.sensor y = s.sensor y)
          ∧ t.tracker.sheets = s.tracker.sheets ∧ ActsOn [.tracker] s t)
    ∧ (∀ e, s.run.state.judgesSheets = false →
        (s.sensor x).expectations.find? (fun f => f.item == .set) = some e →
        (laterThan e.opens s.tick = true →
          ∃ t, exec (.leadingEdge x) s = .next t ∧ FaultTaken ⟨.early, some x, s.sequenceNamed .set, true⟩ u t)
        ∧ (laterThan e.opens s.tick = false → laterThan s.tick e.closes = true →
          ∃ t, exec (.leadingEdge x) s = .next t ∧ t.sensor x = r ∧ (∀ y, y ≠ x → t.sensor y = s.sensor y)
            ∧ t.tracker.sheets = s.tracker.sheets ∧ ActsOn [.tracker] s t))

/-- A leading edge within the window of its head, or in STOPPING after it, that is no collision. A sheet becomes the
sensor's occupant, its expectation leaves, and its cover is timed but at LH; then, by the sensor, it is APPROACH (MG)
or PRINTING (TR) and its next expectation is placed from the edge; at TR an asserted IMAGE FAULT marks its side; at LH
it is HELD and its arrival reported, but a halted one only rests; at XO its next leg follows its route; and at LI, AC,
K1, K2 and PB nothing more happens. The set becomes the occupant and is marked arrived. An expectation enters a list
before the first one that opens later. The mark of rest and the model's one list are its own: notes/assumptions/19.md
and 20.md. -/
def Obligations.MatchedEdges : Prop :=
  (∀ (s : State) (x : Sensor) (h : Handle) (sh : Sheet) (e : Expectation) (rest : List Expectation),
    (s.sensor x).covered = false → s.run.state.judgesSheets = true → ¬ s.Collides x →
    (s.sensor x).expectations = e :: rest → e.item = .sheet h → s.sheet h = some sh →
    notEarlier s.tick e.opens = true → notEarlier e.closes s.tick = true ∨ s.run.state = .stopping →
    let met := { sh with lastSensor := some x, covering := true, coverStart := s.tick }
    let goes := fun R : State → State → Prop =>
      ∃ u v t, exec (.leadingEdge x) s = .next t ∧ SheetMet x e h sh s u ∧ R u v ∧ Granted v t
    (∀ l, nextLeg x = some l → goes (fun u v => ∃ w,
        SheetBecomes h { met with state := if x = .MG then .approach else sh.state } u w ∧ Places h l w v))
    ∧ (x = .TR → goes (fun u v => ∃ w y,
        SheetBecomes h { met with state := .printing } u w ∧ Places h 6 w y
          ∧ (s.lines.imageFault = false → KeepsBut [] y v)
          ∧ (s.lines.imageFault = true → ∀ printed, y.sheet h = some printed → SideFaulted h printed y v)))
    ∧ (x = .LH →
        (sh.halted = true → goes (SheetBecomes h { met with resting := true }))
        ∧ (sh.halted = false → goes (fun u v => ∃ w,
            SheetBecomes h { met with state := .held, resting := s.run.state == .stopping } u w ∧ ArrivesAtHold h w v)))
    ∧ (x = .XO → ∀ r, sh.route = some r →
        goes (Places h (match r with | .accumulate => 11 | .k1 => 12 | .k2 => 13 | .purge => 14)))
    ∧ (x = .LI ∨ x = .AC ∨ x = .K1 ∨ x = .K2 ∨ x = .PB → goes (KeepsBut [])))
  ∧ (∀ (s : State) (x : Sensor) (e : Expectation), (s.sensor x).covered = false → ¬ s.Collides x → e.item = .set →
    (s.run.state.judgesSheets = true → (s.sensor x).expectations.head? = some e) →
    (s.run.state.judgesSheets = false → (s.sensor x).expectations.find? (fun f => f.item == .set) = some e) →
    notEarlier s.tick e.opens = true → notEarlier e.closes s.tick = true ∨ s.run.state = .stopping →
    ∃ u v t, exec (.leadingEdge x) s = .next t
      ∧ u.sensor x = { s.sensor x with
          covered := true, occupant := .set, coverStart := s.tick, coverMin := e.coverMin, coverMax := e.coverMax,
          coverTimer := some (s.tick + BitVec.ofNat 32 e.coverMax),
          expectations := (s.sensor x).expectations.filter (fun f => f.item != .set) }
      ∧ (∀ y, y ≠ x → u.sensor y = s.sensor y) ∧ u.tracker.sheets = s.tracker.sheets
      ∧ u.tracker.timing = s.tracker.timing ∧ u.pulses = [] ∧ KeepsBut [.tracker, .pulses] s u
      ∧ SetBecomes { s.output.set with arrived := true } u v ∧ Granted v t)
  ∧ (∀ (e : Expectation) (l : List Expectation), ∃ front back,
      l = front ++ back ∧ insertByOpen e l = front ++ e :: back ∧ (∀ f ∈ front, laterThan f.opens e.opens = false)
        ∧ (∀ f, back.head? = some f → laterThan f.opens e.opens = true))

/-- A trailing edge of a sheet where sheet queues are judged: SHORT before the cover min, and at LH before its release,
which halts the sheet and is taken as a fault. An accepted one takes the sheet off the sensor and tells the gate at FX
and XO, be its entry live or already FREE; at LI a sheet not halted is expected at LH; at PB a sheet routed there and
not halted is disposed of, PURGED. The set's is SHORT too before its cover min, which scatters a set in flight; and
otherwise completes the eject or the dump, after which the drain end, admission and the end of clearance are examined.
Untracked paper, and a sheet where sheet queues are not judged, leave the sensor clear with nothing else. The mark of
rest, a report's order, a stop's, and that a CLEAR is finished before the set's own JAM are the model's:
notes/assumptions/19.md, 13.md, 15.md and 43.md; the gates follow 26.md, the end of clearance 39.md, what
becomes of an occupant whose sheet has left 49.md, and the sequence named for a set without members 52.md. -/
def Obligations.TrailingEdges : Prop :=
  ∀ (s : State) (x : Sensor), (s.sensor x).covered = true →
    let r := { s.sensor x with covered := false, occupant := .none, coverTimer := none }
    let early := (s.tick - (s.sensor x).coverStart).toNat < (s.sensor x).coverMin
    (∀ h sh, (s.sensor x).occupant = .sheet h → s.sheet h = some sh → s.run.state.judgesSheets = true →
      let unreleased := x = .LH ∧ sh.state = .held ∧ sh.resting = false
      (early ∨ unreleased →
        ∃ t, exec (.trailingEdge x) s = .next t
          ∧ FaultTaken ⟨.short, some x, some sh.plan.sequence, false⟩
              ((s.putSensor x r).putSheet h
                (some { sh with halted := true, covering := (s.putSensor x r).occupies h })) t)
      ∧ (¬ early → ¬ unreleased →
        let goes := fun R : State → State → Prop =>
          ∃ u v w t, exec (.trailingEdge x) s = .next t ∧ Vacated x s u ∧ GateTold x h u v ∧ R v w ∧ Granted w t
        (x = .LI → (sh.halted = true → goes (KeepsBut [])) ∧ (sh.halted = false → goes (Places h 8)))
        ∧ (x ≠ .LI → (∀ d, sh.route = some d → d.sensor = x → sh.halted = true) → goes (KeepsBut []))
        ∧ (x = .PB → sh.route = some .purge → sh.halted = false → goes (fun v w => ∃ a b y, HandleFreed h v a
            ∧ DropsLost (usesOf [(sh.plan.front, sh.plan.back)]) a b
            ∧ HandsOver ⟨s.tick, .purged ⟨sh.plan.sequence, sh.plan.statement, sh.plan.k, sh.plan.slot⟩⟩ b y
            ∧ FollowsLeaving sh.plan.copy y w))))
    ∧ (∀ h, (s.sensor x).occupant = .sheet h → s.sheet h = none → s.run.state.judgesSheets = true →
      (early → ∃ t, exec (.trailingEdge x) s = .next t ∧ FaultTaken ⟨.short, some x, none, false⟩ (s.putSensor x r) t)
      ∧ (¬ early → ∃ u v t, exec (.trailingEdge x) s = .next t ∧ Vacated x s u ∧ GateTold x h u v ∧ Granted v t))
    ∧ (∀ h, (s.sensor x).occupant = .sheet h → s.run.state.judgesSheets = false →
      ∃ u t, exec (.trailingEdge x) s = .next t ∧ Vacated x s u ∧ Granted u t)
    ∧ ((s.sensor x).occupant = .none → ∃ t, exec (.trailingEdge x) s = .next t ∧ ActsOn [.tracker] s t
      ∧ t.sensor x = { s.sensor x with covered := false } ∧ (∀ y, y ≠ x → t.sensor y = s.sensor y)
      ∧ t.tracker.sheets = s.tracker.sheets)
    ∧ ((s.sensor x).occupant = .set →
      (early → ∃ u v w t, exec (.trailingEdge x) s = .next t ∧ Vacated x s u
        ∧ (s.output.set.flies → Disturbs True .short u v) ∧ (¬ s.output.set.flies → KeepsBut [] u v)
        ∧ Faults ⟨.short, some x, s.output.set.members.head?.map (fun m => m.sequence), true⟩ v w ∧ Granted w t)
      ∧ (¬ early → ∃ u v w y z t, exec (.trailingEdge x) s = .next t ∧ Vacated x s u
        ∧ SetCompletes u v ∧ DrainExamined v w ∧ Evaluates w y ∧ ClearanceExamined y z ∧ Granted z t))
    ∧ ((s.sensor x).occupant = .untracked →
      ∃ t, exec (.trailingEdge x) s = .next t ∧ ActsOn [.tracker] s t
        ∧ t.sensor x = r ∧ (∀ y, y ≠ x → t.sensor y = s.sensor y) ∧ t.tracker.sheets = s.tracker.sheets)

/-- A DIRECT sheet that clears its stacker's sensor where sheet queues are judged is delivered there: its entry is
FREE, its references are dropped for delivery, its DELIVERED record is handed over, and the stack top counts it, the jog
line toggling at sheet 1; then its copy's record, the drain end and admission are examined. The order of the two TOP
NOTICEs of a resolved copy is the model's: notes/assumptions/40.md. -/
def Obligations.DirectDelivery : Prop :=
  ∀ (s : State) (k : Stacker) (h : Handle) (sh : Sheet),
    let x : Sensor := match k with | .k1 => .K1 | .k2 => .K2
    (s.sensor x).covered = true → (s.sensor x).occupant = .sheet h → s.sheet h = some sh →
    s.run.state.judgesSheets = true → sh.route = some (match k with | .k1 => .k1 | .k2 => .k2) → sh.halted = false →
    (s.sensor x).coverMin ≤ (s.tick - (s.sensor x).coverStart).toNat →
    ∃ u v a b w y t, exec (.trailingEdge x) s = .next t ∧ Vacated x s u ∧ HandleFreed h u v
      ∧ DropsDelivered (usesOf [(sh.plan.front, sh.plan.back)]) v a
      ∧ HandsOver ⟨s.tick, .delivered ⟨sh.plan.sequence, sh.plan.statement, sh.plan.k, sh.plan.slot⟩ k⟩ a b
      ∧ w.output.top k = some (match s.output.top k with
          | some (c, n) => if c = sh.plan.copy then (c, n + 1) else (sh.plan.copy, 1)
          | none => (sh.plan.copy, 1))
      ∧ w.output.top k.other = s.output.top k.other
      ∧ w.output = { s.output with
          top1 := w.output.top1
          top2 := w.output.top2
          jog1 := if k = .k1 ∧ sh.plan.k = 1 then s.output.jog1.toggle else s.output.jog1
          jog2 := if k = .k2 ∧ sh.plan.k = 1 then s.output.jog2.toggle else s.output.jog2 }
      ∧ KeepsBut [.output] b w ∧ FollowsLeaving sh.plan.copy w y ∧ Granted y t

/-- A leading edge at FX within the window of its head's sheet, or in STOPPING after it. Pass 1 of a DUPLEX sheet is
LOOPING towards LI, and the loop gate takes LOOP; on its final pass the sheet is EXITING towards XO with its route:
ACCUMULATE for a SET sheet, whose sheet 1 makes its copy the latest, PURGE for a DIRECT sheet of a broken copy, and the
active stacker for a DIRECT copy that is not, of which sheet 1 first makes the boundary decision; the loop gate takes
OUT and the route gate the route. A gate applies a position at once when it has no holder or one that has cleared, and
otherwise keeps it pending. Expectations stand in the model's one list: notes/assumptions/20.md. -/
def Obligations.FuserDecisions : Prop :=
  ∀ (s : State) (h : Handle) (sh : Sheet) (e : Expectation) (rest : List Expectation) (timing : TimingSet),
    (s.sensor .FX).covered = false → s.run.state.judgesSheets = true →
    (s.sensor .FX).expectations = e :: rest → e.item = .sheet h → s.sheet h = some sh →
    s.tracker.timing = some timing → notEarlier s.tick e.opens = true →
    notEarlier e.closes s.tick = true ∨ s.run.state = .stopping →
    let broken := sh.broken || (s.output.brokenRecord sh.plan.copy).isSome
    let loop := fun (p : LoopPosition) =>
      let g := s.output.loopGate
      if g.holder = none ∨ g.cleared = true then ⟨p, some h, false, none⟩ else { g with pending := some (p, h) }
    let route := fun (p : Route) =>
      let g := s.output.routeGate
      if g.holder = none ∨ g.cleared = true then ⟨p, some h, false, none⟩ else { g with pending := some (p, h) }
    let moves := fun (l : Leg) (sh' : Sheet) (t : State) =>
      t.sensor .FX = { s.sensor .FX with
          covered := true, occupant := .sheet h, coverStart := s.tick, coverMin := e.coverMin, coverMax := e.coverMax,
          coverTimer := some (s.tick + BitVec.ofNat 32 e.coverMax),
          expectations := (s.sensor .FX).expectations.filter (fun f => f.item != .sheet h) }
        ∧ t.sheet h = some { sh' with
            broken := broken, lastSensor := some .FX, covering := true, coverStart := s.tick, leg := some (.leg l),
            reference := s.tick }
        ∧ t.sensor (legTo l) = { s.sensor (legTo l) with
            expectations := insertByOpen (s.expects timing h sh (.leg l)) (s.sensor (legTo l)).expectations }
        ∧ (∀ y, y ≠ .FX → y ≠ legTo l → t.sensor y = s.sensor y) ∧ (∀ k, k ≠ h → t.sheet k = s.sheet k)
    let lands := fun (l : Leg) (sh' : Sheet) (o : OutputUnit) =>
      ∃ t, exec (.leadingEdge .FX) s = .next t ∧ ActsOn [.tracker, .output] s t ∧ moves l sh' t ∧ t.output = o
    let exits := fun (r : Route) (latest : Option (Copy × Bool)) =>
      lands 10 { sh with state := .exiting, route := some r }
        { s.output with loopGate := loop .out, routeGate := route r, latest := latest }
    (sh.plan.sides = .duplex → sh.pass = 1 →
      lands 7 { sh with state := .looping } { s.output with loopGate := loop .loop })
    ∧ (¬ (sh.plan.sides = .duplex ∧ sh.pass = 1) →
      (sh.plan.mode = .set → sh.plan.k = 1 → exits .accumulate (some (sh.plan.copy, sh.plan.breakFlag)))
      ∧ (sh.plan.mode = .set → sh.plan.k ≠ 1 → exits .accumulate s.output.latest)
      ∧ (sh.plan.mode = .direct → broken = true → exits .purge s.output.latest)
      ∧ (sh.plan.mode = .direct → broken = false → sh.plan.k ≠ 1 →
          exits (match s.output.active with | .k1 => .k1 | .k2 => .k2) s.output.latest)
      ∧ (sh.plan.mode = .direct → broken = false → sh.plan.k = 1 →
          ∃ u v t, exec (.leadingEdge .FX) s = .next t ∧ SheetMet .FX e h sh s u
            ∧ DecidesDirect sh.plan.breakFlag u v
            ∧ (let r : Route := match v.output.active with | .k1 => .k1 | .k2 => .k2
              moves 10 { sh with state := .exiting, route := some r } t
                ∧ t.output = { v.output with loopGate := loop .out, routeGate := route r })
            ∧ t.tracker.timing = s.tracker.timing ∧ t.junction = v.junction.grant
            ∧ KeepsBut [.tracker, .output, .junction] v t))

/-- A SET sheet taken at its trailing edge at AC where sheet queues are judged: sheet 1 opens the EMPTY set, the next
sheet of a COLLECTING set's copy is appended, and the set becomes COMPLETE with its last member unless it is broken or
DISTURBED; the eject and the dump condition are then examined. Its entry is FREE and its references stay with the
member. Any other SET sheet is an overrun: a set in flight is SCATTERED and one at rest DISTURBED, another copy than
the set's is broken, and the collision is reported. The sheet's copy's record, the drain end and admission are then
examined. The order of the reports within one event, and a stop's, are the model's: notes/assumptions/13.md and
15.md. -/
def Obligations.SetCollects : Prop :=
  ∀ (s : State) (h : Handle) (sh : Sheet),
    (s.sensor .AC).covered = true → (s.sensor .AC).occupant = .sheet h → s.sheet h = some sh →
    s.run.state.judgesSheets = true → sh.route = some .accumulate → sh.halted = false →
    (s.sensor .AC).coverMin ≤ (s.tick - (s.sensor .AC).coverStart).toNat →
    let set := s.output.set
    let p := sh.plan
    let faulted := sh.frontFaulted || sh.backFaulted
    let member : Member := ⟨p.sequence, p.statement, p.k, p.front, p.back, p.slot, p.media, faulted⟩
    let broken := set.broken || sh.broken || faulted
    let fills := fun (n : Nat) => set.members.length + 1 = n ∧ broken = false ∧ set.condition ≠ .disturbed
    let opens := set.state = .empty ∧ p.k = 1
    let continues := set.state = .collecting ∧ set.members.length < set.n ∧ set.copy = some p.copy
      ∧ p.k = set.members.length + 1
    let taken := fun R : State → State → Prop =>
      ∃ u v w y t, exec (.trailingEdge .AC) s = .next t ∧ Vacated .AC s u ∧ HandleFreed h u v ∧ R v w
        ∧ FollowsLeaving p.copy w y ∧ Granted y t
    (opens → taken (fun v w => ∃ a,
        SetBecomes { set with
          state := if fills p.n then .complete else .collecting
          copy := some p.copy, n := p.n, breakFlag := p.breakFlag, members := set.members ++ [member]
          broken := broken } v a ∧ SetExamined a w))
    ∧ (continues → taken (fun v w => ∃ a,
        SetBecomes { set with
          state := if fills set.n then .complete else .collecting
          members := set.members ++ [member]
          broken := broken } v a ∧ SetExamined a w))
    ∧ (¬ opens → ¬ continues → taken (Overruns sh))

/-- IMAGE FAULT asserted while a sheet occupies TR where TR is judged: the side being printed is marked faulted and, at
its first mark, the sheet's copy is broken, with all that a break does to its live sheets, the set, its queued entries
and the tail; the copy's record waits on the live sheet. Elsewhere only the line's level changes. That the withdrawal is
carried out in the same event is the model's reading: notes/assumptions/13.md. -/
def Obligations.ImageFaultEffect : Prop :=
  ∀ s : State, s.lines.imageFault = false →
    (∀ h sh, (s.sensor .TR).occupant = .sheet h → s.run.state.judgesSheets = true → s.sheet h = some sh →
      ∃ u v t, exec .imageFault s = .next t ∧ Begun (s.setLines { s.lines with imageFault := true }) u
        ∧ SideFaulted h sh u v ∧ Granted v t
        ∧ ((if sh.pass = 1 then sh.frontFaulted else sh.backFaulted) = false →
            t.plan.queue = s.plan.queue.filter (fun e => !(e.copy == sh.plan.copy))
              ∧ ∃ r, t.output.brokenRecord sh.plan.copy = some r ∧ r.withdrawalPending = false))
    ∧ (((∀ h, (s.sensor .TR).occupant ≠ .sheet h) ∨ s.run.state.judgesSheets = false) →
      ∃ t, exec .imageFault s = .next t ∧ ActsOn [.lines] s t ∧ t.lines = { s.lines with imageFault := true })

/-- A deassertion of TRAY EMPTY removes the tray's hold and prompts an evaluation of admission. The STACKERS FULL and
PURGE FULL holds follow their lines after activation: added at an assertion (of the second stacker line, of PURGE
FULL), removed at a deassertion, which prompts an evaluation of admission, and then the eject and the dump condition
are examined; before activation the level alone changes. -/
def Obligations.LineHolds : Prop :=
  (∀ (s : State) (k : Tray), s.lines.trayEmpty[k] = true →
    ∃ t, exec (.trayEmptyDeasserted k) s = .next t
      ∧ t.run.holds.tray[k] = false ∧ (∀ j : Tray, j ≠ k → t.run.holds.tray[j] = s.run.holds.tray[j])
      ∧ t.lines.trayEmpty[k] = false ∧ (∀ j : Tray, j ≠ k → t.lines.trayEmpty[j] = s.lines.trayEmpty[j])
      ∧ EvaluatedAs
          ((s.setLines { s.lines with trayEmpty := t.lines.trayEmpty }).setRun
            { s.run with holds := { s.run.holds with tray := t.run.holds.tray } }) t)
  ∧ (∀ s : State,
    (s.run.state = .inactive →
      (∀ b, s.lines.purgeFull ≠ b → ∃ t, exec (.purgeFull b) s = .next t ∧ ActsOn [.lines] s t
        ∧ t.lines = { s.lines with purgeFull := b })
      ∧ (∀ b, s.lines.stackerFull1 ≠ b → ∃ t, exec (.stackerFull .k1 b) s = .next t ∧ ActsOn [.lines] s t
        ∧ t.lines = { s.lines with stackerFull1 := b })
      ∧ (∀ b, s.lines.stackerFull2 ≠ b → ∃ t, exec (.stackerFull .k2 b) s = .next t ∧ ActsOn [.lines] s t
        ∧ t.lines = { s.lines with stackerFull2 := b }))
    ∧ (s.run.state ≠ .inactive →
      (s.lines.purgeFull = false → ∃ t, exec (.purgeFull true) s = .next t ∧ ActsOn [.lines, .run] s t
        ∧ t.lines = { s.lines with purgeFull := true }
        ∧ t.run = { s.run with holds := { s.run.holds with purgeFull := true } })
      ∧ (s.lines.stackerFull1 = false → ∃ t, exec (.stackerFull .k1 true) s = .next t ∧ ActsOn [.lines, .run] s t
        ∧ t.lines = { s.lines with stackerFull1 := true }
        ∧ t.run = { s.run with holds := { s.run.holds with
            stackersFull := s.run.holds.stackersFull || s.lines.stackerFull2 } })
      ∧ (s.lines.stackerFull2 = false → ∃ t, exec (.stackerFull .k2 true) s = .next t ∧ ActsOn [.lines, .run] s t
        ∧ t.lines = { s.lines with stackerFull2 := true }
        ∧ t.run = { s.run with holds := { s.run.holds with
            stackersFull := s.run.holds.stackersFull || s.lines.stackerFull1 } })
      ∧ (s.output.set.state = .empty → s.output.set.condition = .sound →
        (s.lines.purgeFull = true → s.run.holds.purgeFull = true →
          ∃ t, exec (.purgeFull false) s = .next t ∧ EvaluatedAs
            ((s.setLines { s.lines with purgeFull := false }).setRun
              { s.run with holds := { s.run.holds with purgeFull := false } }) t)
        ∧ (s.lines.stackerFull1 = true → s.run.holds.stackersFull = true →
          ∃ t, exec (.stackerFull .k1 false) s = .next t ∧ EvaluatedAs
            ((s.setLines { s.lines with stackerFull1 := false }).setRun
              { s.run with holds := { s.run.holds with stackersFull := false } }) t)
        ∧ (s.lines.stackerFull2 = true → s.run.holds.stackersFull = true →
          ∃ t, exec (.stackerFull .k2 false) s = .next t ∧ EvaluatedAs
            ((s.setLines { s.lines with stackerFull2 := false }).setRun
              { s.run with holds := { s.run.holds with stackersFull := false } }) t)
        ∧ (s.lines.purgeFull = true → s.run.holds.purgeFull = false →
          ∃ t, exec (.purgeFull false) s = .next t ∧ ActsOn [.lines] s t
            ∧ t.lines = { s.lines with purgeFull := false })
        ∧ (s.lines.stackerFull1 = true → s.run.holds.stackersFull = false →
          ∃ t, exec (.stackerFull .k1 false) s = .next t ∧ ActsOn [.lines] s t
            ∧ t.lines = { s.lines with stackerFull1 := false })
        ∧ (s.lines.stackerFull2 = true → s.run.holds.stackersFull = false →
          ∃ t, exec (.stackerFull .k2 false) s = .next t ∧ ActsOn [.lines] s t
            ∧ t.lines = { s.lines with stackerFull2 := false })))
    ∧ (s.run.state ≠ .inactive →
      let falls := fun (i : Instr) (l : Lines) (holds : FeedHolds) (held : Bool) =>
        ∃ u v w t, exec i s = .next t ∧ u.lines = l ∧ u.run = { s.run with holds := holds } ∧ u.pulses = []
          ∧ KeepsBut [.lines, .run, .pulses] s u ∧ (held = true → Evaluates u v) ∧ (held = false → KeepsBut [] u v)
          ∧ SetExamined v w ∧ Granted w t
      (s.lines.purgeFull = true → falls (.purgeFull false) { s.lines with purgeFull := false }
          { s.run.holds with purgeFull := false } s.run.holds.purgeFull)
      ∧ (s.lines.stackerFull1 = true → falls (.stackerFull .k1 false) { s.lines with stackerFull1 := false }
          { s.run.holds with stackersFull := false } s.run.holds.stackersFull)
      ∧ (s.lines.stackerFull2 = true → falls (.stackerFull .k2 false) { s.lines with stackerFull2 := false }
          { s.run.holds with stackersFull := false } s.run.holds.stackersFull)))

/-- A COMPLETE, SOUND set that waited on both stackers is ejected when a STACKER FULL line falls in RUNNING, DRAINING or
IDLE: the STACKERS FULL hold is removed, which prompts an evaluation of admission; then EJECT is pulsed, to the
committed destination's stacker where it names the set's copy, and else to the one that a boundary decision leaves
active; and the set's expectation is placed at that stacker's sensor from the pulse. -/
def Obligations.EjectBegins : Prop :=
  ∀ (s : State) (k : Stacker) (c : Configuration) (timing : TimingSet),
    s.lines.stackerFull1 = true → s.lines.stackerFull2 = true →
    s.run.state = .running ∨ s.run.state = .draining ∨ s.run.state = .idle →
    s.output.set.state = .complete → s.output.set.condition = .sound → s.output.set.members ≠ [] →
    s.config = some c → s.tracker.timing = some timing →
    let set := s.output.set
    ∃ u v w t, exec (.stackerFull k false) s = .next t
      ∧ u.lines = (match k with
          | .k1 => { s.lines with stackerFull1 := false }
          | .k2 => { s.lines with stackerFull2 := false })
      ∧ u.run = { s.run with holds := { s.run.holds with stackersFull := false } }
      ∧ u.pulses = [] ∧ KeepsBut [.lines, .run, .pulses] s u
      ∧ (s.run.holds.stackersFull = true → Evaluates u v) ∧ (s.run.holds.stackersFull = false → KeepsBut [] u v)
      ∧ (∀ a d, set.copy = some a → s.output.committed = some (a, d) →
          Launched c timing d.destination set.members (v.setOutput { s.output with committed := none }) w)
      ∧ ((∀ a d, s.output.committed = some (a, d) → set.copy ≠ some a) →
          ∃ y, DecidesBoundary set.breakFlag v y ∧ Launched c timing y.output.active.destination set.members y w)
      ∧ Granted w t

/-! ## Expiries (chapters 4, 5, 7 and 8) -/

/-- An encoder pulse in an open window is counted, and a window's close judges its count by the drive state: against
the lock band of the target code in SPIN-UP and RELOCK short of the fourth count in it, against the run band in LOCKED
short of a report, and for zero in COASTING, where the second zero in a row turns the drive OFF. That a close not yet
due changes nothing is the model's reading: notes/assumptions/7.md. -/
def Obligations.EncoderWindows : Prop :=
  ∀ s : State,
    (∃ t, exec .encoder s = .next t ∧ ActsOn [.drive] s t
      ∧ t.drive = { s.drive with
          count := if s.drive.windowClose.isSome = true then s.drive.count + 1 else s.drive.count })
    ∧ ∀ (c : Configuration) (close : Tick), s.config = some c → s.drive.windowClose = some close →
      (notEarlier s.tick close = false → ∃ t, exec .encoderWindowClose s = .next t ∧ ActsOn [] s t)
      ∧ (notEarlier s.tick close = true →
        let n := s.drive.count
        let lock := InBand (encoderCountOf c c.speed[s.drive.target]) c.lockTolerance n
        let closes := fun d : Drive =>
          ∃ t, exec .encoderWindowClose s = .next t ∧ ActsOn [.drive] s t ∧ t.drive = d
        (s.drive.state.seeking = true → ¬ lock → closes { s.nextWindow with inBandRun := 0 })
        ∧ (s.drive.state.seeking = true → lock → s.drive.inBandRun + 1 < 4 →
            closes { s.nextWindow with inBandRun := s.drive.inBandRun + 1 })
        ∧ (s.drive.state = .coasting → n ≠ 0 → closes { s.nextWindow with zeroRun := 0 })
        ∧ (s.drive.state = .coasting → n = 0 → s.drive.zeroRun + 1 < 2 →
            closes { s.nextWindow with zeroRun := s.drive.zeroRun + 1 })
        ∧ (s.drive.state = .coasting → n = 0 → s.drive.zeroRun = 1 →
            closes { s.drive with lastCount := 0, count := 0, windowClose := none, zeroRun := 2, state := .off })
        ∧ (∀ timing, s.drive.state = .locked → s.tracker.timing = some timing →
          let run := InBand timing.encoderCount c.runTolerance n
          (run → closes { s.nextWindow with deviationRun := 0, zeroRun := 0 })
          ∧ (¬ run → n ≠ 0 → s.drive.deviationRun + 1 < 3 →
              closes { s.nextWindow with deviationRun := s.drive.deviationRun + 1, zeroRun := 0 })
          ∧ (¬ run → n = 0 → s.drive.deviationRun + 1 < 3 → s.drive.zeroRun + 1 < 2 →
              closes { s.nextWindow with
                deviationRun := s.drive.deviationRun + 1, zeroRun := s.drive.zeroRun + 1 })))

/-- The fourth count in a row in the lock band locks the drive. In STARTING the current timing set, the grid with T0
the lock time, the SPEED SET record and RUNNING follow and START finishes DONE; in RESPEED the change ends DONE with its
SPEED SET, or CANCELLED with none when the drive was commanded back, in which case CANCEL SPEED CHANGE finishes
CANCELLED. Admission is then evaluated, and the eject and the dump condition are examined: with the set EMPTY, nothing
more happens. That a record in flight is one of the pending list is the model's reading, and that CANCEL's result is
asked for before the record of an eject its choice: notes/assumptions/50.md and 53.md. -/
def Obligations.LocksTaken : Prop :=
  ∀ (s : State) (c : Configuration) (close : Tick),
    s.config = some c → s.drive.windowClose = some close → notEarlier s.tick close = true →
    s.drive.state.seeking = true → s.drive.inBandRun = 3 →
    InBand (encoderCountOf c c.speed[s.drive.target]) c.lockTolerance s.drive.count →
    let timing := timingSet c s.drive.target
    let d : Drive := { s.nextWindow with
      state := .locked, current := s.drive.target, speed := s.drive.target, lockDeadline := none,
      inBandRun := 0, deviationRun := 0, zeroRun := 0 }
    let speedSet : LogRecord := ⟨s.tick, .speedSet s.drive.current s.drive.target⟩
    let gridded := ((s.setDrive d).setTracker { s.tracker with timing := some timing }).setScheduler
      { s.scheduler with
        grid := some ⟨s.tick, timing.pitch, timing.lead, timing.returnLead, timing.loopPitches, timing.setGap, 1,
          List.replicate 32 .free⟩
        admissionBounds := none
        pickBounds := none }
    let runs := fun (r : RunControl → RunControl) (v w : State) => w.run = r v.run ∧ KeepsBut [.run] v w
    let ends := fun (x : ChangeStatus) (v w : State) =>
      w.run = { v.run with changeStatus := x, drainTarget := none } ∧ w.attention = v.attention.withE .speedChangeEnd
        ∧ KeepsBut [.run, .attention] v w
    let settles := fun (v t : State) => ∃ w x, Evaluates v w ∧ SetExamined w x ∧ Granted x t
    (s.run.state = .starting →
      ∃ u v w x t, exec .encoderWindowClose s = .next t ∧ Begun gridded u ∧ HandsOver speedSet u v
        ∧ runs (fun r => { r with state := .running }) v w ∧ FinishesIf .start .done 0 w x ∧ settles x t)
    ∧ (s.run.state = .respeed → s.run.changeStatus = .relocking →
      ∃ u v w x t, exec .encoderWindowClose s = .next t ∧ Begun gridded u
        ∧ runs (fun r => { r with state := .running }) u v ∧ HandsOver speedSet v w ∧ ends .done w x ∧ settles x t)
    ∧ (s.run.state = .respeed → s.run.changeStatus = .returning →
      ∃ u v w x t, exec .encoderWindowClose s = .next t ∧ Begun gridded u
        ∧ runs (fun r => { r with state := .running }) u v ∧ ends .cancelled v w
        ∧ FinishesIf .cancelSpeedChange .cancelled 0 w x ∧ settles x t)
    ∧ (∀ x, s.output.set.state = .empty → s.output.set.condition = .sound → s.log.inFlight = some x →
      ((x.2 :: s.log.waiting).filter (fun r => r.body.disposition.isNone)).length < 32 →
      let lands := fun (t : State) (r : RunControl) =>
        t.drive = d ∧ t.run = r ∧ t.plan = (gridded.setRun r).evaluate.plan
          ∧ t.scheduler = (gridded.setRun r).evaluate.scheduler
          ∧ t.tracker = (gridded.setRun r).evaluate.tracker ∧ t.pulses = []
          ∧ KeepsBut [.junction, .pulses, .plan, .scheduler, .tracker, .drive, .run, .log, .attention] s t
      (∀ k, s.run.state = .starting → s.run.running = some k → k.code = some .start →
        ∃ t, exec .encoderWindowClose s = .next t
          ∧ lands t { s.run with state := .running, command := .done, running := none }
          ∧ t.log = { s.log with waiting := s.log.waiting ++ [speedSet] } ∧ t.attention = s.attention
          ∧ t.junction = (s.junction.asked [finishOp k .done 0]).grant)
      ∧ (s.run.state = .respeed → s.run.changeStatus = .relocking →
        ∃ t, exec .encoderWindowClose s = .next t
          ∧ lands t { s.run with state := .running, changeStatus := .done, drainTarget := none }
          ∧ t.log = { s.log with waiting := s.log.waiting ++ [speedSet] }
          ∧ t.attention = s.attention.withE .speedChangeEnd ∧ t.junction = s.junction.grant)
      ∧ (∀ k, s.run.state = .respeed → s.run.changeStatus = .returning → s.run.running = some k →
        k.code = some .cancelSpeedChange →
        ∃ t, exec .encoderWindowClose s = .next t
          ∧ lands t { s.run with
              state := .running, changeStatus := .cancelled, drainTarget := none, command := .done, running := none }
          ∧ t.log = s.log ∧ t.attention = s.attention.withE .speedChangeEnd
          ∧ t.junction = (s.junction.asked [finishOp k .cancelled 0]).grant))

/-- A window close that brings the zero run to 2 reports DRIVE LOSS, and one that brings the deviation run to 3 without
that reports DRIVE DEVIATION. The lock deadline's expiry ends a start or a relock: the drive coasts and the part becomes
IDLE; START finishes FAILED with the lock timeout's detail, a speed change ends FAILED, and a CANCEL SPEED CHANGE being
run finishes FAILED; at the entry to IDLE the eject and the dump condition are examined, which with the set EMPTY
changes nothing more; in any other run state only the deadline ends. A coast of a drive that turns under power and a
command to another code set what the drive becomes, and open a window in place of the open one. The order within a
stop's event, and that a deadline and a close of one tick go so, are the model's readings: notes/assumptions/15.md and
42.md; that the result's write is asked for before the record of an eject begun at the entry to IDLE is its choice:
53.md. -/
def Obligations.DriveFaults : Prop :=
  (∀ (s : State) (c : Configuration) (close : Tick) (timing : TimingSet),
    s.config = some c → s.drive.windowClose = some close → notEarlier s.tick close = true →
    s.drive.state = .locked → s.tracker.timing = some timing →
    s.drive.deviationRun ≤ 2 → s.drive.zeroRun ≤ 1 →
    ¬ InBand timing.encoderCount c.runTolerance s.drive.count →
    (s.drive.count = 0 → s.drive.zeroRun = 1 →
      ∃ t, exec .encoderWindowClose s = .next t
        ∧ ReportTaken (Report.bare .driveLoss) (s.setDrive { s.nextWindow with
            deviationRun := s.drive.deviationRun + 1, zeroRun := 2 }) t)
    ∧ (s.drive.deviationRun = 2 → s.drive.count ≠ 0 →
      ∃ t, exec .encoderWindowClose s = .next t
        ∧ ReportTaken (Report.bare .driveDeviation) (s.setDrive { s.nextWindow with
            deviationRun := 3, zeroRun := 0 }) t)
    ∧ (s.drive.deviationRun = 2 → s.drive.count = 0 → s.drive.zeroRun = 0 →
      ∃ t, exec .encoderWindowClose s = .next t
        ∧ ReportTaken (Report.bare .driveDeviation) (s.setDrive { s.nextWindow with
            deviationRun := 3, zeroRun := 1 }) t))
  ∧ (∀ (s : State) (deadline : Tick), s.drive.lockDeadline = some deadline → notEarlier s.tick deadline = true →
    let d : Drive := { s.drive with lockDeadline := none }
    (s.run.state = .starting →
      ∃ u v w x t, exec .lockTimeout s = .next t ∧ Begun (s.setDrive (d.coast s.tick)) u
        ∧ v.run = { u.run with state := .idle } ∧ KeepsBut [.run] u v ∧ FinishesIf .start .failed 0x202 v w
        ∧ SetExamined w x ∧ Granted x t)
    ∧ (s.run.state = .respeed →
      ∃ u v w x t, exec .lockTimeout s = .next t ∧ Begun (s.setDrive (d.coast s.tick)) u
        ∧ v.run = { u.run with state := .idle, changeStatus := .failed, drainTarget := none }
        ∧ v.attention = u.attention.withE .speedChangeEnd ∧ KeepsBut [.run, .attention] u v
        ∧ FinishesIf .cancelSpeedChange .failed 0 v w ∧ SetExamined w x ∧ Granted x t)
    ∧ (s.run.state ≠ .starting → s.run.state ≠ .respeed →
      ∃ t, exec .lockTimeout s = .next t ∧ ActsOn [.drive] s t ∧ t.drive = d))
  ∧ (∀ (s : State) (deadline : Tick), s.drive.lockDeadline = some deadline → notEarlier s.tick deadline = true →
    s.output.set.state = .empty → s.output.set.condition = .sound →
    let d : Drive := { s.drive with lockDeadline := none }
    (∀ k, s.run.state = .starting → s.run.running = some k → k.code = some .start →
      ∃ t, exec .lockTimeout s = .next t ∧ t.drive = d.coast s.tick
        ∧ t.run = { s.run with state := .idle, command := .done, running := none }
        ∧ t.junction = (s.junction.asked [finishOp k .failed 0x202]).grant ∧ t.pulses = []
        ∧ KeepsBut [.junction, .pulses, .drive, .run] s t)
    ∧ (s.run.state = .respeed → (∀ k, s.run.running = some k → k.code ≠ some .cancelSpeedChange) →
      ∃ t, exec .lockTimeout s = .next t ∧ ActsOn [.drive, .run, .attention] s t ∧ t.drive = d.coast s.tick
        ∧ t.run = { s.run with state := .idle, changeStatus := .failed, drainTarget := none }
        ∧ t.attention = s.attention.withE .speedChangeEnd)
    ∧ (∀ k, s.run.state = .respeed → s.run.running = some k → k.code = some .cancelSpeedChange →
      ∃ t, exec .lockTimeout s = .next t ∧ t.drive = d.coast s.tick
        ∧ t.run = { s.run with
            state := .idle, changeStatus := .failed, drainTarget := none, command := .done, running := none }
        ∧ t.attention = s.attention.withE .speedChangeEnd
        ∧ t.junction = (s.junction.asked [finishOp k .failed 0]).grant ∧ t.pulses = []
        ∧ KeepsBut [.junction, .pulses, .drive, .run, .attention] s t))
  ∧ (∀ (d : Drive) (now : Tick),
    (d.state = .off ∨ d.state = .coasting → d.coast now = d)
    ∧ (d.state = .spinUp ∨ d.state = .locked ∨ d.state = .relock → d.coast now = { d with
        state := .coasting, target := d.current, speed := d.current, enable := false, lockDeadline := none
        count := 0, windowClose := some (now + 1000), inBandRun := 0, deviationRun := 0, zeroRun := 0 })
    ∧ ∀ (code : SpeedCode) (timeout : Nat), d.relockTo now code timeout = { d with
        state := .relock, target := code, speed := code, enable := true
        lockDeadline := some (now + BitVec.ofNat 32 timeout)
        count := 0, windowClose := some (now + 1000), inBandRun := 0, deviationRun := 0, zeroRun := 0 })

/-- The passing of the current slot: the next slot is current, the ring moves on by one entry with a FREE one at its
end, and admission is evaluated; before its transfer time nothing happens. That an expiry not due changes nothing is
the model's reading: notes/assumptions/7.md. -/
def Obligations.SlotPassing : Prop :=
  ∀ (s : State) (g : Grid), s.scheduler.grid = some g →
    (notEarlier s.tick (g.t0 + BitVec.ofNat 32 (g.current * g.pitch)) = true →
      ∃ t ring, exec .slotPasses s = .next t
        ∧ EvaluatedAs (s.setScheduler { s.scheduler with grid := some { g with current := g.current + 1, ring := ring } }) t
        ∧ (g.ring.length = 32 → ring.length = 32 ∧ ring[31]? = some .free ∧ ∀ i, i < 31 → ring[i]? = g.ring[i + 1]?))
    ∧ (notEarlier s.tick (g.t0 + BitVec.ofNat 32 (g.current * g.pitch)) = false →
      ∃ t, exec .slotPasses s = .next t ∧ ActsOn [] s t)

/-- A pick due in RUNNING with the drive LOCKED. With paper in the tray: PICK is pulsed, the sheet is FEEDING and
expected at its tray's sensor from the pulse, and the pick bounds are its own. With the tray empty: every SCHEDULED
sheet is descheduled, its entry to the queue head, oldest first, its ring entries and timers freed, and its copy
withdrawn again where it is broken; the tray's hold is set, and admission, evaluated, waits for it. The order of those
withdrawals, and that they are carried out in the event, are the model's: notes/assumptions/41.md and 13.md. -/
def Obligations.PicksMade : Prop :=
  ∀ (s : State) (h : Handle) (sh : Sheet) (due : Tick),
    (s.timers h).pick = some due → notEarlier s.tick due = true → s.sheet h = some sh → sh.state = .scheduled →
    s.run.state = .running → s.drive.state = .locked →
    (∀ timing, s.lines.trayEmpty[sh.plan.tray] = false → s.tracker.timing = some timing →
      let x := traySensor sh.plan.tray
      ∃ t, exec (.pickDue h) s = .next t ∧ t.pulses = [.pick sh.plan.tray]
        ∧ t.sheet h = some { sh with
            state := .feeding, leg := some (.pick sh.plan.tray), reference := s.tick }
        ∧ (∀ k, k ≠ h → t.sheet k = s.sheet k)
        ∧ t.sensor x = { s.sensor x with
            expectations := insertByOpen (s.expects timing h sh (.pick sh.plan.tray)) (s.sensor x).expectations }
        ∧ (∀ y, y ≠ x → t.sensor y = s.sensor y)
        ∧ t.scheduler = { s.scheduler with
            pickBounds := some ⟨sh.frontSlot, sh.finalSlot, due⟩, timers := t.scheduler.timers }
        ∧ t.timers h = { s.timers h with pick := none } ∧ (∀ k, k ≠ h → t.timers k = s.timers k)
        ∧ t.junction = s.junction.grant ∧ KeepsBut [.junction, .pulses, .scheduler, .tracker] s t)
    ∧ (s.lines.trayEmpty[sh.plan.tray] = true →
      ∃ u v w x t, exec (.pickDue h) s = .next t
        ∧ u.timers h = { s.timers h with pick := none } ∧ (∀ k, k ≠ h → u.timers k = s.timers k)
        ∧ u.scheduler = { s.scheduler with timers := u.scheduler.timers } ∧ u.pulses = []
        ∧ KeepsBut [.scheduler, .pulses] s u ∧ Deschedules u v
        ∧ w.run = { v.run with holds := { v.run.holds with tray := w.run.holds.tray } }
        ∧ w.run.holds.tray[sh.plan.tray] = true
        ∧ (∀ k : Tray, k ≠ sh.plan.tray → w.run.holds.tray[k] = v.run.holds.tray[k])
        ∧ KeepsBut [.run] v w ∧ Evaluates w x ∧ Granted x t)
    ∧ (s.lines.trayEmpty[sh.plan.tray] = true → s.output.broken = [] →
      ∃ t front, exec (.pickDue h) s = .next t ∧ ActsOn [.plan, .scheduler, .tracker, .run] s t
        ∧ t.plan = { s.plan with queue := front ++ s.plan.queue }
        ∧ front.Pairwise (fun a b => a.sequence ≤ b.sequence) ∧ front.Perm s.scheduledPlans
        ∧ (∀ k, t.sheet k = match s.sheet k with
            | some y => if y.state = .scheduled then none else some y
            | none => none)
        ∧ t.tracker.sensors = s.tracker.sensors
        ∧ t.run = { s.run with holds := { s.run.holds with tray := t.run.holds.tray } }
        ∧ t.run.holds.tray[sh.plan.tray] = true
        ∧ (∀ k : Tray, k ≠ sh.plan.tray → t.run.holds.tray[k] = s.run.holds.tray[k])
        ∧ (s.scheduler.grid.isSome = true → t.scheduler.waitReason = .hold)
        ∧ t.scheduler.admissionBounds = s.scheduler.pickBounds
        ∧ t.scheduler.pickBounds = s.scheduler.pickBounds)

/-- The release due and late release timers in RUNNING or DRAINING with the drive LOCKED: a HELD sheet whose earliest
release has come is released at once, one whose has not gets a late release, and a sheet not yet at LH a pending one;
the expiry of a late release releases the HELD sheet. -/
def Obligations.HoldReleases : Prop :=
  ∀ (s : State) (c : Configuration) (h : Handle) (sh : Sheet) (due : Tick),
    s.config = some c → s.sheet h = some sh → s.run.state = .running ∨ s.run.state = .draining →
    s.drive.state = .locked → notEarlier s.tick due = true →
    ((s.timers h).release = some due →
      (∀ a timing, sh.state = .held → (s.timers h).arrival = some a → s.tracker.timing = some timing →
        notEarlier s.tick (a + BitVec.ofNat 32 c.minimumDwell) = true →
        ∃ t, exec (.releaseDue h) s = .next t ∧ ReleasedAs s timing h sh t
          ∧ t.timers h = { s.timers h with release := none })
      ∧ (∀ a, sh.state = .held → (s.timers h).arrival = some a →
        notEarlier s.tick (a + BitVec.ofNat 32 c.minimumDwell) = false →
        ∃ t, exec (.releaseDue h) s = .next t ∧ ActsOn [.scheduler] s t
          ∧ t.scheduler = { s.scheduler with timers := t.scheduler.timers }
          ∧ t.timers h = { s.timers h with release := none, late := some (a + BitVec.ofNat 32 c.minimumDwell) }
          ∧ (∀ k, k ≠ h → t.timers k = s.timers k))
      ∧ (sh.state = .feeding ∨ sh.state = .approach ∨ sh.state = .printing ∨ sh.state = .looping →
        ∃ t, exec (.releaseDue h) s = .next t ∧ ActsOn [.scheduler] s t
          ∧ t.scheduler = { s.scheduler with timers := t.scheduler.timers }
          ∧ t.timers h = { s.timers h with release := none, latePending := true }
          ∧ (∀ k, k ≠ h → t.timers k = s.timers k)))
    ∧ ((s.timers h).late = some due → sh.state = .held → ∀ timing, s.tracker.timing = some timing →
        ∃ t, exec (.lateRelease h) s = .next t ∧ ReleasedAs s timing h sh t
          ∧ t.timers h = { s.timers h with late := none })

/-- The expiry of a window close is LATE: in STOPPING the expectation stays with its timer ended and a later cause is
taken; in a run the expectation leaves its sensor and LATE is a stop cause, which scatters a set in flight; elsewhere
the set's expectation leaves, a set in flight is scattered and the set fails, and a sheet's only has its timer ended.
The expiry of a cover timer is STALL, of a sheet where sheet queues are judged and of the set in every state. Neither
does anything before it is due. That last, the order within the event, a stop's, and the sequence of a STALL whose sheet
has left and of a set without members are the model's: notes/assumptions/7.md, 43.md, 15.md, 49.md and 52.md. -/
def Obligations.LateAndStall : Prop :=
  ∀ (s : State) (x : Sensor),
    (∀ (e : Expectation) (i : Item), e ∈ (s.sensor x).expectations → e.item = i → e.armed = true →
      notEarlier s.tick e.closes = true →
      let r : Report := ⟨.late, some x, s.sequenceNamed i, i == .set⟩
      let left := s.putSensor x { s.sensor x with
        expectations := (s.sensor x).expectations.filter (fun f => f.item != i) }
      let ended := s.putSensor x { s.sensor x with
        expectations := (s.sensor x).expectations.map (fun f => if f.item = i then { f with armed := false } else f) }
      let scatters := fun u v : State =>
        (s.output.set.flies → Disturbs True .late u v) ∧ (¬ s.output.set.flies → KeepsBut [] u v)
      (s.run.state = .stopping → ∃ t, exec (.windowExpiry x i) s = .next t ∧ ReportTaken r ended t)
      ∧ (s.run.state.runs = true → ∃ u v w t, exec (.windowExpiry x i) s = .next t ∧ Begun left u ∧ Reported r u v
          ∧ (i = .set → scatters v w) ∧ (i ≠ .set → KeepsBut [] v w) ∧ Granted w t)
      ∧ (s.run.state.judgesSheets = false →
        (i = .set → ∃ u v w t, exec (.windowExpiry x i) s = .next t ∧ Begun left u ∧ scatters u v ∧ SetFails r v w
          ∧ Granted w t)
        ∧ (i ≠ .set → ∃ u t, exec (.windowExpiry x i) s = .next t ∧ Begun ended u ∧ Granted u t)))
    ∧ (∀ i, (∀ e ∈ (s.sensor x).expectations, e.item = i → e.armed = true → notEarlier s.tick e.closes = false) →
      ∃ t, exec (.windowExpiry x i) s = .next t ∧ ActsOn [] s t)
    ∧ (∀ due i, (s.sensor x).coverTimer = some due → notEarlier s.tick due = true →
      (s.sensor x).occupant.item = some i →
      let ended := s.putSensor x { s.sensor x with coverTimer := none }
      (s.run.state.judgesSheets = true ∨ i = .set →
        ∃ t, exec (.stall x) s = .next t ∧ FaultTaken ⟨.stall, some x, s.sequenceNamed i, i == .set⟩ ended t)
      ∧ (s.run.state.judgesSheets = false → i ≠ .set →
        ∃ u t, exec (.stall x) s = .next t ∧ Begun ended u ∧ Granted u t))
    ∧ (∀ due, (s.sensor x).coverTimer = some due → notEarlier s.tick due = false →
      ∃ t, exec (.stall x) s = .next t ∧ ActsOn [] s t)

/-- The expiry of the grace deadline: every live sheet is STRANDED, every expectation and cover timer cancelled and
every occupant UNTRACKED, a set in flight is SCATTERED, the jam record is handed over and kept as the last, STOP is
raised, and the part is STOPPED. -/
def Obligations.GraceExpires : Prop :=
  ∀ (s : State) (due : Tick), s.run.state = .stopping → s.run.graceDeadline = some due →
    notEarlier s.tick due = true →
    ∃ u v t, exec .graceExpiry s = .next t ∧ Begun s u ∧ GraceEnds u v ∧ Granted v t
      ∧ t.run.state = .stopped ∧ t.run.graceDeadline = none ∧ t.attention.e.stop = true ∧ t.attention.lineE = true
      ∧ (∀ j, s.run.jam = some j → t.run.lastJam = some j ∧ t.run.jam = none)

/-! ## The memory path (chapters 3, 10 and 11) -/

/-- Accesses outside the guard: in PASS-ALL, and where no enabled descriptor contains the address, an access passes
(R179); where some contains it and none admits it, it is denied (PERMISSION). A read and a PLAIN write pass where a
descriptor other than VIEW applies. An E-port write of 1 or 2 into the ACTIVATE word carries an anchor event (R185).
That an access before the last one was answered is not taken is the model's reading: notes/assumptions/7.md. -/
def Obligations.AccessesJudged : Prop :=
  (∀ (s : State) (p : Port) (a : Access), s.Presents p a →
    let passes := fun events => ∃ t, exec (.upstreamAccess p a) s = .next t ∧ PassesWith s p a a.cells events t
    let free := s.config = none ∨ ∃ c, s.config = some c
      ∧ (¬ c.Contains a ∨ ∃ d, c.Applies p a d ∧ d.kind = some .plain)
    (a.write = true → free → p = .E → a.writes 0xFFFFF04 1 → passes [.anchor .activate])
    ∧ (a.write = true → free → p = .E → a.writes 0xFFFFF04 2 → passes [.anchor .deactivate])
    ∧ (a.write = true → free → (p = .E → ¬ a.writes 0xFFFFF04 1 ∧ ¬ a.writes 0xFFFFF04 2) → passes [])
    ∧ (a.write = false → free → passes [])
    ∧ (∀ c d, s.config = some c → c.Applies p a d → a.write = false → d.kind ≠ some .view → passes [])
    ∧ (∀ c, s.config = some c → c.Contains a → (∀ d, ¬ c.Applies p a d) →
        ∃ t, exec (.upstreamAccess p a) s = .next t ∧ Violates s p a .permission t))
  ∧ (∀ (s : State) (p : Port) (a : Access), a.wf = true → s.junction.access p ≠ none →
    ∃ t, exec (.upstreamAccess p a) s = .next t ∧ ActsOn [] s t)

/-- The write guard: a write into PLAN, TAG, BUFFER or LOG is blocked with the guard on where its rule says so, and
passes otherwise with the events its window's rule gives. That tag slots from 64 on, of which there is no buffer, carry
no event is the model's reading: notes/assumptions/12.md. -/
def Obligations.GuardedWrites : Prop :=
  ∀ (s : State) (c : Configuration) (d : Descriptor) (p : Port) (a : Access),
    s.config = some c → s.Presents p a → a.write = true → c.Applies p a d →
    let passes := fun events => ∃ t, exec (.upstreamAccess p a) s = .next t ∧ PassesWith s p a a.cells events t
    let blocked := fun cause => ∃ t, exec (.upstreamAccess p a) s = .next t ∧ Violates s p a cause t
    let i := (a.addr.toNat - d.base) / 32
    let b := (a.addr.toNat - d.base) / 2 ^ c.bufferSizeLog2
    (d.kind = some .plan →
      let held := s.plan.slots[i]? = some .pending ∨ s.plan.slots[i]? = some .taken
      (s.junction.guardOn = true ∧ held → blocked .planGuard)
      ∧ (¬ (s.junction.guardOn = true ∧ held) →
          (∀ n : Fin 256, n.val = i → i < c.planSlots → a.writes (d.base + 32 * i + 28) 1 → passes [.commit n])
          ∧ ((¬ i < c.planSlots ∨ ¬ a.writes (d.base + 32 * i + 28) 1) → passes [])))
    ∧ (d.kind = some .tag →
      let shut := ∃ x, a.touchesTag d.base x ∧ ¬ s.Open c x
      (s.junction.guardOn = true ∧ shut → blocked .tagGuard)
      ∧ (¬ (s.junction.guardOn = true ∧ shut) → ∃ events, passes events ∧ events.Nodup
          ∧ ∀ e, e ∈ events ↔ p = .P ∧ ∃ n : BufferNo, e = .tagCommit n ∧ a.touchesTag d.base n.val
              ∧ a.writes (d.base + 16 * n.val + 12) 1))
    ∧ (d.kind = some .buffer →
      (s.junction.guardOn = true ∧ ¬ (p = .P ∧ s.Open c b) → blocked .bufferGuard)
      ∧ (¬ (s.junction.guardOn = true ∧ ¬ (p = .P ∧ s.Open c b)) → passes []))
    ∧ (d.kind = some .log →
      let elsewhere := d.base + 4 < a.addr.toNat + a.size.bytes
      (s.junction.guardOn = true ∧ elsewhere → blocked .logGuard)
      ∧ (¬ (s.junction.guardOn = true ∧ elsewhere) →
          ((∃ x v, d.base ≤ x ∧ x < d.base + 4 ∧ a.writes x v) → ∃ w m, passes [.consumer w m]
            ∧ ∀ n : Fin 4, (m.getLsbD n.val = true ↔ ∃ v, a.writes (d.base + n.val) v)
              ∧ ∀ v, a.writes (d.base + n.val) v → w.extractLsb' (8 * n.val) 8 = v)
          ∧ ((∀ x v, d.base ≤ x → x < d.base + 4 → ¬ a.writes x v) → passes [])))

/-- Writes into COMMAND and VIEW, with the guard on or off: the state and result bytes of the command block are
dropped and the others pass, with a code event when a nonzero byte of the code word is written; a write of dropped
bytes alone, and a view write, are answered OKAY with nothing done, but for a P-port abandon of a FILLING buffer; a
burst into VIEW is a violation. That the unused bytes of the COMMAND window pass is the model's reading:
notes/assumptions/11.md. -/
def Obligations.CommandAndViewWrites : Prop :=
  ∀ (s : State) (c : Configuration) (d : Descriptor) (p : Port) (a : Access),
    s.config = some c → s.Presents p a → c.Applies p a d →
    (a.write = true → d.kind = some .command →
      let kept := a.cells.filter (fun x => decide (x.1 < d.base + 12) || decide (d.base + 20 ≤ x.1))
      let coded := ∃ x v, d.base + 28 ≤ x ∧ x < d.base + 32 ∧ a.writes x v ∧ v ≠ 0
      (kept ≠ [] → coded → ∃ t, exec (.upstreamAccess p a) s = .next t ∧ PassesWith s p a kept [.code] t)
      ∧ (kept ≠ [] → ¬ coded → ∃ t, exec (.upstreamAccess p a) s = .next t ∧ PassesWith s p a kept [] t)
      ∧ (kept = [] → ∃ t, exec (.droppedWrite p a) s = .next t ∧ AnsweredBy s p [] t))
    ∧ (a.write = true → d.kind = some .view → a.size ≠ .burst →
      ((p = .E ∨ ∀ v, ¬ a.writes (d.base + 8) v) → ∃ t, exec (.droppedWrite p a) s = .next t ∧ AnsweredBy s p [] t)
      ∧ (∀ v, p = .P → a.writes (d.base + 8) v →
          (∀ b : BufferNo, v = BitVec.ofNat 8 b.val → b.val < c.bufferCount → (s.buffer b).state = .filling →
            ∃ t, exec (.abandon a) s = .next t
              ∧ t.buffer b = Buffer.free ∧ (∀ k, k ≠ b → t.buffer k = s.buffer k)
              ∧ t.buffers.claimWaiting = false
              ∧ t.attention = (if s.buffers.claimWaiting then
                  { s.attention with p := s.attention.p.add .bufferAvailable, lineP := true } else s.attention)
              ∧ ActsOn [.buffers, .attention] (s.setJunction (s.junction.setResponse .P (some ⟨true, []⟩))) t)
          ∧ ((∀ b : BufferNo, v = BitVec.ofNat 8 b.val → b.val < c.bufferCount → (s.buffer b).state ≠ .filling) →
            ∃ t, exec (.abandon a) s = .next t ∧ AnsweredBy s .P [] t)))
    ∧ (d.kind = some .view → a.size = .burst →
      ∃ t, exec (.upstreamAccess p a) s = .next t ∧ Violates s p a .viewBurst t)

/-- The completion of the access that holds the M-port: its bytes, and no others, are in memory; a read is answered
with the bytes at its addresses; the response is OKAY and the port is released. The events it carries are then taken,
in the same event and before anything else: one event as its own row takes it, and the two tag commits of a burst one
after the other. The free port is then granted to the winner of the arbiter's mode: ROTATING the first that waits in
the cycle E, P, agent from the rotation, which then starts just after it; FIXED the agent, then E, then P. With the port
held or nobody waiting nothing changes. That all beats are made at the completion is the model's choice:
notes/assumptions/30.md; that the events are taken in the completion's own event is its reading: 5.md; which of a
burst's two comes first is 48.md. -/
def Obligations.AccessCompletes : Prop :=
  (∀ (s : State) (p : Port) (f : InFlight) (keep : Nat → Bool), Memory.wf s.memory = true →
    s.junction.holder = some p.requester → s.junction.access p = some f → f.access.wf = true →
    f.bytes = f.access.cells.filter (fun x => keep x.1) →
    ∃ u data,
      (u.junction = { (s.junction.setAccess p none).setResponse p (some ⟨true, data⟩) with holder := none }
        ∧ (∀ x v, f.access.writes x v → keep x = true → Memory.read u.memory x = v)
        ∧ (∀ x, (∀ v, f.access.writes x v → keep x = false) → Memory.read u.memory x = Memory.read s.memory x)
        ∧ (f.access.write = true → data = [])
        ∧ (f.access.write = false → data.length = f.access.size.bytes
            ∧ ∀ i, i < f.access.size.bytes → data[i]? = some (Memory.read s.memory (f.access.addr.toNat + i)))
        ∧ u.pulses = [] ∧ KeepsBut [.memory, .junction, .pulses] s u)
      ∧ (f.events = [] → ∃ t, exec .accessComplete s = .next t ∧ ActsOn [] u t)
      ∧ (∀ e, f.events = [e] → ∃ t v, exec .accessComplete s = .next t ∧ exec e.command u = .next v ∧ KeepsBut [] v t)
      ∧ (∀ b k : BufferNo, f.events = [.tagCommit b, .tagCommit k] → b ≠ k → s.run.state ≠ .inactive →
          (∀ n x, .tagWrite n x ∉ s.junction.agentQueue) →
          let answer := fun n : BufferNo =>
            if (s.buffer n).state = .filling then RecordOp.tagFetch n else .tagWrite n .refusedState
          ∃ t, exec .accessComplete s = .next t
            ∧ t.junction = (u.junction.asked [answer b, answer k]).grant ∧ t.pulses = []
            ∧ (∀ n, t.buffer n = if (n = b ∨ n = k) ∧ (s.buffer n).state = .filling then
                { s.buffer n with state := .closing } else s.buffer n)
            ∧ t.buffers.claimWaiting = s.buffers.claimWaiting
            ∧ KeepsBut [.junction, .pulses, .buffers] u t))
  ∧ (∀ j : Junction,
    let waits : Requester → Prop := fun r => match r with
      | .E => j.accessE ≠ none
      | .P => j.accessP ≠ none
      | .agent => j.agentQueue ≠ []
    let after : Requester → Requester := fun r => match r with | .E => .P | .P => .agent | .agent => .E
    let first := fun (a b c r : Requester) =>
      waits r ∧ (r = a ∨ (r = b ∧ ¬ waits a) ∨ (r = c ∧ ¬ waits a ∧ ¬ waits b))
    (j.holder ≠ none → j.grant = j)
    ∧ ((∀ r, ¬ waits r) → j.grant = j)
    ∧ (∀ r, j.holder = none → j.arbiter = .rotating →
        first j.rotation (after j.rotation) (after (after j.rotation)) r →
        j.grant = { j with holder := some r, rotation := after r })
    ∧ (∀ r, j.holder = none → j.arbiter = .fixed → first .agent .E .P r → j.grant = { j with holder := some r }))

/-- A P-port read of the CLAIM cell gives the lowest FREE buffer below the configured count and makes it FILLING, or
answers 0xFE with 16 buffers open and 0xFF with none FREE and sets claim-waiting; an E-port read gives the same buffer
and changes nothing. A read of a summary by its own port shows its conditions, removes them and lowers its line, and by
the other port shows them and clears nothing; a read of the capture's second word shows the latch and empties it; a read
that includes no such byte changes nothing. Every other cell shows the part as it stands, field by field; the pending
list counts the record in flight (notes/assumptions/50.md). What the cells show for an absent value, and the layouts of
the tables whose fields lie in a rule's order, are as in 3.md, which leaves open, and this statement leaves out, a live
sheet's state code, its current leg while that is a pick, and the fields of a FREE entry. -/
def Obligations.ViewReads : Prop :=
  (∀ (s : State) (c : Configuration) (d : Descriptor) (p : Port) (a : Access), ViewRead s c d p a 4 →
    let isFree := fun b : BufferNo => b.val < c.bufferCount ∧ (s.buffer b).state = .free
    let openCount := (s.buffers.table.toList.filter (fun x => x.state == .filling || x.state == .closing)).length
    let only := fun (t : State) => KeepsBut [.junction, .pulses, .buffers] s t ∧ t.pulses = []
      ∧ ∃ data, t.junction = (s.junction.setResponse p (some ⟨true, data⟩)).grant
    (p = .P → (∀ b, ¬ isFree b) → ∃ t, exec (.claim a) s = .next t ∧ only t ∧ ShowsByte t d p a 4 0xFF
      ∧ t.buffers = { s.buffers with claimWaiting := true })
    ∧ (∀ b, p = .P → isFree b → openCount = 16 → ∃ t, exec (.claim a) s = .next t ∧ only t ∧ ShowsByte t d p a 4 0xFE
      ∧ t.buffers = { s.buffers with claimWaiting := true })
    ∧ (∀ b, p = .P → isFree b → (∀ k, k < b → ¬ isFree k) → openCount < 16 →
      ∃ t, exec (.claim a) s = .next t ∧ only t ∧ ShowsByte t d p a 4 (BitVec.ofNat 8 b.val)
        ∧ t.buffer b = { Buffer.free with state := .filling } ∧ (∀ k, k ≠ b → t.buffer k = s.buffer k)
        ∧ t.buffers.claimWaiting = false)
    ∧ (p = .E → (∀ b, ¬ isFree b) → ∃ t, exec (.claimInspection a) s = .next t ∧ only t ∧ ShowsByte t d p a 4 0xFF
      ∧ t.buffers = s.buffers)
    ∧ (∀ b, p = .E → isFree b → (∀ k, k < b → ¬ isFree k) →
      ∃ t, exec (.claimInspection a) s = .next t ∧ only t ∧ ShowsByte t d p a 4 (BitVec.ofNat 8 b.val)
        ∧ t.buffers = s.buffers))
  ∧ (∀ (s : State) (c : Configuration) (d : Descriptor) (p : Port) (a : Access),
    let bit := fun (b : Bool) (i : Nat) => if b then 2 ^ i else 0
    let only := fun (j : Junction) (t : State) => KeepsBut [.junction, .pulses, .attention] s t ∧ t.pulses = []
      ∧ ∃ data, t.junction = (j.setResponse p (some ⟨true, data⟩)).grant
    (p = .E → ViewRead s c d p a 0x0C →
      let e := s.attention.e
      ∃ t, exec (.summaryRead p a) s = .next t ∧ only s.junction t
        ∧ ShowsByte t d p a 0x0C (BitVec.ofNat 8 (bit e.commandDone 0 + bit e.stop 1 + bit e.speedChangeEnd 2
            + bit e.logRecord 3 + bit e.logOverrun 4 + bit e.capture 5))
        ∧ t.attention = { s.attention with e := ESummary.empty, lineE := false })
    ∧ (p = .P → ViewRead s c d p a 0x10 →
      ∃ t, exec (.summaryRead p a) s = .next t ∧ only s.junction t
        ∧ ShowsByte t d p a 0x10 (BitVec.ofNat 8 (bit s.attention.p.bufferAvailable 0 + bit s.attention.p.capture 1))
        ∧ t.attention = { s.attention with p := PSummary.empty, lineP := false })
    ∧ (ViewRead s c d p a 0x18 →
      ∃ t, exec (.captureRearm p a) s = .next t ∧ only { s.junction with latch := none } t
        ∧ t.attention = s.attention
        ∧ (∀ x, s.junction.latch = some x → ShowsByte t d p a 0x18 (BitVec.ofNat 8 x.cause.code))
        ∧ (s.junction.latch = none → ShowsByte t d p a 0x18 0))
    ∧ (p = .P → ViewRead s c d p a 0x0C →
      let e := s.attention.e
      ∃ t data, exec (.upstreamAccess p a) s = .next t ∧ AnsweredBy s p data t
        ∧ ShowsByte t d p a 0x0C (BitVec.ofNat 8 (bit e.commandDone 0 + bit e.stop 1 + bit e.speedChangeEnd 2
            + bit e.logRecord 3 + bit e.logOverrun 4 + bit e.capture 5)))
    ∧ (p = .E → ViewRead s c d p a 0x10 →
      ∃ t data, exec (.upstreamAccess p a) s = .next t ∧ AnsweredBy s p data t
        ∧ ShowsByte t d p a 0x10
            (BitVec.ofNat 8 (bit s.attention.p.bufferAvailable 0 + bit s.attention.p.capture 1)))
    ∧ (∀ o, ViewRead s c d p a o → (p = .P → ¬ a.shows d.base 4 ∧ ¬ a.shows d.base 0x10) →
      (p = .E → ¬ a.shows d.base 0x0C) → ¬ a.shows d.base 0x18 →
      ∃ t data, exec (.upstreamAccess p a) s = .next t ∧ AnsweredBy s p data t ∧ data.length = a.size.bytes))
  ∧ (∀ (s : State) (c : Configuration) (d : Descriptor),
    let at' := Shows s c d
    let flag := fun b : Bool => if b then 1 else 0
    let tick : Option Tick → Nat := fun x => match x with | some t => t.toNat | none => 0
    let handle : Option Handle → Nat := fun x => match x with | some h => h.val | none => 0xFF
    let copy := fun (o : Nat) (x : Option Copy) =>
      at' o 4 (match x with | some a => a.statement | none => 0)
        ∧ at' (o + 4) 4 (match x with | some a => a.opening | none => 0)
    let jam := fun (o q w : Nat) (x : Option Jam) =>
      at' q 4 (match x with | some j => j.sequence.getD 0 | none => 0)
        ∧ at' w 4 (match x with | some j => j.time.toNat | none => 0)
        ∧ at' o 1 (match x with | some j => j.cause.code | none => 0)
        ∧ at' (o + 1) 1 (match x with | some j => sensorCode j.sensor | none => 0)
        ∧ at' (o + 2) 1 (match x with | some j => flag j.setMark + 2 * flag j.multiple | none => 0)
        ∧ at' (o + 3) 1 (match x with | some ⟨_, _, _, _, _, some y, _⟩ => y.1.code | _ => 0)
        ∧ at' (o + 4) 1 (match x with | some ⟨_, _, _, _, _, some y, _⟩ => sensorCode y.2 | _ => 0)
    let loop : LoopPosition → Nat := fun x => match x with | .loop => 1 | .out => 2
    let route : Route → Nat := fun x => match x with | .accumulate => 1 | .k1 => 2 | .k2 => 3 | .purge => 4
    let stacker : Stacker → Nat := fun x => match x with | .k1 => 1 | .k2 => 2
    let jog : JogLevel → Nat := fun x => match x with | .home => 0 | .offset => 1
    -- the cells at the base
    (at' 0x000 4 s.tick.toNat ∧ at' 0x005 3 0 ∧ at' 0x008 4 0 ∧ at' 0x00D 3 0 ∧ at' 0x011 3 0
      ∧ at' 0x014 4 (match s.junction.latch with | some x => x.address.toNat | none => 0)
      ∧ at' 0x019 1 (match s.junction.latch with
          | some x => flag (x.port == .P) + 2 * flag x.write + 4 * flag x.more + 128
          | none => 0)
      ∧ at' 0x01A 2 0 ∧ at' 0x01C 4 s.junction.lastResult.toNat)
    -- the part state
    ∧ (at' 0x020 4 (match s.scheduler.grid with | some g => g.t0.toNat | none => 0)
      ∧ at' 0x024 4 (match s.scheduler.grid with | some g => g.current | none => 0)
      ∧ at' 0x028 4 (match s.scheduler.admissionBounds with | some b => b.front | none => 0xFFFFFFFF)
      ∧ at' 0x02C 4 (match s.scheduler.admissionBounds with | some b => b.final | none => 0xFFFFFFFF)
      ∧ at' 0x030 4 (match s.tracker.timing with | some t => t.pitch | none => 0)
      ∧ at' 0x034 4 (tick s.run.graceDeadline) ∧ at' 0x038 4 (tick s.drive.lockDeadline)
      ∧ at' 0x03C 4 (tick s.drive.windowClose) ∧ at' 0x040 4 s.drive.count ∧ at' 0x044 4 s.drive.lastCount)
    ∧ (at' 0x048 4 (match s.run.running with | some r => r.operand1.toNat | none => 0)
      ∧ at' 0x04C 4 (match s.run.running with | some r => r.operand2.toNat | none => 0)
      ∧ at' 0x050 4 (match s.run.running with | some r => r.operand3.toNat | none => 0)
      ∧ at' 0x054 4 (match s.plan.queue with | e :: _ => e.sequence | [] => 0)
      ∧ at' 0x058 4 s.plan.lastAccepted
      ∧ at' 0x05C 4 (match s.plan.tail with | some x => x.statement | none => 0)
      ∧ at' 0x060 4 s.log.producer.toNat ∧ at' 0x064 4 s.log.consumer.toNat
      ∧ at' 0x068 4 (c.logEntries - (s.log.producer - s.log.consumer).toNat)
      ∧ jam 0x0A3 0x06C 0x070 s.run.jam ∧ jam 0x0A8 0x074 0x078 s.run.lastJam
      ∧ at' 0x07C 2 (match s.plan.tail with | some x => x.k | none => 0)
      ∧ at' 0x07E 2 (match s.plan.tail with | some x => x.n | none => 0)
      ∧ at' 0x080 2 s.plan.queue.length ∧ at' 0x082 2 (s.log.inFlight.toList.length + s.log.waiting.length) ∧ at' 0x084 2 c.stopGrace
      ∧ at' 0x086 2 0)
    ∧ (at' 0x088 1 s.run.state.code
      ∧ at' 0x089 1 (match s.drive.state with
          | .off => 0 | .spinUp => 1 | .locked => 2 | .relock => 3 | .coasting => 4)
      ∧ at' 0x08A 1 s.drive.current.val ∧ at' 0x08B 1 s.drive.target.val ∧ at' 0x08C 1 s.drive.inBandRun
      ∧ at' 0x08D 1 s.drive.deviationRun ∧ at' 0x08E 1 s.drive.zeroRun
      ∧ at' 0x08F 1 (match s.run.changeStatus with
          | .none => 0 | .draining => 1 | .relocking => 2 | .returning => 3 | .done => 4 | .cancelled => 5
          | .failed => 6 | .aborted => 7)
      ∧ at' 0x090 1 (match s.run.drainTarget with | some x => x.val | none => 0xFF)
      ∧ at' 0x091 1 (match s.run.command with | .idle => 0 | .accepted => 1 | .done => 2)
      ∧ at' 0x092 1 (match s.run.running with | some ⟨some x, _, _, _, _⟩ => x.code | _ => 0)
      ∧ at' 0x093 1 (match s.run.running with | some r => flag r.overrun | none => 0)
      ∧ at' 0x094 1 (let f := s.run.holds
          flag f.tray[(0 : Tray)] + 2 * flag f.tray[(1 : Tray)] + 4 * flag f.tray[(2 : Tray)]
            + 8 * flag f.tray[(3 : Tray)] + 16 * flag f.operator + 32 * flag f.stackersFull + 64 * flag f.purgeFull)
      ∧ at' 0x095 1 (match s.scheduler.waitReason with
          | .notRunning => 1 | .queueEmpty => 2 | .hold => 3 | .liveLimit => 4 | .logReserve => 5 | .horizon => 6)
      ∧ at' 0x096 1 (match s.tracker.timing with | some t => t.loopPitches | none => 0)
      ∧ at' 0x097 1 (match s.tracker.timing with | some t => t.setGap | none => 0))
    ∧ (at' 0x098 1 s.liveCount
      ∧ at' 0x099 1 (s.buffers.table.toList.filter (fun x => x.state == .filling || x.state == .closing)).length
      ∧ at' 0x09A 1 (flag s.buffers.claimWaiting) ∧ at' 0x09B 1 (flag s.log.inFlight.isSome)
      ∧ at' 0x09C 1 (flag s.log.overrun) ∧ at' 0x09D 1 (flag s.run.clearanceMark) ∧ at' 0x09E 1 s.run.outstanding
      ∧ at' 0x09F 1 (flag s.junction.guardOn)
      ∧ at' 0x0A0 1 (match s.junction.arbiter with | .rotating => 0 | .fixed => 1)
      ∧ at' 0x0A1 1 (match s.junction.rotation with | .E => 0 | .P => 1 | .agent => 2)
      ∧ at' 0x0A2 1 (flag s.junction.anchorFlag) ∧ at' 0x0AD 19 0)
    -- the buffer table
    ∧ (∀ b : BufferNo,
      let o := 0x0C0 + 16 * b.val
      let x := s.buffer b
      at' o 4 (match x.tag with | some t => t.statement | none => 0)
        ∧ at' (o + 4) 2 (match x.tag with | some t => t.sheet | none => 0)
        ∧ at' (o + 6) 1 x.state.code
        ∧ at' (o + 7) 1 (match x.tag with
            | some t => (match t.side with | .front => 1 | .back => 2 | .any => 3)
            | none => 0)
        ∧ at' (o + 8) 1 x.count ∧ at' (o + 9) 1 (flag x.persistent) ∧ at' (o + 10) 1 (flag x.replay)
        ∧ at' (o + 11) 5 0)
    -- the sheet table
    ∧ (∀ (h : Handle) (sh : Sheet), s.sheet h = some sh →
      let o := 0x4C0 + 64 * h.val
      at' o 4 sh.plan.sequence ∧ at' (o + 4) 1 sh.plan.slot ∧ at' (o + 8) 4 sh.plan.opening
        ∧ at' (o + 12) 4 sh.plan.statement ∧ at' (o + 16) 2 sh.plan.k ∧ at' (o + 18) 2 sh.plan.n
        ∧ at' (o + 20) 1 (sh.plan.tray.val + 1) ∧ at' (o + 21) 1 sh.plan.media.val
        ∧ at' (o + 22) 1 (match sh.plan.sides with | .simplex => 1 | .duplex => 2)
        ∧ at' (o + 23) 1 (match sh.plan.front with | some b => b.val | none => 0xFF)
        ∧ at' (o + 24) 1 (match sh.plan.back with | some b => b.val | none => 0xFF)
        ∧ at' (o + 25) 1 (match sh.plan.mode with | .set => 1 | .direct => 2)
        ∧ at' (o + 26) 1 (flag sh.plan.breakFlag) ∧ at' (o + 27) 1 sh.pass
        ∧ at' (o + 28) 4 sh.frontSlot ∧ at' (o + 32) 4 (sh.backSlot.getD 0) ∧ at' (o + 36) 4 sh.finalSlot
        ∧ (sh.leg = none → at' (o + 41) 1 0) ∧ (∀ l : Leg, sh.leg = some (.leg l) → at' (o + 41) 1 (l.val + 1))
        ∧ at' (o + 5) 3 0 ∧ at' (o + 42) 2 0 ∧ at' (o + 55) 1 0 ∧ at' (o + 60) 4 0
        ∧ at' (o + 44) 4 sh.reference.toNat ∧ at' (o + 48) 1 (sensorCode sh.lastSensor)
        ∧ at' (o + 49) 1 (match sh.route with | some r => route r | none => 0)
        ∧ at' (o + 50) 1 (flag sh.frontFaulted) ∧ at' (o + 51) 1 (flag sh.backFaulted)
        ∧ at' (o + 52) 1 (flag sh.broken) ∧ at' (o + 53) 1 (flag sh.halted) ∧ at' (o + 54) 1 (flag sh.covering)
        ∧ at' (o + 56) 4 sh.coverStart.toNat)
    -- the sensors and the set places
    ∧ (∀ x : Sensor,
      let o := 0x8C0 + 16 * (sensorCode (some x) - 1)
      let r := s.sensor x
      at' o 4 (match r.expectations with | e :: _ => e.opens.toNat | [] => 0)
        ∧ at' (o + 4) 4 (match r.expectations with | e :: _ => e.closes.toNat | [] => 0)
        ∧ at' (o + 8) 1 (flag r.covered)
        ∧ at' (o + 9) 1 (match r.occupant with
            | .sheet h => h.val | .set => 0x10 | .untracked => 0xFE | .none => 0xFF)
        ∧ at' (o + 10) 1 (r.expectations.filter (fun e => e.item != .set)).length
        ∧ at' (o + 11) 1 (match r.expectations with
            | e :: _ => (match e.item with | .sheet h => h.val | .set => 0x10)
            | [] => 0xFF)
        ∧ at' (o + 12) 4 0)
    ∧ (let place := fun (o : Nat) (x : Sensor) =>
        let first := (s.sensor x).expectations.find? (fun e => e.item == .set)
        (first = none → at' o 16 0)
          ∧ (∀ e, first = some e → at' o 4 e.opens.toNat ∧ at' (o + 4) 4 e.closes.toNat ∧ at' (o + 8) 4 e.coverMin
              ∧ at' (o + 12) 4 e.coverMax)
      place 0x9B0 .K1 ∧ place 0x9C0 .K2 ∧ place 0x9D0 .PB)
    -- the output unit
    ∧ (let o := s.output
      copy 0x9E0 (o.latest.map (fun x => x.1)) ∧ copy 0x9E8 (o.committed.map (fun x => x.1))
        ∧ copy 0x9F0 (o.top1.map (fun x => x.1)) ∧ copy 0x9F8 (o.top2.map (fun x => x.1)) ∧ copy 0xA00 o.set.copy
        ∧ at' 0xA08 2 (match o.top1 with | some x => x.2 | none => 0)
        ∧ at' 0xA0A 2 (match o.top2 with | some x => x.2 | none => 0) ∧ at' 0xA0C 2 o.set.n
        ∧ at' 0xA0E 1 (loop o.loopGate.position) ∧ at' 0xA0F 1 (handle o.loopGate.holder)
        ∧ at' 0xA10 1 (flag o.loopGate.cleared)
        ∧ at' 0xA11 1 (match o.loopGate.pending with | some x => loop x.1 | none => 0)
        ∧ at' 0xA12 1 (handle (o.loopGate.pending.map (fun x => x.2)))
        ∧ at' 0xA13 1 (route o.routeGate.position) ∧ at' 0xA14 1 (handle o.routeGate.holder)
        ∧ at' 0xA15 1 (flag o.routeGate.cleared)
        ∧ at' 0xA16 1 (match o.routeGate.pending with | some x => route x.1 | none => 0)
        ∧ at' 0xA17 1 (handle (o.routeGate.pending.map (fun x => x.2)))
        ∧ at' 0xA18 1 (stacker o.active)
        ∧ at' 0xA19 1 (match o.selection with | some k => stacker k | none => 0)
        ∧ at' 0xA1A 1 (match o.latest with | some x => flag x.2 | none => 0)
        ∧ at' 0xA1B 1 (match o.committed with | some x => stacker x.2 | none => 0)
        ∧ at' 0xA1C 1 (jog o.jog1) ∧ at' 0xA1D 1 (jog o.jog2)
        ∧ at' 0xA1E 1 (match o.set.state with
            | .empty => 0 | .collecting => 1 | .complete => 2 | .ejecting => 3 | .dumping => 4)
        ∧ at' 0xA1F 1 (flag o.set.breakFlag) ∧ at' 0xA20 1 (flag o.set.broken)
        ∧ at' 0xA21 1 (match o.set.condition with | .sound => 0 | .disturbed => 1 | .scattered => 2)
        ∧ at' 0xA22 1 (match o.set.destination with
            | none => 0 | some .k1 => 1 | some .k2 => 2 | some .purge => 3)
        ∧ at' 0xA23 1 o.set.members.length ∧ at' 0xA24 1 o.set.overruns.length ∧ at' 0xA25 1 (flag o.set.arrived)
        ∧ at' 0xA26 26 0)
    -- the members and overrun sheets, the broken copies, the slot ring, and what holds no cell
    ∧ (let member := fun (o : Nat) (x : Option Member) =>
        (x = none → at' o 16 0)
          ∧ (∀ m, x = some m → at' o 4 m.sequence ∧ at' (o + 4) 2 m.k
              ∧ at' (o + 6) 1 (match m.front with | some b => b.val | none => 0xFF)
              ∧ at' (o + 7) 1 (match m.back with | some b => b.val | none => 0xFF)
              ∧ at' (o + 8) 1 m.slot ∧ at' (o + 9) 1 m.media.val ∧ at' (o + 10) 1 (flag m.faulted) ∧ at' (o + 11) 5 0)
      (∀ i, i < 24 → member (0xA40 + 16 * i) s.output.set.members[i]?)
        ∧ ∀ i, i < 16 → member (0xBC0 + 16 * i) s.output.set.overruns[i]?)
    ∧ (∀ i, i < 32 →
      let o := 0xCC0 + 16 * i
      (s.output.broken[i]? = none → at' o 16 0)
        ∧ (∀ r, s.output.broken[i]? = some r → at' o 4 r.copy.statement ∧ at' (o + 4) 4 r.copy.opening
            ∧ at' (o + 8) 1 (match r.mode with | .set => 1 | .direct => 2)
            ∧ at' (o + 9) 1 (flag r.withdrawalPending) ∧ at' (o + 10) 6 0))
    ∧ (∀ i, i < 32 →
      let o := 0xEC0 + 8 * i
      at' (o + 5) 3 0
        ∧ (s.scheduler.grid = none → at' (o + 4) 1 0xFF)
        ∧ (∀ g e, s.scheduler.grid = some g → g.ring[i]? = some e → at' o 4 (g.current + i)
            ∧ at' (o + 4) 1 (match e with | .free => 0xFF | .front h => h.val | .back h => h.val)))
    ∧ at' 0xFC0 64 0)

/-- The events of plan slots, tag slots and the command block, as their blocks take them by the state they find: a
refusal of a tag commit is asked for unless one for the slot waits already. The model's readings: while the part is
INACTIVE no block takes them (notes/assumptions/47.md), a command taken and not yet read has no code and operands 0
(44.md), and what waits is what stands behind the operation in progress (35.md). -/
def Obligations.EventsTaken : Prop :=
  ∀ s : State,
    let taken := fun (ops : List RecordOp) (changed : List Block) (t : State) =>
      t.junction = (s.junction.asked ops).grant ∧ t.pulses = [] ∧ KeepsBut (.junction :: .pulses :: changed) s t
    (s.run.state = .inactive →
      (∀ i, ∃ t, exec (.commitEvent i) s = .next t ∧ taken [] [] t)
      ∧ (∀ b, ∃ t, exec (.tagCommitEvent b) s = .next t ∧ taken [] [] t)
      ∧ (∃ t, exec .codeEvent s = .next t ∧ taken [] [] t))
    ∧ (s.run.state ≠ .inactive →
      (∀ i : Fin 256, s.plan.slots[i.val]? = some .free →
        ∃ t, exec (.commitEvent i) s = .next t ∧ taken [.planFetch i.val] [.plan] t
          ∧ t.plan = { s.plan with slots := s.plan.slots.set i.val .pending })
      ∧ (∀ i : Fin 256, s.plan.slots[i.val]? ≠ some .free →
        ∃ t, exec (.commitEvent i) s = .next t ∧ taken [] [] t)
      ∧ (∀ b, (s.buffer b).state = .filling →
        ∃ t, exec (.tagCommitEvent b) s = .next t ∧ taken [.tagFetch b] [.buffers] t
          ∧ t.buffer b = { s.buffer b with state := .closing } ∧ (∀ k, k ≠ b → t.buffer k = s.buffer k)
          ∧ t.buffers.claimWaiting = s.buffers.claimWaiting)
      ∧ (∀ b, (s.buffer b).state ≠ .filling →
        let waiting :=
          if s.junction.holder = some .agent then s.junction.agentQueue.tail else s.junction.agentQueue
        let refuses := .tagWrite b .refusedState ∈ waiting ∨ .tagWrite b .refusedFormat ∈ waiting
        (refuses → ∃ t, exec (.tagCommitEvent b) s = .next t ∧ taken [] [] t)
        ∧ (¬ refuses → ∃ t, exec (.tagCommitEvent b) s = .next t ∧ taken [.tagWrite b .refusedState] [] t))
      ∧ (s.run.command = .idle ∨ s.run.command = .done →
        ∃ t, exec .codeEvent s = .next t ∧ taken [.commandOp false] [.run] t
          ∧ t.run = { s.run with command := .accepted, running := some ⟨none, 0, 0, 0, false⟩ })
      ∧ (∀ r, s.run.command = .accepted → s.run.running = some r →
        ∃ t, exec .codeEvent s = .next t ∧ taken [] [.run] t
          ∧ t.run = { s.run with running := some { r with overrun := true } }))

/-- A consumer write: the word it leaves, with the bytes it did not write from the consumer index, is ignored behind
or at the consumer, accepted up to the producer, and clamped to it beyond. An advance clears LOG OVERRUN, lets the log
writer take a record that waited for room, and prompts an evaluation of admission. -/
def Obligations.ConsumerWrites : Prop :=
  ∀ (s : State) (data w : Word) (mask : BitVec 4), s.run.state ≠ .inactive →
    (∀ n : Fin 4, w.extractLsb' (8 * n.val) 8
      = if mask.getLsbD n.val then data.extractLsb' (8 * n.val) 8 else s.log.consumer.extractLsb' (8 * n.val) 8) →
    let d := (w - s.log.consumer).toInt
    let used : Int := (s.log.producer - s.log.consumer).toNat
    let advances := fun (x : Word) =>
      ∃ u v y t, exec (.consumerWrite data mask) s = .next t
        ∧ u.log = { s.log with consumer := x, overrun := false } ∧ u.pulses = [] ∧ KeepsBut [.log, .pulses] s u
        ∧ TakesNext u v ∧ Evaluates v y ∧ Granted y t
    (d ≤ 0 → ∃ t, exec (.consumerWrite data mask) s = .next t ∧ ActsOn [] s t)
    ∧ (0 < d → d ≤ used → advances w)
    ∧ (0 < d → used < d → s.log.producer ≠ s.log.consumer → advances s.log.producer)
    ∧ (0 < d → s.log.producer = s.log.consumer → ∃ t, exec (.consumerWrite data mask) s = .next t ∧ ActsOn [] s t)

/-! ## The record agent (chapters 2, 3, 8, 9, 10 and 11) -/

/-- A plan fetch completes: the first of the six checks that the record fails refuses it, with nothing entered; a
record that fails none is accepted, and a record accepted into an empty queue prompts an evaluation of admission. The
record's fields are those of the slot's 32 bytes in memory, each where the layout puts it. -/
def Obligations.PlanFetchJudged : Prop :=
  ∀ (s : State) (c : Configuration) (i : Nat), s.config = some c → s.inProgress = some (.planFetch i) →
    let r := readPlanRecord s.memory (planSlotAddress c i)
    let byte := fun n => (Memory.read s.memory (planSlotAddress c i + n)).toNat
    let half := fun n => byte n + 256 * byte (n + 1)
    let word := fun n => half n + 65536 * half (n + 2)
    (r = ⟨word 0, word 4, half 8, half 10, byte 12, byte 13, byte 14, byte 15 % 2 == 1, byte 16, byte 17⟩) ∧
    (∀ code : PlanRefusal, s.Fails c r code → (∀ d : PlanRefusal, d.code < code.code → ¬ s.Fails c r d) →
      ∃ t, exec .planFetchComplete s = .next t ∧ t.junction = (s.junction.answered [.planWrite i (.refused code)]).grant
        ∧ t.pulses = [] ∧ KeepsBut [.junction, .pulses] s t)
    ∧ ((∀ code, ¬ s.Fails c r code) →
      ∃ u t, exec .planFetchComplete s = .next t ∧ AcceptedAs s c i r u
        ∧ (s.plan.queue ≠ [] → ActsOn [] u t) ∧ (s.plan.queue = [] → EvaluatedAs u t))

/-- A tag fetch completes: a tag of one of the two forms makes the buffer HELD with it, and any other is refused
FORMAT. The tag's fields are those of the slot's 16 bytes in memory, each where the layout puts it. -/
def Obligations.TagFetchJudged : Prop :=
  ∀ (s : State) (c : Configuration) (b : BufferNo), s.config = some c → s.inProgress = some (.tagFetch b) →
    let r := readTagRecord s.memory (tagSlotAddress c b)
    let byte := fun n => (Memory.read s.memory (tagSlotAddress c b + n)).toNat
    let half := fun n => byte n + 256 * byte (n + 1)
    (r = ⟨half 0 + 65536 * half 2, half 4, byte 6, byte 7 % 2 == 1⟩) ∧
    let openCount := (s.buffers.table.toList.filter (fun x => x.state == .filling || x.state == .closing)).length
    let holds := fun (tag : Tag) (persistent : Bool) =>
      ∃ t, exec .tagFetchComplete s = .next t
        ∧ t.buffer b = ⟨.held, some tag, 0, persistent, false⟩ ∧ (∀ k, k ≠ b → t.buffer k = s.buffer k)
        ∧ t.junction = (s.junction.answered [.tagWrite b .taken]).grant ∧ t.pulses = []
        ∧ (openCount = 16 ∧ s.buffers.claimWaiting = true →
            t.buffers.claimWaiting = false
              ∧ t.attention = { s.attention with p := s.attention.p.add .bufferAvailable, lineP := true })
        ∧ (¬ (openCount = 16 ∧ s.buffers.claimWaiting = true) →
            t.buffers.claimWaiting = s.buffers.claimWaiting ∧ t.attention = s.attention)
        ∧ KeepsBut [.junction, .pulses, .buffers, .attention] s t
    let sided := r.persistent = false ∧ r.statement ≠ 0 ∧ 1 ≤ r.sheet ∧ r.sheet ≤ 1023
    let any := r.persistent = true ∧ r.statement = 0 ∧ r.sheet = 0 ∧ r.side = 3
    (sided → r.side = 1 → holds ⟨r.statement, r.sheet, .front⟩ false)
    ∧ (sided → r.side = 2 → holds ⟨r.statement, r.sheet, .back⟩ false)
    ∧ (any → holds ⟨0, 0, .any⟩ true)
    ∧ (¬ any → ¬ (sided ∧ (r.side = 1 ∨ r.side = 2)) →
      ∃ t, exec .tagFetchComplete s = .next t ∧ t.junction = (s.junction.answered [.tagWrite b .refusedFormat]).grant
        ∧ t.pulses = [] ∧ KeepsBut [.junction, .pulses] s t)

/-- The agent's writes of a plan slot's and a tag slot's commit word and of a command's answer: the words they leave
in memory, and what their completion does to the slot, the buffer and the attention; where the slots and the command
block lie in their windows; and the codes of the command block's words. That one row completes both command answers is
the model's reading: notes/assumptions/9.md. -/
def Obligations.AgentWrites : Prop :=
  (∀ (s : State) (c : Configuration), s.config = some c → Memory.wf s.memory = true →
    (∀ i a, s.inProgress = some (.planWrite i a) →
      let at' := planSlotAddress c i + 28
      ∃ t, exec .planCommitWordWritten s = .next t
        ∧ Memory.word t.memory at' = (match a with
            | .taken => 2
            | .refused e => BitVec.ofNat 32 (3 + 256 * e.code)
            | .released => 0)
        ∧ OnlyWrites at' (at' + 4) s.memory t.memory
        ∧ t.plan = { s.plan with slots := if a = .taken then s.plan.slots else s.plan.slots.set i .free }
        ∧ t.junction = (s.junction.answered []).grant ∧ t.pulses = []
        ∧ KeepsBut [.memory, .junction, .pulses, .plan] s t)
    ∧ (∀ b a, s.inProgress = some (.tagWrite b a) →
      let at' := tagSlotAddress c b + 12
      ∃ t, exec .tagCommitWordWritten s = .next t
        ∧ Memory.word t.memory at' = (match a with
            | .taken => 2
            | .refusedState => 0x703
            | .refusedFormat => 0x803)
        ∧ OnlyWrites at' (at' + 4) s.memory t.memory
        ∧ (∀ k, t.buffer k = if k = b ∧ a = .refusedFormat ∧ (s.buffer b).state = .closing then
            { s.buffer b with state := .filling } else s.buffer k)
        ∧ t.buffers.claimWaiting = s.buffers.claimWaiting
        ∧ t.junction = (s.junction.answered []).grant ∧ t.pulses = []
        ∧ KeepsBut [.memory, .junction, .pulses, .buffers] s t)
    ∧ (∀ w, s.inProgress = some (.commandFinish w) →
      ∃ t, exec .commandFinishWritten s = .next t
        ∧ Memory.word t.memory (commandBlock c + 16) = w ∧ Memory.word t.memory (commandBlock c + 12) = 2
        ∧ OnlyWrites (commandBlock c + 12) (commandBlock c + 20) s.memory t.memory
        ∧ t.attention = s.attention.withE .commandDone
        ∧ t.junction = (s.junction.answered []).grant ∧ t.pulses = []
        ∧ KeepsBut [.memory, .junction, .pulses, .attention] s t)
    ∧ (s.inProgress = some .commandAbandon →
      ∃ t, exec .commandFinishWritten s = .next t
        ∧ Memory.word t.memory (commandBlock c + 12) = 0
        ∧ OnlyWrites (commandBlock c + 12) (commandBlock c + 16) s.memory t.memory
        ∧ t.junction = (s.junction.answered []).grant ∧ t.pulses = []
        ∧ KeepsBut [.memory, .junction, .pulses] s t))
  ∧ (∀ (c : Configuration) (d : Descriptor),
    (c.OnlyWindow .plan d → ∀ i, planSlotAddress c i = d.base + 32 * i)
      ∧ (c.OnlyWindow .tag d → ∀ b : BufferNo, tagSlotAddress c b = d.base + 16 * b.val)
      ∧ (c.OnlyWindow .command d → commandBlock c = d.base))
  ∧ (let names := [CommandCode.start, .stop, .pauseFeed, .resumeFeed, .changeSpeed, .cancelSpeedChange, .halt, .clear,
      .withdraw, .releaseBuffer, .reclaimBuffer, .guardOn, .guardOff, .selectStacker]
    (∀ w : Word, 1 ≤ w.toNat → w.toNat ≤ 14 → CommandCode.ofWord w = names[w.toNat - 1]?)
      ∧ (∀ w : Word, w.toNat = 0 ∨ 15 ≤ w.toNat → CommandCode.ofWord w = none)
      ∧ names.map CommandCode.code = [1, 2, 3, 4, 5, 6, 7, 8, 9, 10, 11, 12, 13, 14])
  ∧ (∀ (result : ResultCode) (overrun : Bool) (detail : Nat),
    let code := match result with
      | .done => 1 | .redundant => 2 | .refusedState => 3 | .badOperand => 4 | .notClear => 5 | .inUse => 6
      | .busy => 7 | .cancelled => 8 | .failed => 9
    resultWord result overrun detail
      = BitVec.ofNat 32 (code + 256 * (if overrun then 1 else 0) + 65536 * detail))
  ∧ [RunState.inactive, .idle, .starting, .running, .draining, .respeed, .stopping, .stopped, .clearing].map
      RunState.code = [0, 1, 2, 3, 4, 5, 6, 7, 8]
  ∧ [BufferState.free, .filling, .closing, .held].map BufferState.code = [0, 1, 2, 3]
  ∧ [PlanRefusal.sequence, .field, .sides, .buffer, .identity, .continuity].map PlanRefusal.code = [1, 2, 3, 4, 5, 6]

/-- A log record's write completes: its 32 bytes stand at its position, the producer index has risen by one, LOG
RECORD is raised, a disposition releases its plan slot, a STRANDED record is no longer outstanding; then the next
pending record is taken as the ring has room, and the end of clearance is examined: in CLEARING with no record
outstanding, the mark clear, and the set EMPTY, or SOUND and not broken, it ends. The record's bytes are those of its
kind, every unused byte zero, under the sensor, cause and stacker codes, and its position in the LOG window is that of
its index. The end with overrun sheets at an EMPTY set is the model's reading: notes/assumptions/39.md; that the next
record is asked for before CLEAR's result is its choice: 54.md. -/
def Obligations.LogRecordWrites : Prop :=
  (∀ (s : State) (c : Configuration) (index : Word) (r : LogRecord), s.config = some c → Memory.wf s.memory = true →
    s.inProgress = some (.logWrite index r) →
    let at' := logPosition c index
    ∃ u v w t, exec .logRecordWritten s = .next t
      ∧ (∀ i, i < 32 → (r.bytes index)[i]? = some (Memory.read u.memory (at' + i)))
      ∧ OnlyWrites at' (at' + 32) s.memory u.memory
      ∧ u.log = { s.log with producer := s.log.producer + 1, inFlight := none }
      ∧ u.attention = s.attention.withE .logRecord
      ∧ u.junction = s.junction.answered (match r.body.disposition with
          | some d => [.planWrite d.slot .released]
          | none => [])
      ∧ u.run = { s.run with outstanding := s.run.outstanding - (if r.body.isStranded then 1 else 0) }
      ∧ u.pulses = [] ∧ KeepsBut [.memory, .junction, .pulses, .run, .log, .attention] s u
      ∧ TakesNext u v ∧ ClearanceExamined v w ∧ Granted w t)
  ∧ (∀ (c : Configuration) (d : Descriptor) (index : Word), c.OnlyWindow .log d →
    logPosition c index = d.base + 64 + 32 * (index.toNat % c.logEntries))
  ∧ (∀ (r : LogRecord) (index : Word),
    let has := Field (r.bytes index)
    let disposes := fun (kind : Nat) (d : Disposition) (destination last : Nat) =>
      has 8 1 kind ∧ has 9 3 0 ∧ has 12 4 d.sequence ∧ has 16 4 d.statement ∧ has 20 2 d.k ∧ has 22 1 d.slot
        ∧ has 23 1 destination ∧ has 24 1 last ∧ has 25 7 0
    let stacker : Stacker → Nat := fun k => match k with | .k1 => 1 | .k2 => 2
    let reason : SwitchReason → Nat := fun w => match w with
      | .selected => 1
      | .breakFlag => 2
      | .full => 3
      | .setPending => 4
    (r.bytes index).length = 32 ∧ has 0 4 index.toNat ∧ has 4 4 r.time.toNat
      ∧ (∀ d k, r.body = .delivered d k → disposes 1 d (stacker k) 0)
      ∧ (∀ d, r.body = .dumped d → disposes 2 d 3 0)
      ∧ (∀ d, r.body = .purged d → disposes 3 d 3 0)
      ∧ (∀ d x, r.body = .stranded d x → disposes 4 d 0 (sensorCode x))
      ∧ (∀ d, r.body = .withdrawn d → disposes 5 d 0 0)
      ∧ (∀ j, r.body = .jam j → has 8 1 6 ∧ has 9 1 j.cause.code ∧ has 10 1 (sensorCode j.sensor)
          ∧ has 11 1 ((if j.setMark then 1 else 0) + (if j.multiple then 2 else 0)) ∧ has 12 4 (j.sequence.getD 0)
          ∧ has 16 8 0 ∧ has 24 1 (match j.secondary with | some x => x.1.code | none => 0)
          ∧ has 25 1 (match j.secondary with | some x => sensorCode x.2 | none => 0) ∧ has 26 6 0)
      ∧ (∀ st k n, r.body = .topNotice st k n → has 8 1 7 ∧ has 9 7 0 ∧ has 16 4 st ∧ has 20 2 n ∧ has 22 1 0
          ∧ has 23 1 (stacker k) ∧ has 24 8 0)
      ∧ (∀ old new w, r.body = .stackerSwitch old new w → has 8 1 8 ∧ has 9 15 0 ∧ has 24 1 (stacker old)
          ∧ has 25 1 (stacker new) ∧ has 26 1 (reason w) ∧ has 27 5 0)
      ∧ (∀ old new, r.body = .speedSet old new → has 8 1 9 ∧ has 9 15 0 ∧ has 24 1 old.val ∧ has 25 1 new.val
          ∧ has 26 6 0))
  ∧ sensorCode none = 0
  ∧ [Sensor.F1, .F2, .F3, .F4, .MG, .RG, .TR, .FX, .LI, .LH, .XO, .AC, .K1, .K2, .PB].map
      (fun x => sensorCode (some x)) = [1, 2, 3, 4, 5, 6, 7, 8, 9, 10, 11, 12, 13, 14, 15]
  ∧ [Cause.stray, .early, .late, .short, .stall, .holdCollision, .accumulatorCollision, .coverOpen, .driveLoss,
      .driveDeviation, .operator, .engineReset].map Cause.code = [1, 2, 3, 4, 5, 6, 7, 8, 9, 10, 11, 12]

/-- The anchor: an event with an operation under way is disregarded; activation from INACTIVE and reconfiguration from
quiet IDLE ask for the anchor read; deactivation in quiet IDLE makes the part INACTIVE and PASS-ALL with every block
emptied; any other event is answered BUSY with the run state. The read writes IN PROGRESS and goes on by the format
word, and the final write leaves its word in RESULT and clears the flag. That a RESULT code without a detail has
detail 0 is the model's reading: notes/assumptions/16.md; the row of the final write is read as in 9.md. -/
def Obligations.AnchorEvents : Prop :=
  ∀ s : State,
    let asks := fun (v : ActivateValue) (op : RecordOp) =>
      ∃ t, exec (.anchorEvent v) s = .next t ∧ t.junction = { s.junction.asked [op] with anchorFlag := true }.grant
        ∧ t.pulses = [] ∧ KeepsBut [.junction, .pulses] s t
    let quiet := s.run.state = .idle ∧ s.Quiet ∧ s.junction.agentQueue = []
    let busy := BitVec.ofNat 32 (4 + 256 * s.run.state.code)
    (∀ v, s.junction.anchorFlag = true → ∃ t, exec (.anchorEvent v) s = .next t ∧ t.junction = s.junction.grant
        ∧ t.pulses = [] ∧ KeepsBut [.junction, .pulses] s t)
    ∧ (s.junction.anchorFlag = false →
      (s.run.state = .inactive → asks .activate (.anchorRun false) ∧ asks .deactivate (.anchorResult busy))
      ∧ (quiet → asks .activate (.anchorRun true))
      ∧ (quiet → ∃ t, exec (.anchorEvent .deactivate) s = .next t ∧ t.Emptied ∧ t.config = none
          ∧ t.run.state = .inactive ∧ t.run.command = .idle ∧ t.run.running = none ∧ t.plan.slots = []
          ∧ t.drive = { s.drive with current := 0, target := 0, speed := 0 }
          ∧ (∀ x, t.sensor x = { s.sensor x with expectations := [] })
          ∧ t.junction = { s.junction.asked [.anchorResult 2] with
              anchorFlag := true, guardOn := true, latch := none, arbiter := .rotating, rotation := .E }.grant
          ∧ t.pulses = [] ∧ KeepsBut (.config :: .junction :: .pulses :: pathBlocks) s t)
      ∧ (∀ v, s.run.state ≠ .inactive → ¬ quiet → asks v (.anchorResult busy)))
    ∧ (∀ reconfigure, Memory.wf s.memory = true → s.inProgress = some (.anchorRun reconfigure) →
      let format := Memory.word s.memory 0xFFFFF00
      ∃ t, exec .anchorReadComplete s = .next t
        ∧ Memory.word t.memory 0xFFFFF08 = 1 ∧ OnlyWrites 0xFFFFF08 0xFFFFF0C s.memory t.memory
        ∧ t.junction = { s.junction with
            lastResult := 1
            agentQueue := (if format = 0xFFFFFFFF then .anchorResult 3
              else .configRead reconfigure format (Memory.word s.memory 0xFFFFF0C)) :: s.junction.agentQueue.tail }
        ∧ t.pulses = [] ∧ KeepsBut [.memory, .junction, .pulses] s t)
    ∧ (∀ w, Memory.wf s.memory = true → s.inProgress = some (.anchorResult w) →
      ∃ t, exec .anchorResultWritten s = .next t
        ∧ Memory.word t.memory 0xFFFFF08 = w ∧ OnlyWrites 0xFFFFF08 0xFFFFF0C s.memory t.memory
        ∧ t.junction = { s.junction.answered [] with lastResult := w, anchorFlag := false }.grant
        ∧ t.pulses = [] ∧ KeepsBut [.memory, .junction, .pulses] s t)

/-- The configuration record's read completes: a record that fails FORMAT or a later check is refused, with its code and
nothing in force; an accepted one comes into force, from INACTIVE with every block emptied and the run state IDLE, or in
place of the old one while the part is still quiet and BUSY when it is not. The detail 0 of FORMAT, RANGE and DONE is
the model's reading: notes/assumptions/16.md; the quiet conditions are read as in 22.md, and the overlap detail of 4.md
is free; that the checks come before the BUSY of a part no longer quiet is 51.md. The record's fields are read where its
layout puts them, and its checks are WINDOW, OVERLAP, RANGE and TIMING in that order, each as its row gives it; a
port-sets byte is read as in 45.md. -/
def Obligations.ConfigurationJudged : Prop :=
  (∀ (s : State) (reconfigure : Bool) (format address : Word),
    s.inProgress = some (.configRead reconfigure format address) →
    let formed := format = 1 ∧ address.toNat % 32 = 0 ∧ address.toNat + 512 ≤ 0xFFFFF00
    let c := readConfiguration s.memory address.toNat
    let answers := fun (w : Word) (t : State) =>
      t.junction.agentQueue = .anchorResult w :: s.junction.agentQueue.tail ∧ t.pulses = []
    let refuses := fun (w : Word) => ∃ t, exec .configReadComplete s = .next t ∧ answers w t
      ∧ t.junction.rest = s.junction.rest ∧ KeepsBut [.junction, .pulses] s t
    (¬ formed → refuses 5)
    ∧ (∀ w, formed → c.refusal (s.freeCount + 1) = some w → refuses w)
    ∧ (formed → c.refusal (s.freeCount + 1) = none → reconfigure = false →
      ∃ t, exec .configReadComplete s = .next t ∧ answers 2 t ∧ t.Emptied ∧ t.config = some c
        ∧ t.run.state = .idle ∧ t.run.command = s.run.command ∧ t.run.running = s.run.running
        ∧ t.plan.slots = List.replicate c.planSlots .free ∧ (∀ x, t.sensor x = { s.sensor x with expectations := [] })
        ∧ t.junction.rest = { s.junction.rest with guardOn := true, latch := none, arbiter := c.arbiter.getD .rotating }
        ∧ KeepsBut [.config, .junction, .pulses, .plan, .buffers, .scheduler, .tracker, .output, .run, .log, .attention]
            s t)
    ∧ (formed → c.refusal (s.freeCount + 1) = none → reconfigure = true →
      let quiet := s.run.state = .idle ∧ s.Quiet ∧ s.junction.agentQueue.length ≤ 1
      (¬ quiet → refuses (BitVec.ofNat 32 (4 + 256 * s.run.state.code)))
      ∧ (quiet → ∃ t, exec .configReadComplete s = .next t ∧ answers 2 t ∧ t.config = some c
          ∧ t.plan = ⟨List.replicate c.planSlots .free, [], 0, none⟩
          ∧ t.run = { s.run with changeStatus := .none, drainTarget := none } ∧ t.tracker.timing = none
          ∧ (∀ h, t.sheet h = none) ∧ (∀ x, t.sensor x = { s.sensor x with expectations := [] })
          ∧ (∀ b, t.buffer b = s.buffer b) ∧ t.buffers.claimWaiting = false ∧ t.log = LogWriter.reset
          ∧ t.junction.rest = { s.junction.rest with arbiter := c.arbiter.getD .rotating }
          ∧ KeepsBut [.config, .junction, .pulses, .plan, .buffers, .tracker, .run, .log] s t)))
  ∧ (∀ (c : Configuration) (free : Nat),
    let at' := fun i : Fin 8 => c.descriptors[i]
    let inside := fun (i : Fin 8) (a : Nat) => (at' i).base ≤ a ∧ a < (at' i).base + 2 ^ (at' i).sizeLog2
    let wrong := fun i : Fin 8 => (at' i).enabled = true ∧ ((at' i).kind = none ∨ (at' i).sizeLog2 < 12
      ∨ 28 < (at' i).sizeLog2 ∨ (at' i).base % 2 ^ (at' i).sizeLog2 ≠ 0 ∨ ∃ a, inside i a ∧ 0xFFFFFFF < a)
    let count := fun k : WindowKind =>
      (c.descriptors.toList.filter (fun d => d.enabled && d.kind == some k)).length
    let counted := count .plan = 1 ∧ count .tag = 1 ∧ count .buffer = 1 ∧ count .log = 1 ∧ count .command = 1
      ∧ count .view = 1 ∧ count .plain ≤ 2
    let special := fun i : Fin 8 => (at' i).enabled = true ∧ (at' i).kind ≠ some .plain
    let meets := fun i : Fin 8 => ∃ j, i < j ∧ (at' i).enabled = true ∧ (at' j).enabled = true
      ∧ (special i ∨ special j) ∧ ∃ a, inside i a ∧ inside j a
    let anchored := ∃ i a, special i ∧ inside i a ∧ 0xFFFFF00 ≤ a
    let holds := fun (k : WindowKind) (n : Nat) =>
      ∀ i, (at' i).enabled = true → (at' i).kind = some k → n ≤ 2 ^ (at' i).sizeLog2
    let ranged :=
      ((∀ l : Leg, 100 ≤ c.legs[l].length ∧ c.legs[l].length ≤ 40000 ∧ 128 ≤ c.legs[l].factor
          ∧ c.legs[l].factor ≤ 512)
        ∧ (∀ t : Tray, 500 ≤ c.pickDelay[t] ∧ c.pickDelay[t] ≤ 20000)
        ∧ c.earlyRatio ≤ 64 ∧ c.lateRatio ≤ 64 ∧ c.coverRatio ≤ 64
        ∧ c.earlyFixed ≤ 10000 ∧ c.lateFixed ≤ 10000 ∧ c.coverFixed ≤ 10000
        ∧ (∀ m : MediaClass, 1000 ≤ c.mediaLength[m] ∧ c.mediaLength[m] ≤ 4320)
        ∧ 1100 ≤ c.pitchLength ∧ c.pitchLength ≤ 40000 ∧ 100 ≤ c.minimumGap ∧ c.minimumGap ≤ 1000
        ∧ (∀ code : SpeedCode, 200 ≤ c.speed[code] ∧ c.speed[code] ≤ 2000)
        ∧ 1 ≤ c.encoderPerMm ∧ c.encoderPerMm ≤ 64 ∧ c.minimumDwell ≤ 20000)
      ∧ (1 ≤ c.lockTolerance ∧ c.lockTolerance ≤ 64 ∧ 1 ≤ c.runTolerance ∧ c.runTolerance ≤ 128
        ∧ c.lockTolerance ≤ c.runTolerance ∧ 10000 ≤ c.lockTimeout ∧ c.lockTimeout ≤ 1000000
        ∧ 1000 ≤ c.stopGrace ∧ c.stopGrace ≤ 50000 ∧ (∃ n, 6 ≤ n ∧ n ≤ 12 ∧ c.logEntries = 2 ^ n)
        ∧ 1 ≤ c.bufferCount ∧ c.bufferCount ≤ 64 ∧ 16 ≤ c.bufferSizeLog2 ∧ c.bufferSizeLog2 ≤ 22
        ∧ 8 ≤ c.planSlots ∧ c.planSlots ≤ 256 ∧ 2 ≤ c.accumulatorCapacity ∧ c.accumulatorCapacity ≤ 24
        ∧ c.arbiter ≠ none)
      ∧ holds .plan (32 * c.planSlots) ∧ holds .tag (16 * c.bufferCount)
      ∧ holds .buffer (c.bufferCount * 2 ^ c.bufferSizeLog2) ∧ holds .log (64 + 32 * c.logEntries)
    let timed := fun code : SpeedCode =>
      (∀ m : MediaClass, c.mediaLength[m] + c.minimumGap ≤ c.pitchLength)
        ∧ 1 ≤ (timingSet c code).loopPitches ∧ (timingSet c code).loopPitches ≤ 24
        ∧ 2 ≤ (timingSet c code).setGap ∧ (timingSet c code).setGap ≤ 8
        ∧ 8 ≤ c.speed[code] * c.encoderPerMm / 100
    (∀ i, wrong i → (∀ j, j < i → ¬ wrong j) → c.refusal free = some (BitVec.ofNat 32 (6 + 256 * i.val)))
    ∧ ((∀ i, ¬ wrong i) → ¬ counted → c.refusal free = some 0x806)
    ∧ ((∀ i, ¬ wrong i) → counted →
      (∀ i, meets i → (∀ j, j < i → ¬ meets j) → c.refusal free = some (BitVec.ofNat 32 (7 + 256 * i.val)))
      ∧ ((∀ i, ¬ meets i) →
        (anchored → ∃ detail : Byte, c.refusal free = some (BitVec.ofNat 32 (7 + 256 * detail.toNat)))
        ∧ (¬ anchored → ¬ ranged → c.refusal free = some 8)
        ∧ (¬ anchored → ranged →
          (∀ code, ¬ timed code → (∀ j, j < code → timed j) →
            c.refusal free = some (BitVec.ofNat 32 (9 + 256 * code.val)))
          ∧ ((∀ code, timed code) → c.refusal free = none)))))
  ∧ (∀ (m : List Host.Cell) (a : Nat),
    let c := readConfiguration m a
    let byte := fun n => (Memory.read m (a + n)).toNat
    let half := fun n => byte n + 256 * byte (n + 1)
    let word := fun n => half n + 65536 * half (n + 2)
    (∀ i : Fin 8,
      let d := c.descriptors[i]
      d.base = word (8 * i.val) ∧ (d.enabled = true ↔ byte (8 * i.val + 4) % 2 = 1)
        ∧ (∀ k : Fin 7, byte (8 * i.val + 5) = k.val →
            [WindowKind.plain, .plan, .tag, .buffer, .log, .command, .view][k.val]? = d.kind)
        ∧ (6 < byte (8 * i.val + 5) → d.kind = none) ∧ d.sizeLog2 = byte (8 * i.val + 6)
        ∧ d.eReads = (byte (8 * i.val + 7)).testBit 0 ∧ d.pReads = (byte (8 * i.val + 7)).testBit 1
        ∧ d.eWrites = (byte (8 * i.val + 7)).testBit 2 ∧ d.pWrites = (byte (8 * i.val + 7)).testBit 3)
      ∧ (byte 64 = 0 → c.arbiter = some .rotating) ∧ (byte 64 = 1 → c.arbiter = some .fixed)
      ∧ (1 < byte 64 → c.arbiter = none)
      ∧ c.bufferCount = byte 65 ∧ c.bufferSizeLog2 = byte 66 ∧ c.accumulatorCapacity = byte 67
      ∧ c.planSlots = half 68 ∧ c.logEntries = half 70
      ∧ (∀ l : Leg, c.legs[l].length = half (72 + 4 * l.val) ∧ c.legs[l].factor = half (74 + 4 * l.val))
      ∧ (∀ t : Tray, c.pickDelay[t] = half (144 + 2 * t.val))
      ∧ c.earlyRatio = byte 152 ∧ c.lateRatio = byte 153 ∧ c.coverRatio = byte 154 ∧ c.encoderPerMm = byte 155
      ∧ c.earlyFixed = half 156 ∧ c.lateFixed = half 158 ∧ c.coverFixed = half 160
      ∧ (∀ x : MediaClass, c.mediaLength[x] = half (162 + 2 * x.val))
      ∧ c.pitchLength = half 170 ∧ c.minimumGap = half 172
      ∧ (∀ code : SpeedCode, c.speed[code] = half (174 + 2 * code.val))
      ∧ c.lockTolerance = byte 190 ∧ c.runTolerance = byte 191 ∧ c.lockTimeout = word 192
      ∧ c.minimumDwell = half 196 ∧ c.stopGrace = half 198)

/-! ## Commands (chapter 9) -/

/-- Every command that its checks refuse, and every one that finds nothing to do, finishes at once with its result and
detail and has no other effect. The read of an abandoned command, whichever code it finds, completes with the
operation's writes and its result disregarded: the command is not taken. Commands act at their read's completion:
notes/assumptions/10.md, the model's reading. -/
def Obligations.CommandAnswers : Prop :=
  (∀ (s : State) (c : Configuration) (k : RunningCommand), Memory.wf s.memory = true → s.run.state ≠ .inactive →
    let reads := fun code => CommandRead s c code k
    let gives := fun (i : Instr) (result : ResultCode) (detail : Nat) =>
      ∃ t, exec i s = .next t ∧ OnlyFinishes s c k result detail t
    let op := operand1 s c
    let st := s.run.state
    let clear := (∀ x, (s.sensor x).covered = false) ∧ s.lines.coverOpen = false
    let none' := ∀ b : BufferNo, b.val = op.toNat → c.bufferCount ≤ b.val
    (reads none → gives .unknownCommandCode .badOperand 0)
    ∧ (reads (some .start) →
        (st ≠ .idle → gives .start .refusedState st.code)
        ∧ (st = .idle → 8 ≤ op.toNat → gives .start .badOperand 1)
        ∧ (st = .idle → op.toNat < 8 →
            (s.junction.guardOn = false → gives .start .refusedState 0x200)
            ∧ (s.junction.guardOn = true → s.run.clearanceMark = true → gives .start .refusedState 0x201)
            ∧ (s.junction.guardOn = true → s.run.clearanceMark = false → ¬ clear → gives .start .notClear 0)))
    ∧ (reads (some .stop) →
        (st = .idle → gives .stop .redundant 0)
        ∧ (st ≠ .idle → st ≠ .running → st ≠ .draining → gives .stop .refusedState st.code))
    ∧ (reads (some .halt) → st = .idle ∨ st = .stopped ∨ st = .clearing → gives .halt .redundant 0)
    ∧ (reads (some .pauseFeed) → s.run.holds.operator = true → gives .pauseFeed .redundant 0)
    ∧ (reads (some .resumeFeed) → s.run.holds.operator = false → gives .resumeFeed .redundant 0)
    ∧ (reads (some .changeSpeed) →
        (st ≠ .running → gives .changeSpeed .refusedState st.code)
        ∧ (st = .running → 8 ≤ op.toNat → gives .changeSpeed .badOperand 1)
        ∧ (st = .running → op.toNat = s.drive.current.val → gives .changeSpeed .redundant 0))
    ∧ (reads (some .cancelSpeedChange) → st ≠ .draining → st ≠ .respeed →
        gives .cancelSpeedChange .refusedState st.code)
    ∧ (reads (some .clear) →
        let may := st = .stopped ∨ ((st = .clearing ∨ st = .idle) ∧ s.run.clearanceMark = true)
        (¬ may → gives .clear .refusedState st.code) ∧ (may → ¬ clear → gives .clear .notClear 0))
    ∧ (reads (some .withdraw) →
        (op = 0 → gives .withdraw .badOperand 1)
        ∧ (op ≠ 0 → (∀ e ∈ s.plan.queue, e.sequence < op.toNat) → gives .withdraw .redundant 0))
    ∧ (reads (some .releaseBuffer) →
        (none' → gives .releaseBuffer .badOperand 1)
        ∧ ∀ b : BufferNo, b.val = op.toNat → b.val < c.bufferCount →
          ((s.buffer b).state ≠ .held → gives .releaseBuffer .refusedState (s.buffer b).state.code)
          ∧ ((s.buffer b).state = .held → (s.buffer b).count ≠ 0 → gives .releaseBuffer .inUse (s.buffer b).count))
    ∧ (reads (some .reclaimBuffer) →
        (none' → gives .reclaimBuffer .badOperand 1)
        ∧ ∀ b : BufferNo, b.val = op.toNat → b.val < c.bufferCount →
          ((s.buffer b).state = .closing → gives .reclaimBuffer .busy 0)
          ∧ ((s.buffer b).state = .free ∨ (s.buffer b).state = .held →
              gives .reclaimBuffer .refusedState (s.buffer b).state.code))
    ∧ (reads (some .guardOn) → s.junction.guardOn = true → gives .guardOn .redundant 0)
    ∧ (reads (some .guardOff) →
        (st ≠ .idle → gives .guardOff .refusedState st.code)
        ∧ (st = .idle → s.junction.guardOn = false → gives .guardOff .redundant 0))
    ∧ (reads (some .selectStacker) → op ≠ 1 → op ≠ 2 → gives .selectStacker .badOperand 1))
  ∧ (∀ (s : State) (c : Configuration), s.config = some c → Memory.wf s.memory = true →
    s.inProgress = some (.commandOp true) →
    let row : Instr := match CommandCode.ofWord (Memory.word s.memory (commandBlock c + 28)) with
      | none => .unknownCommandCode
      | some .start => .start
      | some .stop => .stop
      | some .pauseFeed => .pauseFeed
      | some .resumeFeed => .resumeFeed
      | some .changeSpeed => .changeSpeed
      | some .cancelSpeedChange => .cancelSpeedChange
      | some .halt => .halt
      | some .clear => .clear
      | some .withdraw => .withdraw
      | some .releaseBuffer => .releaseBuffer
      | some .reclaimBuffer => .reclaimBuffer
      | some .guardOn => .guardOn
      | some .guardOff => .guardOff
      | some .selectStacker => .selectStacker
    ∃ t, exec row s = .next t ∧ WritesAccepted s c t ∧ t.junction = (s.junction.answered []).grant
      ∧ t.pulses = [] ∧ KeepsBut [.memory, .junction, .pulses] s t)

/-- START spins the drive up to its operand's code and stays ACCEPTED; STOP in RUNNING drains with the deschedule, the
examination of the set and of the drain end, and finishes at once in IDLE with the drive coasting when no sheet is past
SCHEDULED; STOP of a changing drain ends the change; HALT is the first cause of a run and a later cause in STOPPING.
The model's readings: STOP of a plain drain waits for its end (notes/assumptions/17.md), the wait reason follows a
drain's entry at once (25.md), HALT in STARTING is a cause (18.md), commands act at their read's completion (10.md),
a stop's order is that of 15.md, and the order of the withdrawals of a deschedule that of 41.md. -/
def Obligations.RunCommands : Prop :=
  ∀ (s : State) (c : Configuration) (k : RunningCommand), Memory.wf s.memory = true →
    let op := operand1 s c
    let calm := s.output.set.state = .empty ∧ s.output.set.condition = .sound ∧ s.output.broken = []
    (CommandRead s c (some .start) k → s.run.state = .idle → op.toNat < 8 → s.junction.guardOn = true →
        s.run.clearanceMark = false → (∀ x, (s.sensor x).covered = false) → s.lines.coverOpen = false →
        ∃ u t, exec .start s = .next t ∧ TakenAs s c .start k u ∧ StaysAccepted [.drive] u t
          ∧ t.run = { u.run with state := .starting }
          ∧ ∃ code : SpeedCode, code.val = op.toNat ∧ t.drive = { s.drive with
              state := .spinUp, target := code, speed := code, enable := true, count := 0
              windowClose := some (s.tick + 1000), lockDeadline := some (s.tick + BitVec.ofNat 32 c.lockTimeout)
              inBandRun := 0, deviationRun := 0, zeroRun := 0 })
    ∧ (CommandRead s c (some .stop) k → s.run.state = .running →
        ∃ u v w x y z t, exec .stop s = .next t ∧ TakenAs s c .stop k u
          ∧ v.run = { u.run with state := .draining, drainTarget := none } ∧ KeepsBut [.run] u v
          ∧ Deschedules v w ∧ SetExamined w x ∧ DrainExamined x y ∧ Evaluates y z ∧ Granted z t)
    ∧ (CommandRead s c (some .stop) k → s.run.state = .running → calm →
        (s.inPath → ∃ u t, exec .stop s = .next t ∧ TakenAs s c .stop k u
          ∧ StaysAccepted [.plan, .scheduler, .tracker] u t ∧ Descheduled u t
          ∧ t.run = { u.run with state := .draining, drainTarget := none } ∧ t.scheduler.waitReason = .notRunning
          ∧ t.scheduler.admissionBounds = s.scheduler.pickBounds)
        ∧ (¬ s.inPath → ∃ u t, exec .stop s = .next t ∧ TakenAs s c .stop k u
          ∧ CarriedOut k .done 0 [.plan, .scheduler, .tracker, .drive] u t ∧ Descheduled u t
          ∧ t.run = { u.run.finished with state := .idle, drainTarget := none }
          ∧ t.scheduler.grid = none ∧ t.drive = s.drive.coast s.tick))
    ∧ (∀ code, CommandRead s c (some .stop) k → s.run.state = .draining → s.run.drainTarget = some code →
        ∃ u v w t, exec .stop s = .next t ∧ TakenAs s c .stop k u
          ∧ v.run = { u.run with changeStatus := .aborted, drainTarget := none }
          ∧ v.attention = s.attention.withE .speedChangeEnd ∧ KeepsBut [.run, .attention] u v
          ∧ DrainExamined v w ∧ Granted w t)
    ∧ (CommandRead s c (some .stop) k → s.run.state = .draining → s.run.drainTarget = none →
        ∃ u t, exec .stop s = .next t ∧ TakenAs s c .stop k u ∧ StaysAccepted [] u t ∧ t.run = u.run)
    ∧ (CommandRead s c (some .halt) k → s.run.state.runs = true ∨ s.run.state = .stopping →
        ∃ u v t, exec .halt s = .next t ∧ TakenAs s c .halt k u
          ∧ Reported (Report.bare .operator) u v ∧ t.run = v.run.finished
          ∧ t.junction = (v.junction.asked [finishOp k .done 0]).grant ∧ KeepsBut [.run, .junction] v t)
    ∧ (CommandRead s c (some .halt) k → s.run.state = .stopping →
        ∃ u t, exec .halt s = .next t ∧ TakenAs s c .halt k u ∧ CarriedOut k .done 0 [] u t
          ∧ t.run = (u.run.afterLater s.tick (Report.bare .operator)).finished)

/-- PAUSE FEED and RESUME FEED set and remove the OPERATOR hold, the removal prompting an evaluation of admission;
CHANGE SPEED drains towards its code, or relocks at once with no sheet past SCHEDULED; CANCEL SPEED CHANGE returns the
run to RUNNING from the drain and commands the drive back from the relock. Commands act at their read's completion, and
the wait reason follows a drain's entry at once, and the withdrawals of a deschedule have an order:
notes/assumptions/10.md, 25.md and 41.md, the model's readings. -/
def Obligations.FeedAndSpeed : Prop :=
  ∀ (s : State) (c : Configuration) (k : RunningCommand), Memory.wf s.memory = true →
    let op := operand1 s c
    let calm := s.output.set.state = .empty ∧ s.output.set.condition = .sound ∧ s.output.broken = []
    (CommandRead s c (some .pauseFeed) k → s.run.holds.operator = false →
        ∃ u t, exec .pauseFeed s = .next t ∧ TakenAs s c .pauseFeed k u ∧ CarriedOut k .done 0 [] u t
          ∧ t.run = { u.run.finished with holds := { s.run.holds with operator := true } })
    ∧ (CommandRead s c (some .resumeFeed) k → s.run.holds.operator = true →
        ∃ u t, exec .resumeFeed s = .next t ∧ TakenAs s c .resumeFeed k u
          ∧ EvaluatedAs ((u.setRun { u.run.finished with holds := { s.run.holds with operator := false } }).setJunction
              (u.junction.asked [finishOp k .done 0])) t)
    ∧ (∀ code : SpeedCode, CommandRead s c (some .changeSpeed) k → s.run.state = .running → op.toNat = code.val →
        code ≠ s.drive.current →
        ∃ u v w x y z t, exec .changeSpeed s = .next t ∧ TakenAs s c .changeSpeed k u
          ∧ v.run = { u.run with state := .draining, drainTarget := some code, changeStatus := .draining }
          ∧ KeepsBut [.run] u v ∧ Deschedules v w ∧ SetExamined w x ∧ DrainExamined x y ∧ Evaluates y z
          ∧ t.run = z.run.finished ∧ t.junction = (z.junction.asked [finishOp k .done 0]).grant
          ∧ KeepsBut [.run, .junction] z t)
    ∧ (∀ code : SpeedCode, CommandRead s c (some .changeSpeed) k → s.run.state = .running → op.toNat = code.val →
        code ≠ s.drive.current → calm →
        (s.inPath → ∃ u t, exec .changeSpeed s = .next t ∧ TakenAs s c .changeSpeed k u
          ∧ CarriedOut k .done 0 [.plan, .scheduler, .tracker] u t ∧ Descheduled u t
          ∧ t.run = { u.run.finished with state := .draining, drainTarget := some code, changeStatus := .draining }
          ∧ t.scheduler.waitReason = .notRunning ∧ t.scheduler.admissionBounds = s.scheduler.pickBounds)
        ∧ (¬ s.inPath → ∃ u t, exec .changeSpeed s = .next t ∧ TakenAs s c .changeSpeed k u
          ∧ CarriedOut k .done 0 [.plan, .scheduler, .tracker, .drive] u t ∧ Descheduled u t
          ∧ t.run = { u.run.finished with
              state := .respeed, drainTarget := some code, changeStatus := .relocking }
          ∧ t.scheduler.grid = none ∧ t.drive = s.drive.relockTo s.tick code c.lockTimeout))
    ∧ (CommandRead s c (some .cancelSpeedChange) k → s.run.state = .draining → s.run.changeStatus = .draining →
        ∃ u v w x t, exec .cancelSpeedChange s = .next t ∧ TakenAs s c .cancelSpeedChange k u
          ∧ v.run = { u.run.finished with state := .running, changeStatus := .cancelled, drainTarget := none }
          ∧ v.attention = s.attention.withE .speedChangeEnd ∧ v.junction = u.junction.asked [finishOp k .done 0]
          ∧ KeepsBut [.run, .attention, .junction] u v ∧ Evaluates v w ∧ SetExamined w x ∧ Granted x t)
    ∧ (CommandRead s c (some .cancelSpeedChange) k → s.run.state = .draining → s.run.changeStatus = .draining →
        s.output.set.state = .empty → s.output.set.condition = .sound →
        ∃ u t, exec .cancelSpeedChange s = .next t ∧ TakenAs s c .cancelSpeedChange k u
          ∧ EvaluatedAs (((u.setRun { u.run.finished with
              state := .running, changeStatus := .cancelled, drainTarget := none }).setAttention
                (s.attention.withE .speedChangeEnd)).setJunction (u.junction.asked [finishOp k .done 0])) t)
    ∧ (CommandRead s c (some .cancelSpeedChange) k → s.run.state = .respeed → s.run.changeStatus = .relocking →
        ∃ u t, exec .cancelSpeedChange s = .next t ∧ TakenAs s c .cancelSpeedChange k u ∧ StaysAccepted [.drive] u t
          ∧ t.run = { u.run with changeStatus := .returning }
          ∧ t.drive = s.drive.relockTo s.tick s.drive.current c.lockTimeout)
    ∧ (CommandRead s c (some .cancelSpeedChange) k → s.run.state = .draining ∨ s.run.state = .respeed →
        s.run.changeStatus ≠ .draining → s.run.changeStatus ≠ .relocking →
        ∃ t, exec .cancelSpeedChange s = .next t ∧ OnlyFinishes s c k .refusedState 0 t)

/-- CLEAR, allowed and with the path clear and the covers closed: CLEARING is entered. The STRANDED sheets leave their
entries in the order of their handles, each with its references dropped, its STRANDED record and its copy's record
examined; then each of their copies is broken, in the order of their first sheets; the mark is cleared, the set takes
the fate of its condition, the gates are settled, and admission and the end of clearance are examined. The order
within the event, how a mark tells a DISTURBED set cleared, and the end with overrun sheets at an EMPTY set are the
model's readings: notes/assumptions/14.md, 23.md, 39.md and 10.md. -/
def Obligations.ClearCarriedOut : Prop :=
  ∀ (s : State) (c : Configuration) (k : RunningCommand), Memory.wf s.memory = true →
    CommandRead s c (some .clear) k →
    s.run.state = .stopped ∨ ((s.run.state = .clearing ∨ s.run.state = .idle) ∧ s.run.clearanceMark = true) →
    (∀ x, (s.sensor x).covered = false) → s.lines.coverOpen = false →
    let gone := (List.finRange 16).filterMap (fun h =>
      ((s.sheet h).filter (fun sh => sh.state == .stranded)).map (fun sh => (h, sh)))
    ∃ u v w x y z a b t : State, exec .clear s = .next t
      ∧ TakenAs s c .clear k u ∧ v.run = { u.run with state := .clearing } ∧ KeepsBut [.run] u v
      ∧ Each StrandedLeaves gone v w
      ∧ Each (fun p => BreaksCopy p.1 p.2) (firstOfEach (gone.map (fun p => (p.2.plan.copy, p.2.plan.mode)))) w x
      ∧ y.run = { x.run with clearanceMark := false } ∧ KeepsBut [.run] x y ∧ SetCleared y z
      ∧ z.output.loopGate.Settled a.output.loopGate ∧ z.output.routeGate.Settled a.output.routeGate
      ∧ a.output = { z.output with loopGate := a.output.loopGate, routeGate := a.output.routeGate }
      ∧ KeepsBut [.output] z a ∧ (∃ e, Evaluates a e ∧ ClearanceExamined e b) ∧ Granted b t

/-- WITHDRAW removes every queue entry of the sequence or above: their references are dropped, each to a HELD buffer
marking it for replay, their WITHDRAWN records are handed over in order, and the tail becomes BOUNDARY when the last
accepted entry is among them. With an entry removed it finishes DONE with their number; where the first of them is not
its copy's sheet 1 that copy is cut: it is broken, its further entries are withdrawn, and the number carries the CUT
mark. Commands act at their read's completion, the cut is carried out in the same event, and a set it leaves broken is
dumped by the same reading of its conditions: notes/assumptions/10.md, 13.md, 14.md and 40.md. -/
def Obligations.WithdrawEffect : Prop :=
  ∀ (s : State) (c : Configuration) (k : RunningCommand) (first : PlanEntry) (others : List PlanEntry),
    Memory.wf s.memory = true → CommandRead s c (some .withdraw) k →
    let q := (operand1 s c).toNat
    q ≠ 0 → s.plan.queue.filter (fun e => decide (q ≤ e.sequence)) = first :: others →
    let gone := first :: others
    ∃ u v w t, exec .withdraw s = .next t ∧ TakenAs s c .withdraw k u
      ∧ Withdraws gone (s.plan.queue.filter (fun e => decide (e.sequence < q)))
          (if ∃ e ∈ gone, e.sequence = s.plan.lastAccepted then none else s.plan.tail) u v
      ∧ (first.k ≤ 1 → KeepsBut [] v w) ∧ (1 < first.k → BreaksCopy first.copy first.mode v w)
      ∧ t.run = w.run.finished
      ∧ t.junction = (w.junction.asked
          [finishOp k .done (if 1 < first.k then gone.length + 0x8000 else gone.length)]).grant
      ∧ KeepsBut [.run, .junction] w t

/-- RELEASE BUFFER and RECLAIM BUFFER free a HELD buffer of count 0 and a FILLING one, BUFFER AVAILABLE following when
claim-waiting is set; GUARD ON and GUARD OFF switch the guard; SELECT STACKER leaves its stacker pending. Commands act
at their read's completion: notes/assumptions/10.md, the model's reading. -/
def Obligations.BufferGuardStacker : Prop :=
  ∀ (s : State) (c : Configuration) (k : RunningCommand), Memory.wf s.memory = true →
    let op := operand1 s c
    let frees := fun (i : Instr) (code : CommandCode) (b : BufferNo) =>
      ∃ u t, exec i s = .next t ∧ TakenAs s c code k u ∧ CarriedOut k .done 0 [.buffers, .attention] u t
        ∧ t.run = u.run.finished ∧ t.buffer b = ⟨.free, none, 0, false, false⟩
        ∧ (∀ j, j ≠ b → t.buffer j = s.buffer j) ∧ t.buffers.claimWaiting = false
        ∧ t.attention = (if s.buffers.claimWaiting then
            { s.attention with p := s.attention.p.add .bufferAvailable, lineP := true } else s.attention)
    let guards := fun (i : Instr) (code : CommandCode) (on : Bool) =>
      ∃ u t, exec i s = .next t ∧ TakenAs s c code k u ∧ t.run = u.run.finished
        ∧ t.junction = { u.junction.asked [finishOp k .done 0] with guardOn := on }.grant ∧ t.pulses = []
        ∧ KeepsBut [.run, .junction, .pulses] u t
    (∀ b : BufferNo, op.toNat = b.val → b.val < c.bufferCount →
      (CommandRead s c (some .releaseBuffer) k → (s.buffer b).state = .held → (s.buffer b).count = 0 →
        frees .releaseBuffer .releaseBuffer b)
      ∧ (CommandRead s c (some .reclaimBuffer) k → (s.buffer b).state = .filling →
        frees .reclaimBuffer .reclaimBuffer b))
    ∧ (CommandRead s c (some .guardOn) k → s.junction.guardOn = false → guards .guardOn .guardOn true)
    ∧ (CommandRead s c (some .guardOff) k → s.run.state = .idle → s.junction.guardOn = true →
        guards .guardOff .guardOff false)
    ∧ (CommandRead s c (some .selectStacker) k → op = 1 ∨ op = 2 →
        ∃ u t, exec .selectStacker s = .next t ∧ TakenAs s c .selectStacker k u ∧ CarriedOut k .done 0 [.output] u t
          ∧ t.run = u.run.finished
          ∧ t.output = { s.output with selection := some (if op = 1 then .k1 else .k2) })
end

