-- ==== Sys2Proof/Laws/State.lean ====
section
/-! SUPPORT. One lemma per field per update of the state, each true by definition. -/

namespace Sys2Proof.Machine

variable (s : State)

@[simp] theorem State.setTick_tick (x : Tick) : (s.setTick x).tick = x := rfl
@[simp] theorem State.setTick_config (x : Tick) : (s.setTick x).config = s.config := rfl
@[simp] theorem State.setTick_lines (x : Tick) : (s.setTick x).lines = s.lines := rfl
@[simp] theorem State.setTick_memory (x : Tick) : (s.setTick x).memory = s.memory := rfl
@[simp] theorem State.setTick_junction (x : Tick) : (s.setTick x).junction = s.junction := rfl
@[simp] theorem State.setTick_plan (x : Tick) : (s.setTick x).plan = s.plan := rfl
@[simp] theorem State.setTick_buffers (x : Tick) : (s.setTick x).buffers = s.buffers := rfl
@[simp] theorem State.setTick_scheduler (x : Tick) : (s.setTick x).scheduler = s.scheduler := rfl
@[simp] theorem State.setTick_tracker (x : Tick) : (s.setTick x).tracker = s.tracker := rfl
@[simp] theorem State.setTick_output (x : Tick) : (s.setTick x).output = s.output := rfl
@[simp] theorem State.setTick_drive (x : Tick) : (s.setTick x).drive = s.drive := rfl
@[simp] theorem State.setTick_run (x : Tick) : (s.setTick x).run = s.run := rfl
@[simp] theorem State.setTick_log (x : Tick) : (s.setTick x).log = s.log := rfl
@[simp] theorem State.setTick_attention (x : Tick) : (s.setTick x).attention = s.attention := rfl
@[simp] theorem State.setTick_pulses (x : Tick) : (s.setTick x).pulses = s.pulses := rfl
@[simp] theorem State.setTick_freeCount (x : Tick) : (s.setTick x).freeCount = s.freeCount := rfl
@[simp] theorem State.setTick_pending (x : Tick) : (s.setTick x).pending = s.pending := rfl

@[simp] theorem State.setConfig_tick (x : Option Configuration) : (s.setConfig x).tick = s.tick := rfl
@[simp] theorem State.setConfig_config (x : Option Configuration) : (s.setConfig x).config = x := rfl
@[simp] theorem State.setConfig_lines (x : Option Configuration) : (s.setConfig x).lines = s.lines := rfl
@[simp] theorem State.setConfig_memory (x : Option Configuration) : (s.setConfig x).memory = s.memory := rfl
@[simp] theorem State.setConfig_junction (x : Option Configuration) : (s.setConfig x).junction = s.junction := rfl
@[simp] theorem State.setConfig_plan (x : Option Configuration) : (s.setConfig x).plan = s.plan := rfl
@[simp] theorem State.setConfig_buffers (x : Option Configuration) : (s.setConfig x).buffers = s.buffers := rfl
@[simp] theorem State.setConfig_scheduler (x : Option Configuration) : (s.setConfig x).scheduler = s.scheduler := rfl
@[simp] theorem State.setConfig_tracker (x : Option Configuration) : (s.setConfig x).tracker = s.tracker := rfl
@[simp] theorem State.setConfig_output (x : Option Configuration) : (s.setConfig x).output = s.output := rfl
@[simp] theorem State.setConfig_drive (x : Option Configuration) : (s.setConfig x).drive = s.drive := rfl
@[simp] theorem State.setConfig_run (x : Option Configuration) : (s.setConfig x).run = s.run := rfl
@[simp] theorem State.setConfig_log (x : Option Configuration) : (s.setConfig x).log = s.log := rfl
@[simp] theorem State.setConfig_attention (x : Option Configuration) : (s.setConfig x).attention = s.attention := rfl
@[simp] theorem State.setConfig_pulses (x : Option Configuration) : (s.setConfig x).pulses = s.pulses := rfl
@[simp] theorem State.setConfig_freeCount (x : Option Configuration) : (s.setConfig x).freeCount = s.freeCount := rfl
@[simp] theorem State.setConfig_pending (x : Option Configuration) : (s.setConfig x).pending = s.pending := rfl

@[simp] theorem State.setLines_tick (x : Lines) : (s.setLines x).tick = s.tick := rfl
@[simp] theorem State.setLines_config (x : Lines) : (s.setLines x).config = s.config := rfl
@[simp] theorem State.setLines_lines (x : Lines) : (s.setLines x).lines = x := rfl
@[simp] theorem State.setLines_memory (x : Lines) : (s.setLines x).memory = s.memory := rfl
@[simp] theorem State.setLines_junction (x : Lines) : (s.setLines x).junction = s.junction := rfl
@[simp] theorem State.setLines_plan (x : Lines) : (s.setLines x).plan = s.plan := rfl
@[simp] theorem State.setLines_buffers (x : Lines) : (s.setLines x).buffers = s.buffers := rfl
@[simp] theorem State.setLines_scheduler (x : Lines) : (s.setLines x).scheduler = s.scheduler := rfl
@[simp] theorem State.setLines_tracker (x : Lines) : (s.setLines x).tracker = s.tracker := rfl
@[simp] theorem State.setLines_output (x : Lines) : (s.setLines x).output = s.output := rfl
@[simp] theorem State.setLines_drive (x : Lines) : (s.setLines x).drive = s.drive := rfl
@[simp] theorem State.setLines_run (x : Lines) : (s.setLines x).run = s.run := rfl
@[simp] theorem State.setLines_log (x : Lines) : (s.setLines x).log = s.log := rfl
@[simp] theorem State.setLines_attention (x : Lines) : (s.setLines x).attention = s.attention := rfl
@[simp] theorem State.setLines_pulses (x : Lines) : (s.setLines x).pulses = s.pulses := rfl
@[simp] theorem State.setLines_freeCount (x : Lines) : (s.setLines x).freeCount = s.freeCount := rfl
@[simp] theorem State.setLines_pending (x : Lines) : (s.setLines x).pending = s.pending := rfl

@[simp] theorem State.setMemory_tick (x : List Host.Cell) : (s.setMemory x).tick = s.tick := rfl
@[simp] theorem State.setMemory_config (x : List Host.Cell) : (s.setMemory x).config = s.config := rfl
@[simp] theorem State.setMemory_lines (x : List Host.Cell) : (s.setMemory x).lines = s.lines := rfl
@[simp] theorem State.setMemory_memory (x : List Host.Cell) : (s.setMemory x).memory = x := rfl
@[simp] theorem State.setMemory_junction (x : List Host.Cell) : (s.setMemory x).junction = s.junction := rfl
@[simp] theorem State.setMemory_plan (x : List Host.Cell) : (s.setMemory x).plan = s.plan := rfl
@[simp] theorem State.setMemory_buffers (x : List Host.Cell) : (s.setMemory x).buffers = s.buffers := rfl
@[simp] theorem State.setMemory_scheduler (x : List Host.Cell) : (s.setMemory x).scheduler = s.scheduler := rfl
@[simp] theorem State.setMemory_tracker (x : List Host.Cell) : (s.setMemory x).tracker = s.tracker := rfl
@[simp] theorem State.setMemory_output (x : List Host.Cell) : (s.setMemory x).output = s.output := rfl
@[simp] theorem State.setMemory_drive (x : List Host.Cell) : (s.setMemory x).drive = s.drive := rfl
@[simp] theorem State.setMemory_run (x : List Host.Cell) : (s.setMemory x).run = s.run := rfl
@[simp] theorem State.setMemory_log (x : List Host.Cell) : (s.setMemory x).log = s.log := rfl
@[simp] theorem State.setMemory_attention (x : List Host.Cell) : (s.setMemory x).attention = s.attention := rfl
@[simp] theorem State.setMemory_pulses (x : List Host.Cell) : (s.setMemory x).pulses = s.pulses := rfl
@[simp] theorem State.setMemory_freeCount (x : List Host.Cell) : (s.setMemory x).freeCount = s.freeCount := rfl
@[simp] theorem State.setMemory_pending (x : List Host.Cell) : (s.setMemory x).pending = s.pending := rfl

@[simp] theorem State.setJunction_tick (x : Junction) : (s.setJunction x).tick = s.tick := rfl
@[simp] theorem State.setJunction_config (x : Junction) : (s.setJunction x).config = s.config := rfl
@[simp] theorem State.setJunction_lines (x : Junction) : (s.setJunction x).lines = s.lines := rfl
@[simp] theorem State.setJunction_memory (x : Junction) : (s.setJunction x).memory = s.memory := rfl
@[simp] theorem State.setJunction_junction (x : Junction) : (s.setJunction x).junction = x := rfl
@[simp] theorem State.setJunction_plan (x : Junction) : (s.setJunction x).plan = s.plan := rfl
@[simp] theorem State.setJunction_buffers (x : Junction) : (s.setJunction x).buffers = s.buffers := rfl
@[simp] theorem State.setJunction_scheduler (x : Junction) : (s.setJunction x).scheduler = s.scheduler := rfl
@[simp] theorem State.setJunction_tracker (x : Junction) : (s.setJunction x).tracker = s.tracker := rfl
@[simp] theorem State.setJunction_output (x : Junction) : (s.setJunction x).output = s.output := rfl
@[simp] theorem State.setJunction_drive (x : Junction) : (s.setJunction x).drive = s.drive := rfl
@[simp] theorem State.setJunction_run (x : Junction) : (s.setJunction x).run = s.run := rfl
@[simp] theorem State.setJunction_log (x : Junction) : (s.setJunction x).log = s.log := rfl
@[simp] theorem State.setJunction_attention (x : Junction) : (s.setJunction x).attention = s.attention := rfl
@[simp] theorem State.setJunction_pulses (x : Junction) : (s.setJunction x).pulses = s.pulses := rfl
@[simp] theorem State.setJunction_freeCount (x : Junction) : (s.setJunction x).freeCount = s.freeCount := rfl
@[simp] theorem State.setJunction_pending (x : Junction) : (s.setJunction x).pending = s.pending := rfl

@[simp] theorem State.setPlan_tick (x : PlanIntake) : (s.setPlan x).tick = s.tick := rfl
@[simp] theorem State.setPlan_config (x : PlanIntake) : (s.setPlan x).config = s.config := rfl
@[simp] theorem State.setPlan_lines (x : PlanIntake) : (s.setPlan x).lines = s.lines := rfl
@[simp] theorem State.setPlan_memory (x : PlanIntake) : (s.setPlan x).memory = s.memory := rfl
@[simp] theorem State.setPlan_junction (x : PlanIntake) : (s.setPlan x).junction = s.junction := rfl
@[simp] theorem State.setPlan_plan (x : PlanIntake) : (s.setPlan x).plan = x := rfl
@[simp] theorem State.setPlan_buffers (x : PlanIntake) : (s.setPlan x).buffers = s.buffers := rfl
@[simp] theorem State.setPlan_scheduler (x : PlanIntake) : (s.setPlan x).scheduler = s.scheduler := rfl
@[simp] theorem State.setPlan_tracker (x : PlanIntake) : (s.setPlan x).tracker = s.tracker := rfl
@[simp] theorem State.setPlan_output (x : PlanIntake) : (s.setPlan x).output = s.output := rfl
@[simp] theorem State.setPlan_drive (x : PlanIntake) : (s.setPlan x).drive = s.drive := rfl
@[simp] theorem State.setPlan_run (x : PlanIntake) : (s.setPlan x).run = s.run := rfl
@[simp] theorem State.setPlan_log (x : PlanIntake) : (s.setPlan x).log = s.log := rfl
@[simp] theorem State.setPlan_attention (x : PlanIntake) : (s.setPlan x).attention = s.attention := rfl
@[simp] theorem State.setPlan_pulses (x : PlanIntake) : (s.setPlan x).pulses = s.pulses := rfl
@[simp] theorem State.setPlan_freeCount (x : PlanIntake) : (s.setPlan x).freeCount = s.freeCount := rfl
@[simp] theorem State.setPlan_pending (x : PlanIntake) : (s.setPlan x).pending = s.pending := rfl

@[simp] theorem State.setBuffers_tick (x : Residency) : (s.setBuffers x).tick = s.tick := rfl
@[simp] theorem State.setBuffers_config (x : Residency) : (s.setBuffers x).config = s.config := rfl
@[simp] theorem State.setBuffers_lines (x : Residency) : (s.setBuffers x).lines = s.lines := rfl
@[simp] theorem State.setBuffers_memory (x : Residency) : (s.setBuffers x).memory = s.memory := rfl
@[simp] theorem State.setBuffers_junction (x : Residency) : (s.setBuffers x).junction = s.junction := rfl
@[simp] theorem State.setBuffers_plan (x : Residency) : (s.setBuffers x).plan = s.plan := rfl
@[simp] theorem State.setBuffers_buffers (x : Residency) : (s.setBuffers x).buffers = x := rfl
@[simp] theorem State.setBuffers_scheduler (x : Residency) : (s.setBuffers x).scheduler = s.scheduler := rfl
@[simp] theorem State.setBuffers_tracker (x : Residency) : (s.setBuffers x).tracker = s.tracker := rfl
@[simp] theorem State.setBuffers_output (x : Residency) : (s.setBuffers x).output = s.output := rfl
@[simp] theorem State.setBuffers_drive (x : Residency) : (s.setBuffers x).drive = s.drive := rfl
@[simp] theorem State.setBuffers_run (x : Residency) : (s.setBuffers x).run = s.run := rfl
@[simp] theorem State.setBuffers_log (x : Residency) : (s.setBuffers x).log = s.log := rfl
@[simp] theorem State.setBuffers_attention (x : Residency) : (s.setBuffers x).attention = s.attention := rfl
@[simp] theorem State.setBuffers_pulses (x : Residency) : (s.setBuffers x).pulses = s.pulses := rfl
@[simp] theorem State.setBuffers_freeCount (x : Residency) : (s.setBuffers x).freeCount = s.freeCount := rfl
@[simp] theorem State.setBuffers_pending (x : Residency) : (s.setBuffers x).pending = s.pending := rfl

@[simp] theorem State.setScheduler_tick (x : Scheduler) : (s.setScheduler x).tick = s.tick := rfl
@[simp] theorem State.setScheduler_config (x : Scheduler) : (s.setScheduler x).config = s.config := rfl
@[simp] theorem State.setScheduler_lines (x : Scheduler) : (s.setScheduler x).lines = s.lines := rfl
@[simp] theorem State.setScheduler_memory (x : Scheduler) : (s.setScheduler x).memory = s.memory := rfl
@[simp] theorem State.setScheduler_junction (x : Scheduler) : (s.setScheduler x).junction = s.junction := rfl
@[simp] theorem State.setScheduler_plan (x : Scheduler) : (s.setScheduler x).plan = s.plan := rfl
@[simp] theorem State.setScheduler_buffers (x : Scheduler) : (s.setScheduler x).buffers = s.buffers := rfl
@[simp] theorem State.setScheduler_scheduler (x : Scheduler) : (s.setScheduler x).scheduler = x := rfl
@[simp] theorem State.setScheduler_tracker (x : Scheduler) : (s.setScheduler x).tracker = s.tracker := rfl
@[simp] theorem State.setScheduler_output (x : Scheduler) : (s.setScheduler x).output = s.output := rfl
@[simp] theorem State.setScheduler_drive (x : Scheduler) : (s.setScheduler x).drive = s.drive := rfl
@[simp] theorem State.setScheduler_run (x : Scheduler) : (s.setScheduler x).run = s.run := rfl
@[simp] theorem State.setScheduler_log (x : Scheduler) : (s.setScheduler x).log = s.log := rfl
@[simp] theorem State.setScheduler_attention (x : Scheduler) : (s.setScheduler x).attention = s.attention := rfl
@[simp] theorem State.setScheduler_pulses (x : Scheduler) : (s.setScheduler x).pulses = s.pulses := rfl
@[simp] theorem State.setScheduler_freeCount (x : Scheduler) : (s.setScheduler x).freeCount = s.freeCount := rfl
@[simp] theorem State.setScheduler_pending (x : Scheduler) : (s.setScheduler x).pending = s.pending := rfl

@[simp] theorem State.setTracker_tick (x : Tracker) : (s.setTracker x).tick = s.tick := rfl
@[simp] theorem State.setTracker_config (x : Tracker) : (s.setTracker x).config = s.config := rfl
@[simp] theorem State.setTracker_lines (x : Tracker) : (s.setTracker x).lines = s.lines := rfl
@[simp] theorem State.setTracker_memory (x : Tracker) : (s.setTracker x).memory = s.memory := rfl
@[simp] theorem State.setTracker_junction (x : Tracker) : (s.setTracker x).junction = s.junction := rfl
@[simp] theorem State.setTracker_plan (x : Tracker) : (s.setTracker x).plan = s.plan := rfl
@[simp] theorem State.setTracker_buffers (x : Tracker) : (s.setTracker x).buffers = s.buffers := rfl
@[simp] theorem State.setTracker_scheduler (x : Tracker) : (s.setTracker x).scheduler = s.scheduler := rfl
@[simp] theorem State.setTracker_tracker (x : Tracker) : (s.setTracker x).tracker = x := rfl
@[simp] theorem State.setTracker_output (x : Tracker) : (s.setTracker x).output = s.output := rfl
@[simp] theorem State.setTracker_drive (x : Tracker) : (s.setTracker x).drive = s.drive := rfl
@[simp] theorem State.setTracker_run (x : Tracker) : (s.setTracker x).run = s.run := rfl
@[simp] theorem State.setTracker_log (x : Tracker) : (s.setTracker x).log = s.log := rfl
@[simp] theorem State.setTracker_attention (x : Tracker) : (s.setTracker x).attention = s.attention := rfl
@[simp] theorem State.setTracker_pulses (x : Tracker) : (s.setTracker x).pulses = s.pulses := rfl
@[simp] theorem State.setTracker_freeCount (x : Tracker) : (s.setTracker x).freeCount = s.freeCount := rfl
@[simp] theorem State.setTracker_pending (x : Tracker) : (s.setTracker x).pending = s.pending := rfl

@[simp] theorem State.setOutput_tick (x : OutputUnit) : (s.setOutput x).tick = s.tick := rfl
@[simp] theorem State.setOutput_config (x : OutputUnit) : (s.setOutput x).config = s.config := rfl
@[simp] theorem State.setOutput_lines (x : OutputUnit) : (s.setOutput x).lines = s.lines := rfl
@[simp] theorem State.setOutput_memory (x : OutputUnit) : (s.setOutput x).memory = s.memory := rfl
@[simp] theorem State.setOutput_junction (x : OutputUnit) : (s.setOutput x).junction = s.junction := rfl
@[simp] theorem State.setOutput_plan (x : OutputUnit) : (s.setOutput x).plan = s.plan := rfl
@[simp] theorem State.setOutput_buffers (x : OutputUnit) : (s.setOutput x).buffers = s.buffers := rfl
@[simp] theorem State.setOutput_scheduler (x : OutputUnit) : (s.setOutput x).scheduler = s.scheduler := rfl
@[simp] theorem State.setOutput_tracker (x : OutputUnit) : (s.setOutput x).tracker = s.tracker := rfl
@[simp] theorem State.setOutput_output (x : OutputUnit) : (s.setOutput x).output = x := rfl
@[simp] theorem State.setOutput_drive (x : OutputUnit) : (s.setOutput x).drive = s.drive := rfl
@[simp] theorem State.setOutput_run (x : OutputUnit) : (s.setOutput x).run = s.run := rfl
@[simp] theorem State.setOutput_log (x : OutputUnit) : (s.setOutput x).log = s.log := rfl
@[simp] theorem State.setOutput_attention (x : OutputUnit) : (s.setOutput x).attention = s.attention := rfl
@[simp] theorem State.setOutput_pulses (x : OutputUnit) : (s.setOutput x).pulses = s.pulses := rfl
@[simp] theorem State.setOutput_freeCount (x : OutputUnit) : (s.setOutput x).freeCount = s.freeCount := rfl
@[simp] theorem State.setOutput_pending (x : OutputUnit) : (s.setOutput x).pending = s.pending := rfl

@[simp] theorem State.setDrive_tick (x : Drive) : (s.setDrive x).tick = s.tick := rfl
@[simp] theorem State.setDrive_config (x : Drive) : (s.setDrive x).config = s.config := rfl
@[simp] theorem State.setDrive_lines (x : Drive) : (s.setDrive x).lines = s.lines := rfl
@[simp] theorem State.setDrive_memory (x : Drive) : (s.setDrive x).memory = s.memory := rfl
@[simp] theorem State.setDrive_junction (x : Drive) : (s.setDrive x).junction = s.junction := rfl
@[simp] theorem State.setDrive_plan (x : Drive) : (s.setDrive x).plan = s.plan := rfl
@[simp] theorem State.setDrive_buffers (x : Drive) : (s.setDrive x).buffers = s.buffers := rfl
@[simp] theorem State.setDrive_scheduler (x : Drive) : (s.setDrive x).scheduler = s.scheduler := rfl
@[simp] theorem State.setDrive_tracker (x : Drive) : (s.setDrive x).tracker = s.tracker := rfl
@[simp] theorem State.setDrive_output (x : Drive) : (s.setDrive x).output = s.output := rfl
@[simp] theorem State.setDrive_drive (x : Drive) : (s.setDrive x).drive = x := rfl
@[simp] theorem State.setDrive_run (x : Drive) : (s.setDrive x).run = s.run := rfl
@[simp] theorem State.setDrive_log (x : Drive) : (s.setDrive x).log = s.log := rfl
@[simp] theorem State.setDrive_attention (x : Drive) : (s.setDrive x).attention = s.attention := rfl
@[simp] theorem State.setDrive_pulses (x : Drive) : (s.setDrive x).pulses = s.pulses := rfl
@[simp] theorem State.setDrive_freeCount (x : Drive) : (s.setDrive x).freeCount = s.freeCount := rfl
@[simp] theorem State.setDrive_pending (x : Drive) : (s.setDrive x).pending = s.pending := rfl

@[simp] theorem State.setRun_tick (x : RunControl) : (s.setRun x).tick = s.tick := rfl
@[simp] theorem State.setRun_config (x : RunControl) : (s.setRun x).config = s.config := rfl
@[simp] theorem State.setRun_lines (x : RunControl) : (s.setRun x).lines = s.lines := rfl
@[simp] theorem State.setRun_memory (x : RunControl) : (s.setRun x).memory = s.memory := rfl
@[simp] theorem State.setRun_junction (x : RunControl) : (s.setRun x).junction = s.junction := rfl
@[simp] theorem State.setRun_plan (x : RunControl) : (s.setRun x).plan = s.plan := rfl
@[simp] theorem State.setRun_buffers (x : RunControl) : (s.setRun x).buffers = s.buffers := rfl
@[simp] theorem State.setRun_scheduler (x : RunControl) : (s.setRun x).scheduler = s.scheduler := rfl
@[simp] theorem State.setRun_tracker (x : RunControl) : (s.setRun x).tracker = s.tracker := rfl
@[simp] theorem State.setRun_output (x : RunControl) : (s.setRun x).output = s.output := rfl
@[simp] theorem State.setRun_drive (x : RunControl) : (s.setRun x).drive = s.drive := rfl
@[simp] theorem State.setRun_run (x : RunControl) : (s.setRun x).run = x := rfl
@[simp] theorem State.setRun_log (x : RunControl) : (s.setRun x).log = s.log := rfl
@[simp] theorem State.setRun_attention (x : RunControl) : (s.setRun x).attention = s.attention := rfl
@[simp] theorem State.setRun_pulses (x : RunControl) : (s.setRun x).pulses = s.pulses := rfl
@[simp] theorem State.setRun_freeCount (x : RunControl) : (s.setRun x).freeCount = s.freeCount := rfl
@[simp] theorem State.setRun_pending (x : RunControl) : (s.setRun x).pending = s.pending := rfl

@[simp] theorem State.setLog_tick (x : LogWriter) : (s.setLog x).tick = s.tick := rfl
@[simp] theorem State.setLog_config (x : LogWriter) : (s.setLog x).config = s.config := rfl
@[simp] theorem State.setLog_lines (x : LogWriter) : (s.setLog x).lines = s.lines := rfl
@[simp] theorem State.setLog_memory (x : LogWriter) : (s.setLog x).memory = s.memory := rfl
@[simp] theorem State.setLog_junction (x : LogWriter) : (s.setLog x).junction = s.junction := rfl
@[simp] theorem State.setLog_plan (x : LogWriter) : (s.setLog x).plan = s.plan := rfl
@[simp] theorem State.setLog_buffers (x : LogWriter) : (s.setLog x).buffers = s.buffers := rfl
@[simp] theorem State.setLog_scheduler (x : LogWriter) : (s.setLog x).scheduler = s.scheduler := rfl
@[simp] theorem State.setLog_tracker (x : LogWriter) : (s.setLog x).tracker = s.tracker := rfl
@[simp] theorem State.setLog_output (x : LogWriter) : (s.setLog x).output = s.output := rfl
@[simp] theorem State.setLog_drive (x : LogWriter) : (s.setLog x).drive = s.drive := rfl
@[simp] theorem State.setLog_run (x : LogWriter) : (s.setLog x).run = s.run := rfl
@[simp] theorem State.setLog_log (x : LogWriter) : (s.setLog x).log = x := rfl
@[simp] theorem State.setLog_attention (x : LogWriter) : (s.setLog x).attention = s.attention := rfl
@[simp] theorem State.setLog_pulses (x : LogWriter) : (s.setLog x).pulses = s.pulses := rfl
@[simp] theorem State.setLog_freeCount (x : LogWriter) : (s.setLog x).freeCount = s.freeCount := rfl
@[simp] theorem State.setLog_pending (x : LogWriter) : (s.setLog x).pending = s.pending := rfl

@[simp] theorem State.setAttention_tick (x : Attention) : (s.setAttention x).tick = s.tick := rfl
@[simp] theorem State.setAttention_config (x : Attention) : (s.setAttention x).config = s.config := rfl
@[simp] theorem State.setAttention_lines (x : Attention) : (s.setAttention x).lines = s.lines := rfl
@[simp] theorem State.setAttention_memory (x : Attention) : (s.setAttention x).memory = s.memory := rfl
@[simp] theorem State.setAttention_junction (x : Attention) : (s.setAttention x).junction = s.junction := rfl
@[simp] theorem State.setAttention_plan (x : Attention) : (s.setAttention x).plan = s.plan := rfl
@[simp] theorem State.setAttention_buffers (x : Attention) : (s.setAttention x).buffers = s.buffers := rfl
@[simp] theorem State.setAttention_scheduler (x : Attention) : (s.setAttention x).scheduler = s.scheduler := rfl
@[simp] theorem State.setAttention_tracker (x : Attention) : (s.setAttention x).tracker = s.tracker := rfl
@[simp] theorem State.setAttention_output (x : Attention) : (s.setAttention x).output = s.output := rfl
@[simp] theorem State.setAttention_drive (x : Attention) : (s.setAttention x).drive = s.drive := rfl
@[simp] theorem State.setAttention_run (x : Attention) : (s.setAttention x).run = s.run := rfl
@[simp] theorem State.setAttention_log (x : Attention) : (s.setAttention x).log = s.log := rfl
@[simp] theorem State.setAttention_attention (x : Attention) : (s.setAttention x).attention = x := rfl
@[simp] theorem State.setAttention_pulses (x : Attention) : (s.setAttention x).pulses = s.pulses := rfl
@[simp] theorem State.setAttention_freeCount (x : Attention) : (s.setAttention x).freeCount = s.freeCount := rfl
@[simp] theorem State.setAttention_pending (x : Attention) : (s.setAttention x).pending = s.pending := rfl

@[simp] theorem State.setPulses_tick (x : List Pulse) : (s.setPulses x).tick = s.tick := rfl
@[simp] theorem State.setPulses_config (x : List Pulse) : (s.setPulses x).config = s.config := rfl
@[simp] theorem State.setPulses_lines (x : List Pulse) : (s.setPulses x).lines = s.lines := rfl
@[simp] theorem State.setPulses_memory (x : List Pulse) : (s.setPulses x).memory = s.memory := rfl
@[simp] theorem State.setPulses_junction (x : List Pulse) : (s.setPulses x).junction = s.junction := rfl
@[simp] theorem State.setPulses_plan (x : List Pulse) : (s.setPulses x).plan = s.plan := rfl
@[simp] theorem State.setPulses_buffers (x : List Pulse) : (s.setPulses x).buffers = s.buffers := rfl
@[simp] theorem State.setPulses_scheduler (x : List Pulse) : (s.setPulses x).scheduler = s.scheduler := rfl
@[simp] theorem State.setPulses_tracker (x : List Pulse) : (s.setPulses x).tracker = s.tracker := rfl
@[simp] theorem State.setPulses_output (x : List Pulse) : (s.setPulses x).output = s.output := rfl
@[simp] theorem State.setPulses_drive (x : List Pulse) : (s.setPulses x).drive = s.drive := rfl
@[simp] theorem State.setPulses_run (x : List Pulse) : (s.setPulses x).run = s.run := rfl
@[simp] theorem State.setPulses_log (x : List Pulse) : (s.setPulses x).log = s.log := rfl
@[simp] theorem State.setPulses_attention (x : List Pulse) : (s.setPulses x).attention = s.attention := rfl
@[simp] theorem State.setPulses_pulses (x : List Pulse) : (s.setPulses x).pulses = x := rfl
@[simp] theorem State.setPulses_freeCount (x : List Pulse) : (s.setPulses x).freeCount = s.freeCount := rfl
@[simp] theorem State.setPulses_pending (x : List Pulse) : (s.setPulses x).pending = s.pending := rfl

@[simp] theorem State.setFreeCount_tick (x : Nat) : (s.setFreeCount x).tick = s.tick := rfl
@[simp] theorem State.setFreeCount_config (x : Nat) : (s.setFreeCount x).config = s.config := rfl
@[simp] theorem State.setFreeCount_lines (x : Nat) : (s.setFreeCount x).lines = s.lines := rfl
@[simp] theorem State.setFreeCount_memory (x : Nat) : (s.setFreeCount x).memory = s.memory := rfl
@[simp] theorem State.setFreeCount_junction (x : Nat) : (s.setFreeCount x).junction = s.junction := rfl
@[simp] theorem State.setFreeCount_plan (x : Nat) : (s.setFreeCount x).plan = s.plan := rfl
@[simp] theorem State.setFreeCount_buffers (x : Nat) : (s.setFreeCount x).buffers = s.buffers := rfl
@[simp] theorem State.setFreeCount_scheduler (x : Nat) : (s.setFreeCount x).scheduler = s.scheduler := rfl
@[simp] theorem State.setFreeCount_tracker (x : Nat) : (s.setFreeCount x).tracker = s.tracker := rfl
@[simp] theorem State.setFreeCount_output (x : Nat) : (s.setFreeCount x).output = s.output := rfl
@[simp] theorem State.setFreeCount_drive (x : Nat) : (s.setFreeCount x).drive = s.drive := rfl
@[simp] theorem State.setFreeCount_run (x : Nat) : (s.setFreeCount x).run = s.run := rfl
@[simp] theorem State.setFreeCount_log (x : Nat) : (s.setFreeCount x).log = s.log := rfl
@[simp] theorem State.setFreeCount_attention (x : Nat) : (s.setFreeCount x).attention = s.attention := rfl
@[simp] theorem State.setFreeCount_pulses (x : Nat) : (s.setFreeCount x).pulses = s.pulses := rfl
@[simp] theorem State.setFreeCount_freeCount (x : Nat) : (s.setFreeCount x).freeCount = x := rfl
@[simp] theorem State.setFreeCount_pending (x : Nat) : (s.setFreeCount x).pending = s.pending := rfl

@[simp] theorem State.setPending_tick (x : List Instr) : (s.setPending x).tick = s.tick := rfl
@[simp] theorem State.setPending_config (x : List Instr) : (s.setPending x).config = s.config := rfl
@[simp] theorem State.setPending_lines (x : List Instr) : (s.setPending x).lines = s.lines := rfl
@[simp] theorem State.setPending_memory (x : List Instr) : (s.setPending x).memory = s.memory := rfl
@[simp] theorem State.setPending_junction (x : List Instr) : (s.setPending x).junction = s.junction := rfl
@[simp] theorem State.setPending_plan (x : List Instr) : (s.setPending x).plan = s.plan := rfl
@[simp] theorem State.setPending_buffers (x : List Instr) : (s.setPending x).buffers = s.buffers := rfl
@[simp] theorem State.setPending_scheduler (x : List Instr) : (s.setPending x).scheduler = s.scheduler := rfl
@[simp] theorem State.setPending_tracker (x : List Instr) : (s.setPending x).tracker = s.tracker := rfl
@[simp] theorem State.setPending_output (x : List Instr) : (s.setPending x).output = s.output := rfl
@[simp] theorem State.setPending_drive (x : List Instr) : (s.setPending x).drive = s.drive := rfl
@[simp] theorem State.setPending_run (x : List Instr) : (s.setPending x).run = s.run := rfl
@[simp] theorem State.setPending_log (x : List Instr) : (s.setPending x).log = s.log := rfl
@[simp] theorem State.setPending_attention (x : List Instr) : (s.setPending x).attention = s.attention := rfl
@[simp] theorem State.setPending_pulses (x : List Instr) : (s.setPending x).pulses = s.pulses := rfl
@[simp] theorem State.setPending_freeCount (x : List Instr) : (s.setPending x).freeCount = s.freeCount := rfl
@[simp] theorem State.setPending_pending (x : List Instr) : (s.setPending x).pending = x := rfl

@[simp] theorem State.begin_tick : s.begin.tick = s.tick := rfl
@[simp] theorem State.begin_config : s.begin.config = s.config := rfl
@[simp] theorem State.begin_lines : s.begin.lines = s.lines := rfl
@[simp] theorem State.begin_memory : s.begin.memory = s.memory := rfl
@[simp] theorem State.begin_junction : s.begin.junction = s.junction := rfl
@[simp] theorem State.begin_plan : s.begin.plan = s.plan := rfl
@[simp] theorem State.begin_buffers : s.begin.buffers = s.buffers := rfl
@[simp] theorem State.begin_scheduler : s.begin.scheduler = s.scheduler := rfl
@[simp] theorem State.begin_tracker : s.begin.tracker = s.tracker := rfl
@[simp] theorem State.begin_output : s.begin.output = s.output := rfl
@[simp] theorem State.begin_drive : s.begin.drive = s.drive := rfl
@[simp] theorem State.begin_run : s.begin.run = s.run := rfl
@[simp] theorem State.begin_log : s.begin.log = s.log := rfl
@[simp] theorem State.begin_attention : s.begin.attention = s.attention := rfl
@[simp] theorem State.begin_pulses : s.begin.pulses = [] := rfl
@[simp] theorem State.begin_freeCount : s.begin.freeCount = s.freeCount + 1 := rfl
@[simp] theorem State.begin_pending : s.begin.pending = s.pending := rfl

@[simp] theorem State.pulse_tick (p : Pulse) : (s.pulse p).tick = s.tick := rfl
@[simp] theorem State.pulse_config (p : Pulse) : (s.pulse p).config = s.config := rfl
@[simp] theorem State.pulse_lines (p : Pulse) : (s.pulse p).lines = s.lines := rfl
@[simp] theorem State.pulse_memory (p : Pulse) : (s.pulse p).memory = s.memory := rfl
@[simp] theorem State.pulse_junction (p : Pulse) : (s.pulse p).junction = s.junction := rfl
@[simp] theorem State.pulse_plan (p : Pulse) : (s.pulse p).plan = s.plan := rfl
@[simp] theorem State.pulse_buffers (p : Pulse) : (s.pulse p).buffers = s.buffers := rfl
@[simp] theorem State.pulse_scheduler (p : Pulse) : (s.pulse p).scheduler = s.scheduler := rfl
@[simp] theorem State.pulse_tracker (p : Pulse) : (s.pulse p).tracker = s.tracker := rfl
@[simp] theorem State.pulse_output (p : Pulse) : (s.pulse p).output = s.output := rfl
@[simp] theorem State.pulse_drive (p : Pulse) : (s.pulse p).drive = s.drive := rfl
@[simp] theorem State.pulse_run (p : Pulse) : (s.pulse p).run = s.run := rfl
@[simp] theorem State.pulse_log (p : Pulse) : (s.pulse p).log = s.log := rfl
@[simp] theorem State.pulse_attention (p : Pulse) : (s.pulse p).attention = s.attention := rfl
@[simp] theorem State.pulse_pulses (p : Pulse) : (s.pulse p).pulses = s.pulses ++ [p] := rfl
@[simp] theorem State.pulse_freeCount (p : Pulse) : (s.pulse p).freeCount = s.freeCount := rfl
@[simp] theorem State.pulse_pending (p : Pulse) : (s.pulse p).pending = s.pending := rfl

end Sys2Proof.Machine
end

