-- ==== Sys2Proof/Laws/Frames.lean ====
section
/-! SUPPORT. What each shared operation leaves alone: every block it does not act on, the pulses that move a sheet, and
the memory junction apart from the agent's queue. -/

namespace Sys2Proof.Machine

variable (s : State)

@[simp] theorem State.begin_keeps :
    s.begin.tick = s.tick ∧ s.begin.config = s.config ∧ s.begin.lines = s.lines ∧ s.begin.memory = s.memory
    ∧ s.begin.junction = s.junction ∧ s.begin.plan = s.plan ∧ s.begin.buffers = s.buffers
    ∧ s.begin.scheduler = s.scheduler ∧ s.begin.tracker = s.tracker ∧ s.begin.output = s.output
    ∧ s.begin.drive = s.drive ∧ s.begin.run = s.run ∧ s.begin.log = s.log ∧ s.begin.attention = s.attention
    ∧ s.begin.pulses = [] ∧ s.begin.freeCount = s.freeCount + 1 ∧ s.begin.pending = s.pending := by
  simp [State.begin]

@[simp] theorem State.pulse_keeps (p : Pulse) :
    (s.pulse p).tick = s.tick ∧ (s.pulse p).config = s.config ∧ (s.pulse p).lines = s.lines
    ∧ (s.pulse p).memory = s.memory ∧ (s.pulse p).junction = s.junction ∧ (s.pulse p).plan = s.plan
    ∧ (s.pulse p).buffers = s.buffers ∧ (s.pulse p).scheduler = s.scheduler ∧ (s.pulse p).tracker = s.tracker
    ∧ (s.pulse p).output = s.output ∧ (s.pulse p).drive = s.drive ∧ (s.pulse p).run = s.run
    ∧ (s.pulse p).log = s.log ∧ (s.pulse p).attention = s.attention ∧ (s.pulse p).pulses = s.pulses ++ [p]
    ∧ (s.pulse p).freeCount = s.freeCount ∧ (s.pulse p).pending = s.pending := by
  simp [State.pulse]

@[simp] theorem Junction.rest_queue (j : Junction) (q : List RecordOp) :
    Junction.rest { j with agentQueue := q } = j.rest := rfl

@[simp] theorem Pulse.eject_movesSheet (d : Destination) : (Pulse.eject d).movesSheet = false := rfl

@[simp] theorem State.raiseE_keeps (c : ECondition) :
    (s.raiseE c).tick = s.tick ∧ (s.raiseE c).config = s.config ∧ (s.raiseE c).lines = s.lines
    ∧ (s.raiseE c).memory = s.memory ∧ (s.raiseE c).junction = s.junction ∧ (s.raiseE c).plan = s.plan
    ∧ (s.raiseE c).buffers = s.buffers ∧ (s.raiseE c).scheduler = s.scheduler ∧ (s.raiseE c).tracker = s.tracker
    ∧ (s.raiseE c).output = s.output ∧ (s.raiseE c).drive = s.drive ∧ (s.raiseE c).run = s.run
    ∧ (s.raiseE c).log = s.log ∧ (s.raiseE c).pulses = s.pulses ∧ (s.raiseE c).freeCount = s.freeCount
    ∧ (s.raiseE c).pending = s.pending := by
  simp [State.raiseE]

@[simp] theorem State.raiseP_keeps (c : PCondition) :
    (s.raiseP c).tick = s.tick ∧ (s.raiseP c).config = s.config ∧ (s.raiseP c).lines = s.lines
    ∧ (s.raiseP c).memory = s.memory ∧ (s.raiseP c).junction = s.junction ∧ (s.raiseP c).plan = s.plan
    ∧ (s.raiseP c).buffers = s.buffers ∧ (s.raiseP c).scheduler = s.scheduler ∧ (s.raiseP c).tracker = s.tracker
    ∧ (s.raiseP c).output = s.output ∧ (s.raiseP c).drive = s.drive ∧ (s.raiseP c).run = s.run
    ∧ (s.raiseP c).log = s.log ∧ (s.raiseP c).pulses = s.pulses ∧ (s.raiseP c).freeCount = s.freeCount
    ∧ (s.raiseP c).pending = s.pending := by
  simp [State.raiseP]

@[simp] theorem State.clearE_keeps :
    (s.clearE).tick = s.tick ∧ (s.clearE).config = s.config ∧ (s.clearE).lines = s.lines
    ∧ (s.clearE).memory = s.memory ∧ (s.clearE).junction = s.junction ∧ (s.clearE).plan = s.plan
    ∧ (s.clearE).buffers = s.buffers ∧ (s.clearE).scheduler = s.scheduler ∧ (s.clearE).tracker = s.tracker
    ∧ (s.clearE).output = s.output ∧ (s.clearE).drive = s.drive ∧ (s.clearE).run = s.run ∧ (s.clearE).log = s.log
    ∧ (s.clearE).pulses = s.pulses ∧ (s.clearE).freeCount = s.freeCount ∧ (s.clearE).pending = s.pending := by
  simp [State.clearE]

@[simp] theorem State.clearP_keeps :
    (s.clearP).tick = s.tick ∧ (s.clearP).config = s.config ∧ (s.clearP).lines = s.lines
    ∧ (s.clearP).memory = s.memory ∧ (s.clearP).junction = s.junction ∧ (s.clearP).plan = s.plan
    ∧ (s.clearP).buffers = s.buffers ∧ (s.clearP).scheduler = s.scheduler ∧ (s.clearP).tracker = s.tracker
    ∧ (s.clearP).output = s.output ∧ (s.clearP).drive = s.drive ∧ (s.clearP).run = s.run ∧ (s.clearP).log = s.log
    ∧ (s.clearP).pulses = s.pulses ∧ (s.clearP).freeCount = s.freeCount ∧ (s.clearP).pending = s.pending := by
  simp [State.clearP]

@[simp] theorem State.ask_keeps (op : RecordOp) :
    (s.ask op).tick = s.tick ∧ (s.ask op).config = s.config ∧ (s.ask op).lines = s.lines
    ∧ (s.ask op).memory = s.memory ∧ (s.ask op).plan = s.plan ∧ (s.ask op).buffers = s.buffers
    ∧ (s.ask op).scheduler = s.scheduler ∧ (s.ask op).tracker = s.tracker ∧ (s.ask op).output = s.output
    ∧ (s.ask op).drive = s.drive ∧ (s.ask op).run = s.run ∧ (s.ask op).log = s.log
    ∧ (s.ask op).attention = s.attention ∧ (s.ask op).pulses = s.pulses ∧ (s.ask op).freeCount = s.freeCount
    ∧ (s.ask op).pending = s.pending ∧ (s.ask op).junction.rest = s.junction.rest := by
  simp [State.ask]

@[simp] theorem State.grant_keeps :
    (s.grant).tick = s.tick ∧ (s.grant).config = s.config ∧ (s.grant).lines = s.lines ∧ (s.grant).memory = s.memory
    ∧ (s.grant).plan = s.plan ∧ (s.grant).buffers = s.buffers ∧ (s.grant).scheduler = s.scheduler
    ∧ (s.grant).tracker = s.tracker ∧ (s.grant).output = s.output ∧ (s.grant).drive = s.drive
    ∧ (s.grant).run = s.run ∧ (s.grant).log = s.log ∧ (s.grant).attention = s.attention
    ∧ (s.grant).pulses = s.pulses ∧ (s.grant).freeCount = s.freeCount ∧ (s.grant).pending = s.pending := by
  simp [State.grant]

@[simp] theorem State.releasePort_keeps :
    (s.releasePort).tick = s.tick ∧ (s.releasePort).config = s.config ∧ (s.releasePort).lines = s.lines
    ∧ (s.releasePort).memory = s.memory ∧ (s.releasePort).plan = s.plan ∧ (s.releasePort).buffers = s.buffers
    ∧ (s.releasePort).scheduler = s.scheduler ∧ (s.releasePort).tracker = s.tracker
    ∧ (s.releasePort).output = s.output ∧ (s.releasePort).drive = s.drive ∧ (s.releasePort).run = s.run
    ∧ (s.releasePort).log = s.log ∧ (s.releasePort).attention = s.attention ∧ (s.releasePort).pulses = s.pulses
    ∧ (s.releasePort).freeCount = s.freeCount ∧ (s.releasePort).pending = s.pending := by
  simp [State.releasePort]

@[simp] theorem State.continueOp_keeps (op : RecordOp) :
    (s.continueOp op).tick = s.tick ∧ (s.continueOp op).config = s.config ∧ (s.continueOp op).lines = s.lines
    ∧ (s.continueOp op).memory = s.memory ∧ (s.continueOp op).plan = s.plan ∧ (s.continueOp op).buffers = s.buffers
    ∧ (s.continueOp op).scheduler = s.scheduler ∧ (s.continueOp op).tracker = s.tracker
    ∧ (s.continueOp op).output = s.output ∧ (s.continueOp op).drive = s.drive ∧ (s.continueOp op).run = s.run
    ∧ (s.continueOp op).log = s.log ∧ (s.continueOp op).attention = s.attention
    ∧ (s.continueOp op).pulses = s.pulses ∧ (s.continueOp op).freeCount = s.freeCount
    ∧ (s.continueOp op).pending = s.pending ∧ (s.continueOp op).junction.rest = s.junction.rest := by
  simp [State.continueOp]

@[simp] theorem State.discardEvent_keeps :
    (s.discardEvent).tick = s.tick ∧ (s.discardEvent).config = s.config ∧ (s.discardEvent).lines = s.lines
    ∧ (s.discardEvent).memory = s.memory ∧ (s.discardEvent).junction = s.junction ∧ (s.discardEvent).plan = s.plan
    ∧ (s.discardEvent).buffers = s.buffers ∧ (s.discardEvent).scheduler = s.scheduler
    ∧ (s.discardEvent).tracker = s.tracker ∧ (s.discardEvent).output = s.output ∧ (s.discardEvent).drive = s.drive
    ∧ (s.discardEvent).run = s.run ∧ (s.discardEvent).pulses = s.pulses ∧ (s.discardEvent).freeCount = s.freeCount
    ∧ (s.discardEvent).pending = s.pending := by
  unfold State.discardEvent
  try dsimp only
  repeat' split
  all_goals simp

@[simp] theorem State.takeRecord_keeps :
    (s.takeRecord).tick = s.tick ∧ (s.takeRecord).config = s.config ∧ (s.takeRecord).lines = s.lines
    ∧ (s.takeRecord).memory = s.memory ∧ (s.takeRecord).plan = s.plan ∧ (s.takeRecord).buffers = s.buffers
    ∧ (s.takeRecord).scheduler = s.scheduler ∧ (s.takeRecord).tracker = s.tracker ∧ (s.takeRecord).output = s.output
    ∧ (s.takeRecord).drive = s.drive ∧ (s.takeRecord).run = s.run ∧ (s.takeRecord).pulses = s.pulses
    ∧ (s.takeRecord).freeCount = s.freeCount ∧ (s.takeRecord).pending = s.pending
    ∧ (s.takeRecord).junction.rest = s.junction.rest := by
  unfold State.takeRecord
  try dsimp only
  repeat' split
  all_goals simp

@[simp] theorem State.handOver_keeps (time : Tick) (body : LogBody) :
    (s.handOver time body).tick = s.tick ∧ (s.handOver time body).config = s.config
    ∧ (s.handOver time body).lines = s.lines ∧ (s.handOver time body).memory = s.memory
    ∧ (s.handOver time body).plan = s.plan ∧ (s.handOver time body).buffers = s.buffers
    ∧ (s.handOver time body).scheduler = s.scheduler ∧ (s.handOver time body).tracker = s.tracker
    ∧ (s.handOver time body).output = s.output ∧ (s.handOver time body).drive = s.drive
    ∧ (s.handOver time body).run = s.run ∧ (s.handOver time body).pulses = s.pulses
    ∧ (s.handOver time body).freeCount = s.freeCount ∧ (s.handOver time body).pending = s.pending
    ∧ (s.handOver time body).junction.rest = s.junction.rest := by
  unfold State.handOver
  try dsimp only
  repeat' split
  all_goals simp

@[simp] theorem State.record_keeps (body : LogBody) :
    (s.record body).tick = s.tick ∧ (s.record body).config = s.config ∧ (s.record body).lines = s.lines
    ∧ (s.record body).memory = s.memory ∧ (s.record body).plan = s.plan ∧ (s.record body).buffers = s.buffers
    ∧ (s.record body).scheduler = s.scheduler ∧ (s.record body).tracker = s.tracker
    ∧ (s.record body).output = s.output ∧ (s.record body).drive = s.drive ∧ (s.record body).run = s.run
    ∧ (s.record body).pulses = s.pulses ∧ (s.record body).freeCount = s.freeCount
    ∧ (s.record body).pending = s.pending ∧ (s.record body).junction.rest = s.junction.rest := by
  simp [State.record]

@[simp] theorem State.finish_keeps (result : ResultCode) (detail : Nat) :
    (s.finish result detail).tick = s.tick ∧ (s.finish result detail).config = s.config
    ∧ (s.finish result detail).lines = s.lines ∧ (s.finish result detail).memory = s.memory
    ∧ (s.finish result detail).plan = s.plan ∧ (s.finish result detail).buffers = s.buffers
    ∧ (s.finish result detail).scheduler = s.scheduler ∧ (s.finish result detail).tracker = s.tracker
    ∧ (s.finish result detail).output = s.output ∧ (s.finish result detail).drive = s.drive
    ∧ (s.finish result detail).log = s.log ∧ (s.finish result detail).attention = s.attention
    ∧ (s.finish result detail).pulses = s.pulses ∧ (s.finish result detail).freeCount = s.freeCount
    ∧ (s.finish result detail).pending = s.pending ∧ (s.finish result detail).junction.rest = s.junction.rest := by
  unfold State.finish
  try dsimp only
  repeat' split
  all_goals simp

@[simp] theorem State.finishIf_keeps (c : CommandCode) (result : ResultCode) (detail : Nat) :
    (s.finishIf c result detail).tick = s.tick ∧ (s.finishIf c result detail).config = s.config
    ∧ (s.finishIf c result detail).lines = s.lines ∧ (s.finishIf c result detail).memory = s.memory
    ∧ (s.finishIf c result detail).plan = s.plan ∧ (s.finishIf c result detail).buffers = s.buffers
    ∧ (s.finishIf c result detail).scheduler = s.scheduler ∧ (s.finishIf c result detail).tracker = s.tracker
    ∧ (s.finishIf c result detail).output = s.output ∧ (s.finishIf c result detail).drive = s.drive
    ∧ (s.finishIf c result detail).log = s.log ∧ (s.finishIf c result detail).attention = s.attention
    ∧ (s.finishIf c result detail).pulses = s.pulses ∧ (s.finishIf c result detail).freeCount = s.freeCount
    ∧ (s.finishIf c result detail).pending = s.pending
    ∧ (s.finishIf c result detail).junction.rest = s.junction.rest := by
  unfold State.finishIf
  try dsimp only
  repeat' split
  all_goals simp

@[simp] theorem State.doubt_keeps (c : SetCondition) (cause : Cause) :
    (s.doubt c cause).tick = s.tick ∧ (s.doubt c cause).config = s.config ∧ (s.doubt c cause).lines = s.lines
    ∧ (s.doubt c cause).memory = s.memory ∧ (s.doubt c cause).plan = s.plan ∧ (s.doubt c cause).buffers = s.buffers
    ∧ (s.doubt c cause).scheduler = s.scheduler ∧ (s.doubt c cause).tracker = s.tracker
    ∧ (s.doubt c cause).drive = s.drive ∧ (s.doubt c cause).log = s.log ∧ (s.doubt c cause).attention = s.attention
    ∧ (s.doubt c cause).pulses = s.pulses ∧ (s.doubt c cause).freeCount = s.freeCount
    ∧ (s.doubt c cause).pending = s.pending ∧ (s.doubt c cause).junction.rest = s.junction.rest := by
  unfold State.doubt
  try dsimp only
  repeat' split
  all_goals simp

@[simp] theorem State.disturb_keeps (cause : Cause) :
    (s.disturb cause).tick = s.tick ∧ (s.disturb cause).config = s.config ∧ (s.disturb cause).lines = s.lines
    ∧ (s.disturb cause).memory = s.memory ∧ (s.disturb cause).plan = s.plan ∧ (s.disturb cause).buffers = s.buffers
    ∧ (s.disturb cause).scheduler = s.scheduler ∧ (s.disturb cause).tracker = s.tracker
    ∧ (s.disturb cause).drive = s.drive ∧ (s.disturb cause).log = s.log ∧ (s.disturb cause).attention = s.attention
    ∧ (s.disturb cause).pulses = s.pulses ∧ (s.disturb cause).freeCount = s.freeCount
    ∧ (s.disturb cause).pending = s.pending ∧ (s.disturb cause).junction.rest = s.junction.rest := by
  unfold State.disturb
  try dsimp only
  repeat' split
  all_goals simp

@[simp] theorem State.scatter_keeps (cause : Cause) :
    (s.scatter cause).tick = s.tick ∧ (s.scatter cause).config = s.config ∧ (s.scatter cause).lines = s.lines
    ∧ (s.scatter cause).memory = s.memory ∧ (s.scatter cause).plan = s.plan ∧ (s.scatter cause).buffers = s.buffers
    ∧ (s.scatter cause).scheduler = s.scheduler ∧ (s.scatter cause).tracker = s.tracker
    ∧ (s.scatter cause).drive = s.drive ∧ (s.scatter cause).log = s.log ∧ (s.scatter cause).attention = s.attention
    ∧ (s.scatter cause).pulses = s.pulses ∧ (s.scatter cause).freeCount = s.freeCount
    ∧ (s.scatter cause).pending = s.pending ∧ (s.scatter cause).junction.rest = s.junction.rest := by
  unfold State.scatter
  try dsimp only
  repeat' split
  all_goals simp

@[simp] theorem State.putBuffer_keeps (b : BufferNo) (x : Buffer) :
    (s.putBuffer b x).tick = s.tick ∧ (s.putBuffer b x).config = s.config ∧ (s.putBuffer b x).lines = s.lines
    ∧ (s.putBuffer b x).memory = s.memory ∧ (s.putBuffer b x).junction = s.junction
    ∧ (s.putBuffer b x).plan = s.plan ∧ (s.putBuffer b x).scheduler = s.scheduler
    ∧ (s.putBuffer b x).tracker = s.tracker ∧ (s.putBuffer b x).output = s.output
    ∧ (s.putBuffer b x).drive = s.drive ∧ (s.putBuffer b x).run = s.run ∧ (s.putBuffer b x).log = s.log
    ∧ (s.putBuffer b x).attention = s.attention ∧ (s.putBuffer b x).pulses = s.pulses
    ∧ (s.putBuffer b x).freeCount = s.freeCount ∧ (s.putBuffer b x).pending = s.pending := by
  simp [State.putBuffer]

@[simp] theorem State.setClaimWaiting_keeps (w : Bool) :
    (s.setClaimWaiting w).tick = s.tick ∧ (s.setClaimWaiting w).config = s.config
    ∧ (s.setClaimWaiting w).lines = s.lines ∧ (s.setClaimWaiting w).memory = s.memory
    ∧ (s.setClaimWaiting w).junction = s.junction ∧ (s.setClaimWaiting w).plan = s.plan
    ∧ (s.setClaimWaiting w).scheduler = s.scheduler ∧ (s.setClaimWaiting w).tracker = s.tracker
    ∧ (s.setClaimWaiting w).output = s.output ∧ (s.setClaimWaiting w).drive = s.drive
    ∧ (s.setClaimWaiting w).run = s.run ∧ (s.setClaimWaiting w).log = s.log
    ∧ (s.setClaimWaiting w).attention = s.attention ∧ (s.setClaimWaiting w).pulses = s.pulses
    ∧ (s.setClaimWaiting w).freeCount = s.freeCount ∧ (s.setClaimWaiting w).pending = s.pending := by
  simp [State.setClaimWaiting]

@[simp] theorem State.bufferAvailable_keeps :
    (s.bufferAvailable).tick = s.tick ∧ (s.bufferAvailable).config = s.config ∧ (s.bufferAvailable).lines = s.lines
    ∧ (s.bufferAvailable).memory = s.memory ∧ (s.bufferAvailable).junction = s.junction
    ∧ (s.bufferAvailable).plan = s.plan ∧ (s.bufferAvailable).scheduler = s.scheduler
    ∧ (s.bufferAvailable).tracker = s.tracker ∧ (s.bufferAvailable).output = s.output
    ∧ (s.bufferAvailable).drive = s.drive ∧ (s.bufferAvailable).run = s.run ∧ (s.bufferAvailable).log = s.log
    ∧ (s.bufferAvailable).pulses = s.pulses ∧ (s.bufferAvailable).freeCount = s.freeCount
    ∧ (s.bufferAvailable).pending = s.pending := by
  unfold State.bufferAvailable
  try dsimp only
  repeat' split
  all_goals simp

@[simp] theorem State.freeBuffer_keeps (b : BufferNo) :
    (s.freeBuffer b).tick = s.tick ∧ (s.freeBuffer b).config = s.config ∧ (s.freeBuffer b).lines = s.lines
    ∧ (s.freeBuffer b).memory = s.memory ∧ (s.freeBuffer b).junction = s.junction ∧ (s.freeBuffer b).plan = s.plan
    ∧ (s.freeBuffer b).scheduler = s.scheduler ∧ (s.freeBuffer b).tracker = s.tracker
    ∧ (s.freeBuffer b).output = s.output ∧ (s.freeBuffer b).drive = s.drive ∧ (s.freeBuffer b).run = s.run
    ∧ (s.freeBuffer b).log = s.log ∧ (s.freeBuffer b).pulses = s.pulses ∧ (s.freeBuffer b).freeCount = s.freeCount
    ∧ (s.freeBuffer b).pending = s.pending := by
  simp [State.freeBuffer]

@[simp] theorem State.claimBuffer_keeps :
    (s.claimBuffer).2.tick = s.tick ∧ (s.claimBuffer).2.config = s.config ∧ (s.claimBuffer).2.lines = s.lines
    ∧ (s.claimBuffer).2.memory = s.memory ∧ (s.claimBuffer).2.junction = s.junction
    ∧ (s.claimBuffer).2.plan = s.plan ∧ (s.claimBuffer).2.scheduler = s.scheduler
    ∧ (s.claimBuffer).2.tracker = s.tracker ∧ (s.claimBuffer).2.output = s.output
    ∧ (s.claimBuffer).2.drive = s.drive ∧ (s.claimBuffer).2.run = s.run ∧ (s.claimBuffer).2.log = s.log
    ∧ (s.claimBuffer).2.attention = s.attention ∧ (s.claimBuffer).2.pulses = s.pulses
    ∧ (s.claimBuffer).2.freeCount = s.freeCount ∧ (s.claimBuffer).2.pending = s.pending := by
  unfold State.claimBuffer
  (repeat' split) <;> simp

@[simp] theorem State.abandonBuffer_keeps (n : Nat) :
    (s.abandonBuffer n).tick = s.tick ∧ (s.abandonBuffer n).config = s.config ∧ (s.abandonBuffer n).lines = s.lines
    ∧ (s.abandonBuffer n).memory = s.memory ∧ (s.abandonBuffer n).junction = s.junction
    ∧ (s.abandonBuffer n).plan = s.plan ∧ (s.abandonBuffer n).scheduler = s.scheduler
    ∧ (s.abandonBuffer n).tracker = s.tracker ∧ (s.abandonBuffer n).output = s.output
    ∧ (s.abandonBuffer n).drive = s.drive ∧ (s.abandonBuffer n).run = s.run ∧ (s.abandonBuffer n).log = s.log
    ∧ (s.abandonBuffer n).pulses = s.pulses ∧ (s.abandonBuffer n).freeCount = s.freeCount
    ∧ (s.abandonBuffer n).pending = s.pending := by
  unfold State.abandonBuffer
  try dsimp only
  repeat' split
  all_goals simp

@[simp] theorem State.addReference_keeps (y : Option BufferNo) :
    (s.addReference y).tick = s.tick ∧ (s.addReference y).config = s.config ∧ (s.addReference y).lines = s.lines
    ∧ (s.addReference y).memory = s.memory ∧ (s.addReference y).junction = s.junction
    ∧ (s.addReference y).plan = s.plan ∧ (s.addReference y).scheduler = s.scheduler
    ∧ (s.addReference y).tracker = s.tracker ∧ (s.addReference y).output = s.output
    ∧ (s.addReference y).drive = s.drive ∧ (s.addReference y).run = s.run ∧ (s.addReference y).log = s.log
    ∧ (s.addReference y).attention = s.attention ∧ (s.addReference y).pulses = s.pulses
    ∧ (s.addReference y).freeCount = s.freeCount ∧ (s.addReference y).pending = s.pending := by
  unfold State.addReference
  try dsimp only
  repeat' split
  all_goals simp

@[simp] theorem State.dropReference_keeps (delivered : Bool) (y : Option BufferNo) :
    (s.dropReference delivered y).tick = s.tick ∧ (s.dropReference delivered y).config = s.config
    ∧ (s.dropReference delivered y).lines = s.lines ∧ (s.dropReference delivered y).memory = s.memory
    ∧ (s.dropReference delivered y).junction = s.junction ∧ (s.dropReference delivered y).plan = s.plan
    ∧ (s.dropReference delivered y).scheduler = s.scheduler ∧ (s.dropReference delivered y).tracker = s.tracker
    ∧ (s.dropReference delivered y).output = s.output ∧ (s.dropReference delivered y).drive = s.drive
    ∧ (s.dropReference delivered y).run = s.run ∧ (s.dropReference delivered y).log = s.log
    ∧ (s.dropReference delivered y).pulses = s.pulses ∧ (s.dropReference delivered y).freeCount = s.freeCount
    ∧ (s.dropReference delivered y).pending = s.pending := by
  unfold State.dropReference
  try dsimp only
  repeat' split
  all_goals simp

@[simp] theorem State.dropSides_keeps (delivered : Bool) (front : Option BufferNo) (back : Option BufferNo) :
    (s.dropSides delivered front back).tick = s.tick ∧ (s.dropSides delivered front back).config = s.config
    ∧ (s.dropSides delivered front back).lines = s.lines ∧ (s.dropSides delivered front back).memory = s.memory
    ∧ (s.dropSides delivered front back).junction = s.junction ∧ (s.dropSides delivered front back).plan = s.plan
    ∧ (s.dropSides delivered front back).scheduler = s.scheduler
    ∧ (s.dropSides delivered front back).tracker = s.tracker ∧ (s.dropSides delivered front back).output = s.output
    ∧ (s.dropSides delivered front back).drive = s.drive ∧ (s.dropSides delivered front back).run = s.run
    ∧ (s.dropSides delivered front back).log = s.log ∧ (s.dropSides delivered front back).pulses = s.pulses
    ∧ (s.dropSides delivered front back).freeCount = s.freeCount
    ∧ (s.dropSides delivered front back).pending = s.pending := by
  simp [State.dropSides]

@[simp] theorem State.takeTagCommit_keeps (b : BufferNo) :
    (s.takeTagCommit b).tick = s.tick ∧ (s.takeTagCommit b).config = s.config ∧ (s.takeTagCommit b).lines = s.lines
    ∧ (s.takeTagCommit b).memory = s.memory ∧ (s.takeTagCommit b).plan = s.plan
    ∧ (s.takeTagCommit b).scheduler = s.scheduler ∧ (s.takeTagCommit b).tracker = s.tracker
    ∧ (s.takeTagCommit b).output = s.output ∧ (s.takeTagCommit b).drive = s.drive ∧ (s.takeTagCommit b).run = s.run
    ∧ (s.takeTagCommit b).log = s.log ∧ (s.takeTagCommit b).attention = s.attention
    ∧ (s.takeTagCommit b).pulses = s.pulses ∧ (s.takeTagCommit b).freeCount = s.freeCount
    ∧ (s.takeTagCommit b).pending = s.pending ∧ (s.takeTagCommit b).junction.rest = s.junction.rest := by
  unfold State.takeTagCommit
  try dsimp only
  repeat' split
  all_goals simp

@[simp] theorem State.acceptTag_keeps (b : BufferNo) (t : Tag) (persistent : Bool) :
    (s.acceptTag b t persistent).tick = s.tick ∧ (s.acceptTag b t persistent).config = s.config
    ∧ (s.acceptTag b t persistent).lines = s.lines ∧ (s.acceptTag b t persistent).memory = s.memory
    ∧ (s.acceptTag b t persistent).plan = s.plan ∧ (s.acceptTag b t persistent).scheduler = s.scheduler
    ∧ (s.acceptTag b t persistent).tracker = s.tracker ∧ (s.acceptTag b t persistent).output = s.output
    ∧ (s.acceptTag b t persistent).drive = s.drive ∧ (s.acceptTag b t persistent).run = s.run
    ∧ (s.acceptTag b t persistent).log = s.log ∧ (s.acceptTag b t persistent).pulses = s.pulses
    ∧ (s.acceptTag b t persistent).freeCount = s.freeCount ∧ (s.acceptTag b t persistent).pending = s.pending
    ∧ (s.acceptTag b t persistent).junction.rest = s.junction.rest := by
  unfold State.acceptTag
  try dsimp only
  repeat' split
  all_goals simp

@[simp] theorem State.judgeTag_keeps (b : BufferNo) (r : TagRecord) :
    (s.judgeTag b r).tick = s.tick ∧ (s.judgeTag b r).config = s.config ∧ (s.judgeTag b r).lines = s.lines
    ∧ (s.judgeTag b r).memory = s.memory ∧ (s.judgeTag b r).plan = s.plan ∧ (s.judgeTag b r).scheduler = s.scheduler
    ∧ (s.judgeTag b r).tracker = s.tracker ∧ (s.judgeTag b r).output = s.output ∧ (s.judgeTag b r).drive = s.drive
    ∧ (s.judgeTag b r).run = s.run ∧ (s.judgeTag b r).log = s.log ∧ (s.judgeTag b r).pulses = s.pulses
    ∧ (s.judgeTag b r).freeCount = s.freeCount ∧ (s.judgeTag b r).pending = s.pending
    ∧ (s.judgeTag b r).junction.rest = s.junction.rest := by
  unfold State.judgeTag
  try dsimp only
  repeat' split
  all_goals simp

@[simp] theorem State.reopenBuffer_keeps (b : BufferNo) :
    (s.reopenBuffer b).tick = s.tick ∧ (s.reopenBuffer b).config = s.config ∧ (s.reopenBuffer b).lines = s.lines
    ∧ (s.reopenBuffer b).memory = s.memory ∧ (s.reopenBuffer b).junction = s.junction
    ∧ (s.reopenBuffer b).plan = s.plan ∧ (s.reopenBuffer b).scheduler = s.scheduler
    ∧ (s.reopenBuffer b).tracker = s.tracker ∧ (s.reopenBuffer b).output = s.output
    ∧ (s.reopenBuffer b).drive = s.drive ∧ (s.reopenBuffer b).run = s.run ∧ (s.reopenBuffer b).log = s.log
    ∧ (s.reopenBuffer b).attention = s.attention ∧ (s.reopenBuffer b).pulses = s.pulses
    ∧ (s.reopenBuffer b).freeCount = s.freeCount ∧ (s.reopenBuffer b).pending = s.pending := by
  unfold State.reopenBuffer
  try dsimp only
  repeat' split
  all_goals simp

@[simp] theorem State.putSlot_keeps (i : Nat) (x : SlotState) :
    (s.putSlot i x).tick = s.tick ∧ (s.putSlot i x).config = s.config ∧ (s.putSlot i x).lines = s.lines
    ∧ (s.putSlot i x).memory = s.memory ∧ (s.putSlot i x).junction = s.junction
    ∧ (s.putSlot i x).buffers = s.buffers ∧ (s.putSlot i x).scheduler = s.scheduler
    ∧ (s.putSlot i x).tracker = s.tracker ∧ (s.putSlot i x).output = s.output ∧ (s.putSlot i x).drive = s.drive
    ∧ (s.putSlot i x).run = s.run ∧ (s.putSlot i x).log = s.log ∧ (s.putSlot i x).attention = s.attention
    ∧ (s.putSlot i x).pulses = s.pulses ∧ (s.putSlot i x).freeCount = s.freeCount
    ∧ (s.putSlot i x).pending = s.pending := by
  simp [State.putSlot]

@[simp] theorem State.takeCommit_keeps (i : Nat) :
    (s.takeCommit i).tick = s.tick ∧ (s.takeCommit i).config = s.config ∧ (s.takeCommit i).lines = s.lines
    ∧ (s.takeCommit i).memory = s.memory ∧ (s.takeCommit i).buffers = s.buffers
    ∧ (s.takeCommit i).scheduler = s.scheduler ∧ (s.takeCommit i).tracker = s.tracker
    ∧ (s.takeCommit i).output = s.output ∧ (s.takeCommit i).drive = s.drive ∧ (s.takeCommit i).run = s.run
    ∧ (s.takeCommit i).log = s.log ∧ (s.takeCommit i).attention = s.attention ∧ (s.takeCommit i).pulses = s.pulses
    ∧ (s.takeCommit i).freeCount = s.freeCount ∧ (s.takeCommit i).pending = s.pending
    ∧ (s.takeCommit i).junction.rest = s.junction.rest := by
  unfold State.takeCommit
  try dsimp only
  repeat' split
  all_goals simp

@[simp] theorem State.acceptRecord_keeps (r : PlanRecord) (slot : Nat) :
    (s.acceptRecord r slot).tick = s.tick ∧ (s.acceptRecord r slot).config = s.config
    ∧ (s.acceptRecord r slot).lines = s.lines ∧ (s.acceptRecord r slot).memory = s.memory
    ∧ (s.acceptRecord r slot).scheduler = s.scheduler ∧ (s.acceptRecord r slot).tracker = s.tracker
    ∧ (s.acceptRecord r slot).output = s.output ∧ (s.acceptRecord r slot).drive = s.drive
    ∧ (s.acceptRecord r slot).run = s.run ∧ (s.acceptRecord r slot).log = s.log
    ∧ (s.acceptRecord r slot).attention = s.attention ∧ (s.acceptRecord r slot).pulses = s.pulses
    ∧ (s.acceptRecord r slot).freeCount = s.freeCount ∧ (s.acceptRecord r slot).pending = s.pending
    ∧ (s.acceptRecord r slot).junction.rest = s.junction.rest := by
  simp [State.acceptRecord]

@[simp] theorem State.answerWritten_keeps (i : Nat) (y : PlanAnswer) :
    (s.answerWritten i y).tick = s.tick ∧ (s.answerWritten i y).config = s.config
    ∧ (s.answerWritten i y).lines = s.lines ∧ (s.answerWritten i y).memory = s.memory
    ∧ (s.answerWritten i y).junction = s.junction ∧ (s.answerWritten i y).buffers = s.buffers
    ∧ (s.answerWritten i y).scheduler = s.scheduler ∧ (s.answerWritten i y).tracker = s.tracker
    ∧ (s.answerWritten i y).output = s.output ∧ (s.answerWritten i y).drive = s.drive
    ∧ (s.answerWritten i y).run = s.run ∧ (s.answerWritten i y).log = s.log
    ∧ (s.answerWritten i y).attention = s.attention ∧ (s.answerWritten i y).pulses = s.pulses
    ∧ (s.answerWritten i y).freeCount = s.freeCount ∧ (s.answerWritten i y).pending = s.pending := by
  unfold State.answerWritten
  try dsimp only
  repeat' split
  all_goals simp

@[simp] theorem State.disposeWithdrawn_keeps (e : PlanEntry) :
    (s.disposeWithdrawn e).tick = s.tick ∧ (s.disposeWithdrawn e).config = s.config
    ∧ (s.disposeWithdrawn e).lines = s.lines ∧ (s.disposeWithdrawn e).memory = s.memory
    ∧ (s.disposeWithdrawn e).plan = s.plan ∧ (s.disposeWithdrawn e).scheduler = s.scheduler
    ∧ (s.disposeWithdrawn e).tracker = s.tracker ∧ (s.disposeWithdrawn e).output = s.output
    ∧ (s.disposeWithdrawn e).drive = s.drive ∧ (s.disposeWithdrawn e).run = s.run
    ∧ (s.disposeWithdrawn e).pulses = s.pulses ∧ (s.disposeWithdrawn e).freeCount = s.freeCount
    ∧ (s.disposeWithdrawn e).pending = s.pending ∧ (s.disposeWithdrawn e).junction.rest = s.junction.rest := by
  simp [State.disposeWithdrawn]

@[simp] theorem State.disposeAll_keeps (y : List PlanEntry) :
    (s.disposeAll y).tick = s.tick ∧ (s.disposeAll y).config = s.config ∧ (s.disposeAll y).lines = s.lines
    ∧ (s.disposeAll y).memory = s.memory ∧ (s.disposeAll y).plan = s.plan ∧ (s.disposeAll y).scheduler = s.scheduler
    ∧ (s.disposeAll y).tracker = s.tracker ∧ (s.disposeAll y).output = s.output ∧ (s.disposeAll y).drive = s.drive
    ∧ (s.disposeAll y).run = s.run ∧ (s.disposeAll y).pulses = s.pulses ∧ (s.disposeAll y).freeCount = s.freeCount
    ∧ (s.disposeAll y).pending = s.pending ∧ (s.disposeAll y).junction.rest = s.junction.rest := by
  induction y generalizing s with
  | nil => simp [State.disposeAll]
  | cons a l ih => simp [State.disposeAll, ih]

@[simp] theorem State.withdrawFrom_keeps (q : Nat) :
    (s.withdrawFrom q).tick = s.tick ∧ (s.withdrawFrom q).config = s.config ∧ (s.withdrawFrom q).lines = s.lines
    ∧ (s.withdrawFrom q).memory = s.memory ∧ (s.withdrawFrom q).scheduler = s.scheduler
    ∧ (s.withdrawFrom q).tracker = s.tracker ∧ (s.withdrawFrom q).output = s.output
    ∧ (s.withdrawFrom q).drive = s.drive ∧ (s.withdrawFrom q).run = s.run ∧ (s.withdrawFrom q).pulses = s.pulses
    ∧ (s.withdrawFrom q).freeCount = s.freeCount ∧ (s.withdrawFrom q).pending = s.pending
    ∧ (s.withdrawFrom q).junction.rest = s.junction.rest := by
  unfold State.withdrawFrom
  try dsimp only
  repeat' split
  all_goals simp

@[simp] theorem State.withdrawCopy_keeps (c : Copy) :
    (s.withdrawCopy c).tick = s.tick ∧ (s.withdrawCopy c).config = s.config ∧ (s.withdrawCopy c).lines = s.lines
    ∧ (s.withdrawCopy c).memory = s.memory ∧ (s.withdrawCopy c).scheduler = s.scheduler
    ∧ (s.withdrawCopy c).tracker = s.tracker ∧ (s.withdrawCopy c).output = s.output
    ∧ (s.withdrawCopy c).drive = s.drive ∧ (s.withdrawCopy c).run = s.run ∧ (s.withdrawCopy c).pulses = s.pulses
    ∧ (s.withdrawCopy c).freeCount = s.freeCount ∧ (s.withdrawCopy c).pending = s.pending
    ∧ (s.withdrawCopy c).junction.rest = s.junction.rest := by
  unfold State.withdrawCopy
  try dsimp only
  repeat' split
  all_goals simp

@[simp] theorem State.putSheet_keeps (h : Handle) (x : Option Sheet) :
    (s.putSheet h x).tick = s.tick ∧ (s.putSheet h x).config = s.config ∧ (s.putSheet h x).lines = s.lines
    ∧ (s.putSheet h x).memory = s.memory ∧ (s.putSheet h x).junction = s.junction ∧ (s.putSheet h x).plan = s.plan
    ∧ (s.putSheet h x).buffers = s.buffers ∧ (s.putSheet h x).scheduler = s.scheduler
    ∧ (s.putSheet h x).output = s.output ∧ (s.putSheet h x).drive = s.drive ∧ (s.putSheet h x).run = s.run
    ∧ (s.putSheet h x).log = s.log ∧ (s.putSheet h x).attention = s.attention ∧ (s.putSheet h x).pulses = s.pulses
    ∧ (s.putSheet h x).freeCount = s.freeCount ∧ (s.putSheet h x).pending = s.pending := by
  simp [State.putSheet]

@[simp] theorem State.modifySheet_keeps (h : Handle) (f : Sheet → Sheet) :
    (s.modifySheet h f).tick = s.tick ∧ (s.modifySheet h f).config = s.config ∧ (s.modifySheet h f).lines = s.lines
    ∧ (s.modifySheet h f).memory = s.memory ∧ (s.modifySheet h f).junction = s.junction
    ∧ (s.modifySheet h f).plan = s.plan ∧ (s.modifySheet h f).buffers = s.buffers
    ∧ (s.modifySheet h f).scheduler = s.scheduler ∧ (s.modifySheet h f).output = s.output
    ∧ (s.modifySheet h f).drive = s.drive ∧ (s.modifySheet h f).run = s.run ∧ (s.modifySheet h f).log = s.log
    ∧ (s.modifySheet h f).attention = s.attention ∧ (s.modifySheet h f).pulses = s.pulses
    ∧ (s.modifySheet h f).freeCount = s.freeCount ∧ (s.modifySheet h f).pending = s.pending := by
  simp [State.modifySheet]

@[simp] theorem State.modifySheets_keeps (f : Sheet → Sheet) :
    (s.modifySheets f).tick = s.tick ∧ (s.modifySheets f).config = s.config ∧ (s.modifySheets f).lines = s.lines
    ∧ (s.modifySheets f).memory = s.memory ∧ (s.modifySheets f).junction = s.junction
    ∧ (s.modifySheets f).plan = s.plan ∧ (s.modifySheets f).buffers = s.buffers
    ∧ (s.modifySheets f).scheduler = s.scheduler ∧ (s.modifySheets f).output = s.output
    ∧ (s.modifySheets f).drive = s.drive ∧ (s.modifySheets f).run = s.run ∧ (s.modifySheets f).log = s.log
    ∧ (s.modifySheets f).attention = s.attention ∧ (s.modifySheets f).pulses = s.pulses
    ∧ (s.modifySheets f).freeCount = s.freeCount ∧ (s.modifySheets f).pending = s.pending := by
  simp [State.modifySheets]

@[simp] theorem State.putSensor_keeps (x : Sensor) (r : SensorRecord) :
    (s.putSensor x r).tick = s.tick ∧ (s.putSensor x r).config = s.config ∧ (s.putSensor x r).lines = s.lines
    ∧ (s.putSensor x r).memory = s.memory ∧ (s.putSensor x r).junction = s.junction
    ∧ (s.putSensor x r).plan = s.plan ∧ (s.putSensor x r).buffers = s.buffers
    ∧ (s.putSensor x r).scheduler = s.scheduler ∧ (s.putSensor x r).output = s.output
    ∧ (s.putSensor x r).drive = s.drive ∧ (s.putSensor x r).run = s.run ∧ (s.putSensor x r).log = s.log
    ∧ (s.putSensor x r).attention = s.attention ∧ (s.putSensor x r).pulses = s.pulses
    ∧ (s.putSensor x r).freeCount = s.freeCount ∧ (s.putSensor x r).pending = s.pending := by
  simp [State.putSensor]

@[simp] theorem State.modifySensors_keeps (f : SensorRecord → SensorRecord) :
    (s.modifySensors f).tick = s.tick ∧ (s.modifySensors f).config = s.config ∧ (s.modifySensors f).lines = s.lines
    ∧ (s.modifySensors f).memory = s.memory ∧ (s.modifySensors f).junction = s.junction
    ∧ (s.modifySensors f).plan = s.plan ∧ (s.modifySensors f).buffers = s.buffers
    ∧ (s.modifySensors f).scheduler = s.scheduler ∧ (s.modifySensors f).output = s.output
    ∧ (s.modifySensors f).drive = s.drive ∧ (s.modifySensors f).run = s.run ∧ (s.modifySensors f).log = s.log
    ∧ (s.modifySensors f).attention = s.attention ∧ (s.modifySensors f).pulses = s.pulses
    ∧ (s.modifySensors f).freeCount = s.freeCount ∧ (s.modifySensors f).pending = s.pending := by
  simp [State.modifySensors]

@[simp] theorem State.addExpectation_keeps (x : Sensor) (e : Expectation) :
    (s.addExpectation x e).tick = s.tick ∧ (s.addExpectation x e).config = s.config
    ∧ (s.addExpectation x e).lines = s.lines ∧ (s.addExpectation x e).memory = s.memory
    ∧ (s.addExpectation x e).junction = s.junction ∧ (s.addExpectation x e).plan = s.plan
    ∧ (s.addExpectation x e).buffers = s.buffers ∧ (s.addExpectation x e).scheduler = s.scheduler
    ∧ (s.addExpectation x e).output = s.output ∧ (s.addExpectation x e).drive = s.drive
    ∧ (s.addExpectation x e).run = s.run ∧ (s.addExpectation x e).log = s.log
    ∧ (s.addExpectation x e).attention = s.attention ∧ (s.addExpectation x e).pulses = s.pulses
    ∧ (s.addExpectation x e).freeCount = s.freeCount ∧ (s.addExpectation x e).pending = s.pending := by
  simp [State.addExpectation]

@[simp] theorem State.place_keeps (h : Handle) (st : Stretch) :
    (s.place h st).tick = s.tick ∧ (s.place h st).config = s.config ∧ (s.place h st).lines = s.lines
    ∧ (s.place h st).memory = s.memory ∧ (s.place h st).junction = s.junction ∧ (s.place h st).plan = s.plan
    ∧ (s.place h st).buffers = s.buffers ∧ (s.place h st).scheduler = s.scheduler ∧ (s.place h st).output = s.output
    ∧ (s.place h st).drive = s.drive ∧ (s.place h st).run = s.run ∧ (s.place h st).log = s.log
    ∧ (s.place h st).attention = s.attention ∧ (s.place h st).pulses = s.pulses
    ∧ (s.place h st).freeCount = s.freeCount ∧ (s.place h st).pending = s.pending := by
  unfold State.place
  try dsimp only
  repeat' split
  all_goals simp

@[simp] theorem State.placeSet_keeps (d : Destination) (m : MediaClass) :
    (s.placeSet d m).tick = s.tick ∧ (s.placeSet d m).config = s.config ∧ (s.placeSet d m).lines = s.lines
    ∧ (s.placeSet d m).memory = s.memory ∧ (s.placeSet d m).junction = s.junction ∧ (s.placeSet d m).plan = s.plan
    ∧ (s.placeSet d m).buffers = s.buffers ∧ (s.placeSet d m).scheduler = s.scheduler
    ∧ (s.placeSet d m).output = s.output ∧ (s.placeSet d m).drive = s.drive ∧ (s.placeSet d m).run = s.run
    ∧ (s.placeSet d m).log = s.log ∧ (s.placeSet d m).attention = s.attention ∧ (s.placeSet d m).pulses = s.pulses
    ∧ (s.placeSet d m).freeCount = s.freeCount ∧ (s.placeSet d m).pending = s.pending := by
  unfold State.placeSet
  try dsimp only
  repeat' split
  all_goals simp

@[simp] theorem State.cutSetOff_keeps :
    (s.cutSetOff).tick = s.tick ∧ (s.cutSetOff).config = s.config ∧ (s.cutSetOff).lines = s.lines
    ∧ (s.cutSetOff).memory = s.memory ∧ (s.cutSetOff).junction = s.junction ∧ (s.cutSetOff).plan = s.plan
    ∧ (s.cutSetOff).buffers = s.buffers ∧ (s.cutSetOff).scheduler = s.scheduler ∧ (s.cutSetOff).output = s.output
    ∧ (s.cutSetOff).drive = s.drive ∧ (s.cutSetOff).run = s.run ∧ (s.cutSetOff).log = s.log
    ∧ (s.cutSetOff).attention = s.attention ∧ (s.cutSetOff).pulses = s.pulses
    ∧ (s.cutSetOff).freeCount = s.freeCount ∧ (s.cutSetOff).pending = s.pending := by
  unfold State.cutSetOff
  try dsimp only
  all_goals simp

@[simp] theorem State.loopGate_keeps (f : Gate LoopPosition → Gate LoopPosition) :
    (s.loopGate f).tick = s.tick ∧ (s.loopGate f).config = s.config ∧ (s.loopGate f).lines = s.lines
    ∧ (s.loopGate f).memory = s.memory ∧ (s.loopGate f).junction = s.junction ∧ (s.loopGate f).plan = s.plan
    ∧ (s.loopGate f).buffers = s.buffers ∧ (s.loopGate f).scheduler = s.scheduler
    ∧ (s.loopGate f).tracker = s.tracker ∧ (s.loopGate f).drive = s.drive ∧ (s.loopGate f).run = s.run
    ∧ (s.loopGate f).log = s.log ∧ (s.loopGate f).attention = s.attention ∧ (s.loopGate f).pulses = s.pulses
    ∧ (s.loopGate f).freeCount = s.freeCount ∧ (s.loopGate f).pending = s.pending := by
  simp [State.loopGate]

@[simp] theorem State.routeGate_keeps (f : Gate Route → Gate Route) :
    (s.routeGate f).tick = s.tick ∧ (s.routeGate f).config = s.config ∧ (s.routeGate f).lines = s.lines
    ∧ (s.routeGate f).memory = s.memory ∧ (s.routeGate f).junction = s.junction ∧ (s.routeGate f).plan = s.plan
    ∧ (s.routeGate f).buffers = s.buffers ∧ (s.routeGate f).scheduler = s.scheduler
    ∧ (s.routeGate f).tracker = s.tracker ∧ (s.routeGate f).drive = s.drive ∧ (s.routeGate f).run = s.run
    ∧ (s.routeGate f).log = s.log ∧ (s.routeGate f).attention = s.attention ∧ (s.routeGate f).pulses = s.pulses
    ∧ (s.routeGate f).freeCount = s.freeCount ∧ (s.routeGate f).pending = s.pending := by
  simp [State.routeGate]

@[simp] theorem State.settleBoundary_keeps (c : Stacker × SwitchReason) :
    (s.settleBoundary c).tick = s.tick ∧ (s.settleBoundary c).config = s.config
    ∧ (s.settleBoundary c).lines = s.lines ∧ (s.settleBoundary c).memory = s.memory
    ∧ (s.settleBoundary c).plan = s.plan ∧ (s.settleBoundary c).buffers = s.buffers
    ∧ (s.settleBoundary c).scheduler = s.scheduler ∧ (s.settleBoundary c).tracker = s.tracker
    ∧ (s.settleBoundary c).drive = s.drive ∧ (s.settleBoundary c).run = s.run
    ∧ (s.settleBoundary c).pulses = s.pulses ∧ (s.settleBoundary c).freeCount = s.freeCount
    ∧ (s.settleBoundary c).pending = s.pending ∧ (s.settleBoundary c).junction.rest = s.junction.rest := by
  unfold State.settleBoundary
  try dsimp only
  repeat' split
  all_goals simp

@[simp] theorem State.decideBoundary_keeps (breakFlag : Bool) :
    (s.decideBoundary breakFlag).tick = s.tick ∧ (s.decideBoundary breakFlag).config = s.config
    ∧ (s.decideBoundary breakFlag).lines = s.lines ∧ (s.decideBoundary breakFlag).memory = s.memory
    ∧ (s.decideBoundary breakFlag).plan = s.plan ∧ (s.decideBoundary breakFlag).buffers = s.buffers
    ∧ (s.decideBoundary breakFlag).scheduler = s.scheduler ∧ (s.decideBoundary breakFlag).tracker = s.tracker
    ∧ (s.decideBoundary breakFlag).drive = s.drive ∧ (s.decideBoundary breakFlag).run = s.run
    ∧ (s.decideBoundary breakFlag).pulses = s.pulses ∧ (s.decideBoundary breakFlag).freeCount = s.freeCount
    ∧ (s.decideBoundary breakFlag).pending = s.pending
    ∧ (s.decideBoundary breakFlag).junction.rest = s.junction.rest := by
  simp [State.decideBoundary]

@[simp] theorem State.dropCommitted_keeps (c : Option Copy) :
    (s.dropCommitted c).tick = s.tick ∧ (s.dropCommitted c).config = s.config ∧ (s.dropCommitted c).lines = s.lines
    ∧ (s.dropCommitted c).memory = s.memory ∧ (s.dropCommitted c).junction = s.junction
    ∧ (s.dropCommitted c).plan = s.plan ∧ (s.dropCommitted c).buffers = s.buffers
    ∧ (s.dropCommitted c).scheduler = s.scheduler ∧ (s.dropCommitted c).tracker = s.tracker
    ∧ (s.dropCommitted c).drive = s.drive ∧ (s.dropCommitted c).run = s.run ∧ (s.dropCommitted c).log = s.log
    ∧ (s.dropCommitted c).attention = s.attention ∧ (s.dropCommitted c).pulses = s.pulses
    ∧ (s.dropCommitted c).freeCount = s.freeCount ∧ (s.dropCommitted c).pending = s.pending := by
  unfold State.dropCommitted
  try dsimp only
  repeat' split
  all_goals simp

@[simp] theorem State.commitSet_keeps :
    (s.commitSet).tick = s.tick ∧ (s.commitSet).config = s.config ∧ (s.commitSet).lines = s.lines
    ∧ (s.commitSet).memory = s.memory ∧ (s.commitSet).plan = s.plan ∧ (s.commitSet).buffers = s.buffers
    ∧ (s.commitSet).scheduler = s.scheduler ∧ (s.commitSet).tracker = s.tracker ∧ (s.commitSet).drive = s.drive
    ∧ (s.commitSet).run = s.run ∧ (s.commitSet).pulses = s.pulses ∧ (s.commitSet).freeCount = s.freeCount
    ∧ (s.commitSet).pending = s.pending ∧ (s.commitSet).junction.rest = s.junction.rest := by
  unfold State.commitSet
  try dsimp only
  repeat' split
  all_goals simp

@[simp] theorem State.decideDirect_keeps (breakFlag : Bool) :
    (s.decideDirect breakFlag).tick = s.tick ∧ (s.decideDirect breakFlag).config = s.config
    ∧ (s.decideDirect breakFlag).lines = s.lines ∧ (s.decideDirect breakFlag).memory = s.memory
    ∧ (s.decideDirect breakFlag).plan = s.plan ∧ (s.decideDirect breakFlag).buffers = s.buffers
    ∧ (s.decideDirect breakFlag).scheduler = s.scheduler ∧ (s.decideDirect breakFlag).tracker = s.tracker
    ∧ (s.decideDirect breakFlag).drive = s.drive ∧ (s.decideDirect breakFlag).run = s.run
    ∧ (s.decideDirect breakFlag).pulses = s.pulses ∧ (s.decideDirect breakFlag).freeCount = s.freeCount
    ∧ (s.decideDirect breakFlag).pending = s.pending ∧ (s.decideDirect breakFlag).junction.rest = s.junction.rest := by
  simp [State.decideDirect]

@[simp] theorem State.decideRoute_keeps (sh : Sheet) :
    (s.decideRoute sh).2.tick = s.tick ∧ (s.decideRoute sh).2.config = s.config
    ∧ (s.decideRoute sh).2.lines = s.lines ∧ (s.decideRoute sh).2.memory = s.memory
    ∧ (s.decideRoute sh).2.plan = s.plan ∧ (s.decideRoute sh).2.buffers = s.buffers
    ∧ (s.decideRoute sh).2.scheduler = s.scheduler ∧ (s.decideRoute sh).2.tracker = s.tracker
    ∧ (s.decideRoute sh).2.drive = s.drive ∧ (s.decideRoute sh).2.run = s.run
    ∧ (s.decideRoute sh).2.pulses = s.pulses ∧ (s.decideRoute sh).2.freeCount = s.freeCount
    ∧ (s.decideRoute sh).2.pending = s.pending ∧ (s.decideRoute sh).2.junction.rest = s.junction.rest := by
  unfold State.decideRoute
  try dsimp only
  (repeat' split) <;> simp

@[simp] theorem State.decideAtFx_keeps (h : Handle) (sh : Sheet) :
    (s.decideAtFx h sh).2.tick = s.tick ∧ (s.decideAtFx h sh).2.config = s.config
    ∧ (s.decideAtFx h sh).2.lines = s.lines ∧ (s.decideAtFx h sh).2.memory = s.memory
    ∧ (s.decideAtFx h sh).2.plan = s.plan ∧ (s.decideAtFx h sh).2.buffers = s.buffers
    ∧ (s.decideAtFx h sh).2.scheduler = s.scheduler ∧ (s.decideAtFx h sh).2.drive = s.drive
    ∧ (s.decideAtFx h sh).2.run = s.run ∧ (s.decideAtFx h sh).2.pulses = s.pulses
    ∧ (s.decideAtFx h sh).2.freeCount = s.freeCount ∧ (s.decideAtFx h sh).2.pending = s.pending
    ∧ (s.decideAtFx h sh).2.junction.rest = s.junction.rest := by
  unfold State.decideAtFx
  try dsimp only
  (repeat' split) <;> simp

@[simp] theorem State.modifySet_keeps (f : SetRecord → SetRecord) :
    (s.modifySet f).tick = s.tick ∧ (s.modifySet f).config = s.config ∧ (s.modifySet f).lines = s.lines
    ∧ (s.modifySet f).memory = s.memory ∧ (s.modifySet f).junction = s.junction ∧ (s.modifySet f).plan = s.plan
    ∧ (s.modifySet f).buffers = s.buffers ∧ (s.modifySet f).scheduler = s.scheduler
    ∧ (s.modifySet f).tracker = s.tracker ∧ (s.modifySet f).drive = s.drive ∧ (s.modifySet f).run = s.run
    ∧ (s.modifySet f).log = s.log ∧ (s.modifySet f).attention = s.attention ∧ (s.modifySet f).pulses = s.pulses
    ∧ (s.modifySet f).freeCount = s.freeCount ∧ (s.modifySet f).pending = s.pending := by
  simp [State.modifySet]

@[simp] theorem State.launch_keeps (d : Destination) (l : List Member) :
    (s.launch d l).tick = s.tick ∧ (s.launch d l).config = s.config ∧ (s.launch d l).lines = s.lines
    ∧ (s.launch d l).memory = s.memory ∧ (s.launch d l).junction = s.junction ∧ (s.launch d l).plan = s.plan
    ∧ (s.launch d l).buffers = s.buffers ∧ (s.launch d l).scheduler = s.scheduler ∧ (s.launch d l).drive = s.drive
    ∧ (s.launch d l).run = s.run ∧ (s.launch d l).log = s.log ∧ (s.launch d l).attention = s.attention
    ∧ (s.launch d l).freeCount = s.freeCount ∧ (s.launch d l).pending = s.pending
    ∧ (s.launch d l).pulses.filter Pulse.movesSheet = s.pulses.filter Pulse.movesSheet := by
  unfold State.launch
  try dsimp only
  repeat' split
  all_goals simp

@[simp] theorem State.beginEject_keeps :
    (s.beginEject).tick = s.tick ∧ (s.beginEject).config = s.config ∧ (s.beginEject).lines = s.lines
    ∧ (s.beginEject).memory = s.memory ∧ (s.beginEject).plan = s.plan ∧ (s.beginEject).buffers = s.buffers
    ∧ (s.beginEject).scheduler = s.scheduler ∧ (s.beginEject).drive = s.drive ∧ (s.beginEject).run = s.run
    ∧ (s.beginEject).freeCount = s.freeCount ∧ (s.beginEject).pending = s.pending
    ∧ (s.beginEject).pulses.filter Pulse.movesSheet = s.pulses.filter Pulse.movesSheet
    ∧ (s.beginEject).junction.rest = s.junction.rest := by
  unfold State.beginEject
  try dsimp only
  repeat' split
  all_goals simp

@[simp] theorem State.examineEject_keeps :
    (s.examineEject).tick = s.tick ∧ (s.examineEject).config = s.config ∧ (s.examineEject).lines = s.lines
    ∧ (s.examineEject).memory = s.memory ∧ (s.examineEject).plan = s.plan ∧ (s.examineEject).buffers = s.buffers
    ∧ (s.examineEject).scheduler = s.scheduler ∧ (s.examineEject).drive = s.drive ∧ (s.examineEject).run = s.run
    ∧ (s.examineEject).freeCount = s.freeCount ∧ (s.examineEject).pending = s.pending
    ∧ (s.examineEject).pulses.filter Pulse.movesSheet = s.pulses.filter Pulse.movesSheet
    ∧ (s.examineEject).junction.rest = s.junction.rest := by
  unfold State.examineEject
  try dsimp only
  repeat' split
  all_goals simp

@[simp] theorem State.beginDump_keeps :
    (s.beginDump).tick = s.tick ∧ (s.beginDump).config = s.config ∧ (s.beginDump).lines = s.lines
    ∧ (s.beginDump).memory = s.memory ∧ (s.beginDump).junction = s.junction ∧ (s.beginDump).plan = s.plan
    ∧ (s.beginDump).buffers = s.buffers ∧ (s.beginDump).scheduler = s.scheduler ∧ (s.beginDump).drive = s.drive
    ∧ (s.beginDump).run = s.run ∧ (s.beginDump).log = s.log ∧ (s.beginDump).attention = s.attention
    ∧ (s.beginDump).freeCount = s.freeCount ∧ (s.beginDump).pending = s.pending
    ∧ (s.beginDump).pulses.filter Pulse.movesSheet = s.pulses.filter Pulse.movesSheet := by
  simp [State.beginDump]

@[simp] theorem State.examineDump_keeps :
    (s.examineDump).tick = s.tick ∧ (s.examineDump).config = s.config ∧ (s.examineDump).lines = s.lines
    ∧ (s.examineDump).memory = s.memory ∧ (s.examineDump).junction = s.junction ∧ (s.examineDump).plan = s.plan
    ∧ (s.examineDump).buffers = s.buffers ∧ (s.examineDump).scheduler = s.scheduler
    ∧ (s.examineDump).drive = s.drive ∧ (s.examineDump).run = s.run ∧ (s.examineDump).log = s.log
    ∧ (s.examineDump).attention = s.attention ∧ (s.examineDump).freeCount = s.freeCount
    ∧ (s.examineDump).pending = s.pending
    ∧ (s.examineDump).pulses.filter Pulse.movesSheet = s.pulses.filter Pulse.movesSheet := by
  unfold State.examineDump
  try dsimp only
  repeat' split
  all_goals simp

@[simp] theorem State.examineSet_keeps :
    (s.examineSet).tick = s.tick ∧ (s.examineSet).config = s.config ∧ (s.examineSet).lines = s.lines
    ∧ (s.examineSet).memory = s.memory ∧ (s.examineSet).plan = s.plan ∧ (s.examineSet).buffers = s.buffers
    ∧ (s.examineSet).scheduler = s.scheduler ∧ (s.examineSet).drive = s.drive ∧ (s.examineSet).run = s.run
    ∧ (s.examineSet).freeCount = s.freeCount ∧ (s.examineSet).pending = s.pending
    ∧ (s.examineSet).pulses.filter Pulse.movesSheet = s.pulses.filter Pulse.movesSheet
    ∧ (s.examineSet).junction.rest = s.junction.rest := by
  simp [State.examineSet]

@[simp] theorem State.topNotice_keeps (c : Copy) (k : Stacker) :
    (s.topNotice c k).tick = s.tick ∧ (s.topNotice c k).config = s.config ∧ (s.topNotice c k).lines = s.lines
    ∧ (s.topNotice c k).memory = s.memory ∧ (s.topNotice c k).plan = s.plan ∧ (s.topNotice c k).buffers = s.buffers
    ∧ (s.topNotice c k).scheduler = s.scheduler ∧ (s.topNotice c k).tracker = s.tracker
    ∧ (s.topNotice c k).drive = s.drive ∧ (s.topNotice c k).run = s.run ∧ (s.topNotice c k).pulses = s.pulses
    ∧ (s.topNotice c k).freeCount = s.freeCount ∧ (s.topNotice c k).pending = s.pending
    ∧ (s.topNotice c k).junction.rest = s.junction.rest := by
  unfold State.topNotice
  try dsimp only
  repeat' split
  all_goals simp

@[simp] theorem State.resolved_keeps (r : BrokenCopy) :
    (s.resolved r).tick = s.tick ∧ (s.resolved r).config = s.config ∧ (s.resolved r).lines = s.lines
    ∧ (s.resolved r).memory = s.memory ∧ (s.resolved r).plan = s.plan ∧ (s.resolved r).buffers = s.buffers
    ∧ (s.resolved r).scheduler = s.scheduler ∧ (s.resolved r).drive = s.drive ∧ (s.resolved r).run = s.run
    ∧ (s.resolved r).freeCount = s.freeCount ∧ (s.resolved r).pending = s.pending
    ∧ (s.resolved r).pulses.filter Pulse.movesSheet = s.pulses.filter Pulse.movesSheet
    ∧ (s.resolved r).junction.rest = s.junction.rest := by
  unfold State.resolved
  try dsimp only
  repeat' split
  all_goals simp

@[simp] theorem State.examineCopy_keeps (c : Copy) :
    (s.examineCopy c).tick = s.tick ∧ (s.examineCopy c).config = s.config ∧ (s.examineCopy c).lines = s.lines
    ∧ (s.examineCopy c).memory = s.memory ∧ (s.examineCopy c).plan = s.plan ∧ (s.examineCopy c).buffers = s.buffers
    ∧ (s.examineCopy c).scheduler = s.scheduler ∧ (s.examineCopy c).drive = s.drive ∧ (s.examineCopy c).run = s.run
    ∧ (s.examineCopy c).freeCount = s.freeCount ∧ (s.examineCopy c).pending = s.pending
    ∧ (s.examineCopy c).pulses.filter Pulse.movesSheet = s.pulses.filter Pulse.movesSheet
    ∧ (s.examineCopy c).junction.rest = s.junction.rest := by
  unfold State.examineCopy
  try dsimp only
  repeat' split
  all_goals simp

@[simp] theorem State.withdrawBroken_keeps (c : Copy) :
    (s.withdrawBroken c).tick = s.tick ∧ (s.withdrawBroken c).config = s.config
    ∧ (s.withdrawBroken c).lines = s.lines ∧ (s.withdrawBroken c).memory = s.memory
    ∧ (s.withdrawBroken c).scheduler = s.scheduler ∧ (s.withdrawBroken c).drive = s.drive
    ∧ (s.withdrawBroken c).run = s.run ∧ (s.withdrawBroken c).freeCount = s.freeCount
    ∧ (s.withdrawBroken c).pending = s.pending
    ∧ (s.withdrawBroken c).pulses.filter Pulse.movesSheet = s.pulses.filter Pulse.movesSheet
    ∧ (s.withdrawBroken c).junction.rest = s.junction.rest := by
  simp [State.withdrawBroken]

@[simp] theorem State.breakCopy_keeps (c : Copy) (mode : OutputMode) :
    (s.breakCopy c mode).tick = s.tick ∧ (s.breakCopy c mode).config = s.config
    ∧ (s.breakCopy c mode).lines = s.lines ∧ (s.breakCopy c mode).memory = s.memory
    ∧ (s.breakCopy c mode).scheduler = s.scheduler ∧ (s.breakCopy c mode).drive = s.drive
    ∧ (s.breakCopy c mode).run = s.run ∧ (s.breakCopy c mode).freeCount = s.freeCount
    ∧ (s.breakCopy c mode).pending = s.pending
    ∧ (s.breakCopy c mode).pulses.filter Pulse.movesSheet = s.pulses.filter Pulse.movesSheet
    ∧ (s.breakCopy c mode).junction.rest = s.junction.rest := by
  unfold State.breakCopy
  try dsimp only
  all_goals simp

@[simp] theorem State.rewithdraw_keeps (c : Copy) :
    (s.rewithdraw c).tick = s.tick ∧ (s.rewithdraw c).config = s.config ∧ (s.rewithdraw c).lines = s.lines
    ∧ (s.rewithdraw c).memory = s.memory ∧ (s.rewithdraw c).scheduler = s.scheduler
    ∧ (s.rewithdraw c).drive = s.drive ∧ (s.rewithdraw c).run = s.run ∧ (s.rewithdraw c).freeCount = s.freeCount
    ∧ (s.rewithdraw c).pending = s.pending
    ∧ (s.rewithdraw c).pulses.filter Pulse.movesSheet = s.pulses.filter Pulse.movesSheet
    ∧ (s.rewithdraw c).junction.rest = s.junction.rest := by
  unfold State.rewithdraw
  try dsimp only
  repeat' split
  all_goals simp

@[simp] theorem State.emptySet_keeps :
    (s.emptySet).tick = s.tick ∧ (s.emptySet).config = s.config ∧ (s.emptySet).lines = s.lines
    ∧ (s.emptySet).memory = s.memory ∧ (s.emptySet).junction = s.junction ∧ (s.emptySet).plan = s.plan
    ∧ (s.emptySet).buffers = s.buffers ∧ (s.emptySet).scheduler = s.scheduler ∧ (s.emptySet).tracker = s.tracker
    ∧ (s.emptySet).drive = s.drive ∧ (s.emptySet).run = s.run ∧ (s.emptySet).log = s.log
    ∧ (s.emptySet).attention = s.attention ∧ (s.emptySet).pulses = s.pulses ∧ (s.emptySet).freeCount = s.freeCount
    ∧ (s.emptySet).pending = s.pending := by
  simp [State.emptySet]

@[simp] theorem State.disposeMembers_keeps (d : Destination) (y : List Member) :
    (s.disposeMembers d y).tick = s.tick ∧ (s.disposeMembers d y).config = s.config
    ∧ (s.disposeMembers d y).lines = s.lines ∧ (s.disposeMembers d y).memory = s.memory
    ∧ (s.disposeMembers d y).plan = s.plan ∧ (s.disposeMembers d y).scheduler = s.scheduler
    ∧ (s.disposeMembers d y).tracker = s.tracker ∧ (s.disposeMembers d y).output = s.output
    ∧ (s.disposeMembers d y).drive = s.drive ∧ (s.disposeMembers d y).run = s.run
    ∧ (s.disposeMembers d y).pulses = s.pulses ∧ (s.disposeMembers d y).freeCount = s.freeCount
    ∧ (s.disposeMembers d y).pending = s.pending ∧ (s.disposeMembers d y).junction.rest = s.junction.rest := by
  induction y generalizing s with
  | nil => simp [State.disposeMembers]
  | cons a l ih => simp [State.disposeMembers, ih]

@[simp] theorem State.stackSet_keeps (k : Stacker) :
    (s.stackSet k).tick = s.tick ∧ (s.stackSet k).config = s.config ∧ (s.stackSet k).lines = s.lines
    ∧ (s.stackSet k).memory = s.memory ∧ (s.stackSet k).junction = s.junction ∧ (s.stackSet k).plan = s.plan
    ∧ (s.stackSet k).buffers = s.buffers ∧ (s.stackSet k).scheduler = s.scheduler
    ∧ (s.stackSet k).tracker = s.tracker ∧ (s.stackSet k).drive = s.drive ∧ (s.stackSet k).run = s.run
    ∧ (s.stackSet k).log = s.log ∧ (s.stackSet k).attention = s.attention ∧ (s.stackSet k).pulses = s.pulses
    ∧ (s.stackSet k).freeCount = s.freeCount ∧ (s.stackSet k).pending = s.pending := by
  unfold State.stackSet
  try dsimp only
  repeat' split
  all_goals simp

@[simp] theorem State.forgetLatest_keeps :
    (s.forgetLatest).tick = s.tick ∧ (s.forgetLatest).config = s.config ∧ (s.forgetLatest).lines = s.lines
    ∧ (s.forgetLatest).memory = s.memory ∧ (s.forgetLatest).junction = s.junction ∧ (s.forgetLatest).plan = s.plan
    ∧ (s.forgetLatest).buffers = s.buffers ∧ (s.forgetLatest).scheduler = s.scheduler
    ∧ (s.forgetLatest).tracker = s.tracker ∧ (s.forgetLatest).drive = s.drive ∧ (s.forgetLatest).run = s.run
    ∧ (s.forgetLatest).log = s.log ∧ (s.forgetLatest).attention = s.attention ∧ (s.forgetLatest).pulses = s.pulses
    ∧ (s.forgetLatest).freeCount = s.freeCount ∧ (s.forgetLatest).pending = s.pending := by
  unfold State.forgetLatest
  try dsimp only
  repeat' split
  all_goals simp

@[simp] theorem State.completeEject_keeps :
    (s.completeEject).tick = s.tick ∧ (s.completeEject).config = s.config ∧ (s.completeEject).lines = s.lines
    ∧ (s.completeEject).memory = s.memory ∧ (s.completeEject).plan = s.plan
    ∧ (s.completeEject).scheduler = s.scheduler ∧ (s.completeEject).tracker = s.tracker
    ∧ (s.completeEject).drive = s.drive ∧ (s.completeEject).run = s.run ∧ (s.completeEject).pulses = s.pulses
    ∧ (s.completeEject).freeCount = s.freeCount ∧ (s.completeEject).pending = s.pending
    ∧ (s.completeEject).junction.rest = s.junction.rest := by
  unfold State.completeEject
  try dsimp only
  repeat' split
  all_goals simp

@[simp] theorem State.deliverDirect_keeps (sh : Sheet) (k : Stacker) :
    (s.deliverDirect sh k).tick = s.tick ∧ (s.deliverDirect sh k).config = s.config
    ∧ (s.deliverDirect sh k).lines = s.lines ∧ (s.deliverDirect sh k).memory = s.memory
    ∧ (s.deliverDirect sh k).plan = s.plan ∧ (s.deliverDirect sh k).scheduler = s.scheduler
    ∧ (s.deliverDirect sh k).tracker = s.tracker ∧ (s.deliverDirect sh k).drive = s.drive
    ∧ (s.deliverDirect sh k).run = s.run ∧ (s.deliverDirect sh k).pulses = s.pulses
    ∧ (s.deliverDirect sh k).freeCount = s.freeCount ∧ (s.deliverDirect sh k).pending = s.pending
    ∧ (s.deliverDirect sh k).junction.rest = s.junction.rest := by
  unfold State.deliverDirect
  try dsimp only
  repeat' split
  all_goals simp

@[simp] theorem State.purgeDirect_keeps (sh : Sheet) :
    (s.purgeDirect sh).tick = s.tick ∧ (s.purgeDirect sh).config = s.config ∧ (s.purgeDirect sh).lines = s.lines
    ∧ (s.purgeDirect sh).memory = s.memory ∧ (s.purgeDirect sh).plan = s.plan
    ∧ (s.purgeDirect sh).scheduler = s.scheduler ∧ (s.purgeDirect sh).tracker = s.tracker
    ∧ (s.purgeDirect sh).output = s.output ∧ (s.purgeDirect sh).drive = s.drive ∧ (s.purgeDirect sh).run = s.run
    ∧ (s.purgeDirect sh).pulses = s.pulses ∧ (s.purgeDirect sh).freeCount = s.freeCount
    ∧ (s.purgeDirect sh).pending = s.pending ∧ (s.purgeDirect sh).junction.rest = s.junction.rest := by
  simp [State.purgeDirect]

@[simp] theorem State.setGrid_keeps :
    (s.setGrid).tick = s.tick ∧ (s.setGrid).config = s.config ∧ (s.setGrid).lines = s.lines
    ∧ (s.setGrid).memory = s.memory ∧ (s.setGrid).junction = s.junction ∧ (s.setGrid).plan = s.plan
    ∧ (s.setGrid).buffers = s.buffers ∧ (s.setGrid).tracker = s.tracker ∧ (s.setGrid).output = s.output
    ∧ (s.setGrid).drive = s.drive ∧ (s.setGrid).run = s.run ∧ (s.setGrid).log = s.log
    ∧ (s.setGrid).attention = s.attention ∧ (s.setGrid).pulses = s.pulses ∧ (s.setGrid).freeCount = s.freeCount
    ∧ (s.setGrid).pending = s.pending := by
  simp [State.setGrid]

@[simp] theorem State.discardGrid_keeps :
    (s.discardGrid).tick = s.tick ∧ (s.discardGrid).config = s.config ∧ (s.discardGrid).lines = s.lines
    ∧ (s.discardGrid).memory = s.memory ∧ (s.discardGrid).junction = s.junction ∧ (s.discardGrid).plan = s.plan
    ∧ (s.discardGrid).buffers = s.buffers ∧ (s.discardGrid).tracker = s.tracker ∧ (s.discardGrid).output = s.output
    ∧ (s.discardGrid).drive = s.drive ∧ (s.discardGrid).run = s.run ∧ (s.discardGrid).log = s.log
    ∧ (s.discardGrid).attention = s.attention ∧ (s.discardGrid).pulses = s.pulses
    ∧ (s.discardGrid).freeCount = s.freeCount ∧ (s.discardGrid).pending = s.pending := by
  simp [State.discardGrid]

@[simp] theorem State.putTimers_keeps (h : Handle) (t : SheetTimers) :
    (s.putTimers h t).tick = s.tick ∧ (s.putTimers h t).config = s.config ∧ (s.putTimers h t).lines = s.lines
    ∧ (s.putTimers h t).memory = s.memory ∧ (s.putTimers h t).junction = s.junction
    ∧ (s.putTimers h t).plan = s.plan ∧ (s.putTimers h t).buffers = s.buffers
    ∧ (s.putTimers h t).tracker = s.tracker ∧ (s.putTimers h t).output = s.output
    ∧ (s.putTimers h t).drive = s.drive ∧ (s.putTimers h t).run = s.run ∧ (s.putTimers h t).log = s.log
    ∧ (s.putTimers h t).attention = s.attention ∧ (s.putTimers h t).pulses = s.pulses
    ∧ (s.putTimers h t).freeCount = s.freeCount ∧ (s.putTimers h t).pending = s.pending := by
  simp [State.putTimers]

@[simp] theorem State.admitHead_keeps (g : Grid) (x : PlanEntry) (rest : List PlanEntry) (h : Handle) (front : Nat) :
    (s.admitHead g x rest h front).tick = s.tick ∧ (s.admitHead g x rest h front).config = s.config
    ∧ (s.admitHead g x rest h front).lines = s.lines ∧ (s.admitHead g x rest h front).memory = s.memory
    ∧ (s.admitHead g x rest h front).junction = s.junction ∧ (s.admitHead g x rest h front).buffers = s.buffers
    ∧ (s.admitHead g x rest h front).output = s.output ∧ (s.admitHead g x rest h front).drive = s.drive
    ∧ (s.admitHead g x rest h front).run = s.run ∧ (s.admitHead g x rest h front).log = s.log
    ∧ (s.admitHead g x rest h front).attention = s.attention ∧ (s.admitHead g x rest h front).pulses = s.pulses
    ∧ (s.admitHead g x rest h front).freeCount = s.freeCount ∧ (s.admitHead g x rest h front).pending = s.pending := by
  simp [State.admitHead]

@[simp] theorem State.setWaitReason_keeps (r : WaitReason) :
    (s.setWaitReason r).tick = s.tick ∧ (s.setWaitReason r).config = s.config ∧ (s.setWaitReason r).lines = s.lines
    ∧ (s.setWaitReason r).memory = s.memory ∧ (s.setWaitReason r).junction = s.junction
    ∧ (s.setWaitReason r).plan = s.plan ∧ (s.setWaitReason r).buffers = s.buffers
    ∧ (s.setWaitReason r).tracker = s.tracker ∧ (s.setWaitReason r).output = s.output
    ∧ (s.setWaitReason r).drive = s.drive ∧ (s.setWaitReason r).run = s.run ∧ (s.setWaitReason r).log = s.log
    ∧ (s.setWaitReason r).attention = s.attention ∧ (s.setWaitReason r).pulses = s.pulses
    ∧ (s.setWaitReason r).freeCount = s.freeCount ∧ (s.setWaitReason r).pending = s.pending := by
  simp [State.setWaitReason]

@[simp] theorem State.evaluateTimes_keeps (n : Nat) :
    (State.evaluateTimes n s).tick = s.tick ∧ (State.evaluateTimes n s).config = s.config
    ∧ (State.evaluateTimes n s).lines = s.lines ∧ (State.evaluateTimes n s).memory = s.memory
    ∧ (State.evaluateTimes n s).junction = s.junction ∧ (State.evaluateTimes n s).buffers = s.buffers
    ∧ (State.evaluateTimes n s).output = s.output ∧ (State.evaluateTimes n s).drive = s.drive
    ∧ (State.evaluateTimes n s).run = s.run ∧ (State.evaluateTimes n s).log = s.log
    ∧ (State.evaluateTimes n s).attention = s.attention ∧ (State.evaluateTimes n s).pulses = s.pulses
    ∧ (State.evaluateTimes n s).freeCount = s.freeCount ∧ (State.evaluateTimes n s).pending = s.pending := by
  induction n generalizing s with
  | zero => simp [State.evaluateTimes]
  | succ n ih => simp only [State.evaluateTimes]; split <;> simp [ih]

@[simp] theorem State.evaluate_keeps :
    (s.evaluate).tick = s.tick ∧ (s.evaluate).config = s.config ∧ (s.evaluate).lines = s.lines
    ∧ (s.evaluate).memory = s.memory ∧ (s.evaluate).junction = s.junction ∧ (s.evaluate).buffers = s.buffers
    ∧ (s.evaluate).output = s.output ∧ (s.evaluate).drive = s.drive ∧ (s.evaluate).run = s.run
    ∧ (s.evaluate).log = s.log ∧ (s.evaluate).attention = s.attention ∧ (s.evaluate).pulses = s.pulses
    ∧ (s.evaluate).freeCount = s.freeCount ∧ (s.evaluate).pending = s.pending := by
  simp [State.evaluate]

@[simp] theorem State.freeScheduled_keeps (y : List Handle) :
    (s.freeScheduled y).tick = s.tick ∧ (s.freeScheduled y).config = s.config ∧ (s.freeScheduled y).lines = s.lines
    ∧ (s.freeScheduled y).memory = s.memory ∧ (s.freeScheduled y).junction = s.junction
    ∧ (s.freeScheduled y).plan = s.plan ∧ (s.freeScheduled y).buffers = s.buffers
    ∧ (s.freeScheduled y).output = s.output ∧ (s.freeScheduled y).drive = s.drive ∧ (s.freeScheduled y).run = s.run
    ∧ (s.freeScheduled y).log = s.log ∧ (s.freeScheduled y).attention = s.attention
    ∧ (s.freeScheduled y).pulses = s.pulses ∧ (s.freeScheduled y).freeCount = s.freeCount
    ∧ (s.freeScheduled y).pending = s.pending := by
  induction y generalizing s with
  | nil => simp [State.freeScheduled]
  | cons a l ih => simp [State.freeScheduled, ih]

@[simp] theorem State.rewithdrawAll_keeps (y : List PlanEntry) :
    (s.rewithdrawAll y).tick = s.tick ∧ (s.rewithdrawAll y).config = s.config ∧ (s.rewithdrawAll y).lines = s.lines
    ∧ (s.rewithdrawAll y).memory = s.memory ∧ (s.rewithdrawAll y).scheduler = s.scheduler
    ∧ (s.rewithdrawAll y).drive = s.drive ∧ (s.rewithdrawAll y).run = s.run
    ∧ (s.rewithdrawAll y).freeCount = s.freeCount ∧ (s.rewithdrawAll y).pending = s.pending
    ∧ (s.rewithdrawAll y).pulses.filter Pulse.movesSheet = s.pulses.filter Pulse.movesSheet
    ∧ (s.rewithdrawAll y).junction.rest = s.junction.rest := by
  induction y generalizing s with
  | nil => simp [State.rewithdrawAll]
  | cons a l ih => simp [State.rewithdrawAll, ih]

@[simp] theorem State.deschedule_keeps :
    (s.deschedule).tick = s.tick ∧ (s.deschedule).config = s.config ∧ (s.deschedule).lines = s.lines
    ∧ (s.deschedule).memory = s.memory ∧ (s.deschedule).drive = s.drive ∧ (s.deschedule).run = s.run
    ∧ (s.deschedule).freeCount = s.freeCount ∧ (s.deschedule).pending = s.pending
    ∧ (s.deschedule).pulses.filter Pulse.movesSheet = s.pulses.filter Pulse.movesSheet
    ∧ (s.deschedule).junction.rest = s.junction.rest := by
  simp [State.deschedule]

@[simp] theorem State.setHolds_keeps (f : FeedHolds) :
    (s.setHolds f).tick = s.tick ∧ (s.setHolds f).config = s.config ∧ (s.setHolds f).lines = s.lines
    ∧ (s.setHolds f).memory = s.memory ∧ (s.setHolds f).junction = s.junction ∧ (s.setHolds f).plan = s.plan
    ∧ (s.setHolds f).buffers = s.buffers ∧ (s.setHolds f).scheduler = s.scheduler
    ∧ (s.setHolds f).tracker = s.tracker ∧ (s.setHolds f).output = s.output ∧ (s.setHolds f).drive = s.drive
    ∧ (s.setHolds f).log = s.log ∧ (s.setHolds f).attention = s.attention ∧ (s.setHolds f).pulses = s.pulses
    ∧ (s.setHolds f).freeCount = s.freeCount ∧ (s.setHolds f).pending = s.pending := by
  simp [State.setHolds]

@[simp] theorem State.pick_keeps (h : Handle) (sh : Sheet) (due : Tick) :
    (s.pick h sh due).tick = s.tick ∧ (s.pick h sh due).config = s.config ∧ (s.pick h sh due).lines = s.lines
    ∧ (s.pick h sh due).memory = s.memory ∧ (s.pick h sh due).junction = s.junction
    ∧ (s.pick h sh due).plan = s.plan ∧ (s.pick h sh due).buffers = s.buffers ∧ (s.pick h sh due).output = s.output
    ∧ (s.pick h sh due).drive = s.drive ∧ (s.pick h sh due).run = s.run ∧ (s.pick h sh due).log = s.log
    ∧ (s.pick h sh due).attention = s.attention ∧ (s.pick h sh due).freeCount = s.freeCount
    ∧ (s.pick h sh due).pending = s.pending := by
  simp [State.pick]

@[simp] theorem State.trayFoundEmpty_keeps (t : Tray) :
    (s.trayFoundEmpty t).tick = s.tick ∧ (s.trayFoundEmpty t).config = s.config
    ∧ (s.trayFoundEmpty t).lines = s.lines ∧ (s.trayFoundEmpty t).memory = s.memory
    ∧ (s.trayFoundEmpty t).drive = s.drive ∧ (s.trayFoundEmpty t).freeCount = s.freeCount
    ∧ (s.trayFoundEmpty t).pending = s.pending
    ∧ (s.trayFoundEmpty t).pulses.filter Pulse.movesSheet = s.pulses.filter Pulse.movesSheet
    ∧ (s.trayFoundEmpty t).junction.rest = s.junction.rest := by
  simp [State.trayFoundEmpty]

@[simp] theorem State.startHoldCover_keeps (h : Handle) :
    (s.startHoldCover h).tick = s.tick ∧ (s.startHoldCover h).config = s.config
    ∧ (s.startHoldCover h).lines = s.lines ∧ (s.startHoldCover h).memory = s.memory
    ∧ (s.startHoldCover h).junction = s.junction ∧ (s.startHoldCover h).plan = s.plan
    ∧ (s.startHoldCover h).buffers = s.buffers ∧ (s.startHoldCover h).scheduler = s.scheduler
    ∧ (s.startHoldCover h).output = s.output ∧ (s.startHoldCover h).drive = s.drive
    ∧ (s.startHoldCover h).run = s.run ∧ (s.startHoldCover h).log = s.log
    ∧ (s.startHoldCover h).attention = s.attention ∧ (s.startHoldCover h).pulses = s.pulses
    ∧ (s.startHoldCover h).freeCount = s.freeCount ∧ (s.startHoldCover h).pending = s.pending := by
  unfold State.startHoldCover
  try dsimp only
  repeat' split
  all_goals simp

@[simp] theorem State.release_keeps (h : Handle) :
    (s.release h).tick = s.tick ∧ (s.release h).config = s.config ∧ (s.release h).lines = s.lines
    ∧ (s.release h).memory = s.memory ∧ (s.release h).junction = s.junction ∧ (s.release h).plan = s.plan
    ∧ (s.release h).buffers = s.buffers ∧ (s.release h).scheduler = s.scheduler ∧ (s.release h).output = s.output
    ∧ (s.release h).drive = s.drive ∧ (s.release h).run = s.run ∧ (s.release h).log = s.log
    ∧ (s.release h).attention = s.attention ∧ (s.release h).freeCount = s.freeCount
    ∧ (s.release h).pending = s.pending := by
  simp [State.release]

@[simp] theorem State.releaseBy_keeps (h : Handle) (sh : Sheet) :
    (s.releaseBy h sh).tick = s.tick ∧ (s.releaseBy h sh).config = s.config ∧ (s.releaseBy h sh).lines = s.lines
    ∧ (s.releaseBy h sh).memory = s.memory ∧ (s.releaseBy h sh).junction = s.junction
    ∧ (s.releaseBy h sh).plan = s.plan ∧ (s.releaseBy h sh).buffers = s.buffers
    ∧ (s.releaseBy h sh).output = s.output ∧ (s.releaseBy h sh).drive = s.drive ∧ (s.releaseBy h sh).run = s.run
    ∧ (s.releaseBy h sh).log = s.log ∧ (s.releaseBy h sh).attention = s.attention
    ∧ (s.releaseBy h sh).freeCount = s.freeCount ∧ (s.releaseBy h sh).pending = s.pending := by
  unfold State.releaseBy
  try dsimp only
  repeat' split
  all_goals simp

@[simp] theorem State.arriveAtHold_keeps (h : Handle) :
    (s.arriveAtHold h).tick = s.tick ∧ (s.arriveAtHold h).config = s.config ∧ (s.arriveAtHold h).lines = s.lines
    ∧ (s.arriveAtHold h).memory = s.memory ∧ (s.arriveAtHold h).junction = s.junction
    ∧ (s.arriveAtHold h).plan = s.plan ∧ (s.arriveAtHold h).buffers = s.buffers
    ∧ (s.arriveAtHold h).tracker = s.tracker ∧ (s.arriveAtHold h).output = s.output
    ∧ (s.arriveAtHold h).drive = s.drive ∧ (s.arriveAtHold h).run = s.run ∧ (s.arriveAtHold h).log = s.log
    ∧ (s.arriveAtHold h).attention = s.attention ∧ (s.arriveAtHold h).pulses = s.pulses
    ∧ (s.arriveAtHold h).freeCount = s.freeCount ∧ (s.arriveAtHold h).pending = s.pending := by
  unfold State.arriveAtHold
  try dsimp only
  repeat' split
  all_goals simp

@[simp] theorem State.passSlot_keeps (g : Grid) :
    (s.passSlot g).tick = s.tick ∧ (s.passSlot g).config = s.config ∧ (s.passSlot g).lines = s.lines
    ∧ (s.passSlot g).memory = s.memory ∧ (s.passSlot g).junction = s.junction ∧ (s.passSlot g).buffers = s.buffers
    ∧ (s.passSlot g).output = s.output ∧ (s.passSlot g).drive = s.drive ∧ (s.passSlot g).run = s.run
    ∧ (s.passSlot g).log = s.log ∧ (s.passSlot g).attention = s.attention ∧ (s.passSlot g).pulses = s.pulses
    ∧ (s.passSlot g).freeCount = s.freeCount ∧ (s.passSlot g).pending = s.pending := by
  simp [State.passSlot]

@[simp] theorem State.withDrive_keeps (f : Drive → Drive) :
    (s.withDrive f).tick = s.tick ∧ (s.withDrive f).config = s.config ∧ (s.withDrive f).lines = s.lines
    ∧ (s.withDrive f).memory = s.memory ∧ (s.withDrive f).junction = s.junction ∧ (s.withDrive f).plan = s.plan
    ∧ (s.withDrive f).buffers = s.buffers ∧ (s.withDrive f).scheduler = s.scheduler
    ∧ (s.withDrive f).tracker = s.tracker ∧ (s.withDrive f).output = s.output ∧ (s.withDrive f).run = s.run
    ∧ (s.withDrive f).log = s.log ∧ (s.withDrive f).attention = s.attention ∧ (s.withDrive f).pulses = s.pulses
    ∧ (s.withDrive f).freeCount = s.freeCount ∧ (s.withDrive f).pending = s.pending := by
  simp [State.withDrive]

@[simp] theorem State.coast_keeps :
    (s.coast).tick = s.tick ∧ (s.coast).config = s.config ∧ (s.coast).lines = s.lines ∧ (s.coast).memory = s.memory
    ∧ (s.coast).junction = s.junction ∧ (s.coast).plan = s.plan ∧ (s.coast).buffers = s.buffers
    ∧ (s.coast).scheduler = s.scheduler ∧ (s.coast).tracker = s.tracker ∧ (s.coast).output = s.output
    ∧ (s.coast).run = s.run ∧ (s.coast).log = s.log ∧ (s.coast).attention = s.attention
    ∧ (s.coast).pulses = s.pulses ∧ (s.coast).freeCount = s.freeCount ∧ (s.coast).pending = s.pending := by
  simp [State.coast]

@[simp] theorem State.enter_keeps (r : RunState) :
    (s.enter r).tick = s.tick ∧ (s.enter r).config = s.config ∧ (s.enter r).lines = s.lines
    ∧ (s.enter r).memory = s.memory ∧ (s.enter r).junction = s.junction ∧ (s.enter r).plan = s.plan
    ∧ (s.enter r).buffers = s.buffers ∧ (s.enter r).scheduler = s.scheduler ∧ (s.enter r).tracker = s.tracker
    ∧ (s.enter r).output = s.output ∧ (s.enter r).drive = s.drive ∧ (s.enter r).log = s.log
    ∧ (s.enter r).attention = s.attention ∧ (s.enter r).pulses = s.pulses ∧ (s.enter r).freeCount = s.freeCount
    ∧ (s.enter r).pending = s.pending := by
  simp [State.enter]

@[simp] theorem State.endChange_keeps (c : ChangeStatus) :
    (s.endChange c).tick = s.tick ∧ (s.endChange c).config = s.config ∧ (s.endChange c).lines = s.lines
    ∧ (s.endChange c).memory = s.memory ∧ (s.endChange c).junction = s.junction ∧ (s.endChange c).plan = s.plan
    ∧ (s.endChange c).buffers = s.buffers ∧ (s.endChange c).scheduler = s.scheduler
    ∧ (s.endChange c).tracker = s.tracker ∧ (s.endChange c).output = s.output ∧ (s.endChange c).drive = s.drive
    ∧ (s.endChange c).log = s.log ∧ (s.endChange c).pulses = s.pulses ∧ (s.endChange c).freeCount = s.freeCount
    ∧ (s.endChange c).pending = s.pending := by
  simp [State.endChange]

@[simp] theorem State.abortChange_keeps (changing : Bool) :
    (s.abortChange changing).tick = s.tick ∧ (s.abortChange changing).config = s.config
    ∧ (s.abortChange changing).lines = s.lines ∧ (s.abortChange changing).memory = s.memory
    ∧ (s.abortChange changing).junction = s.junction ∧ (s.abortChange changing).plan = s.plan
    ∧ (s.abortChange changing).buffers = s.buffers ∧ (s.abortChange changing).scheduler = s.scheduler
    ∧ (s.abortChange changing).tracker = s.tracker ∧ (s.abortChange changing).output = s.output
    ∧ (s.abortChange changing).drive = s.drive ∧ (s.abortChange changing).log = s.log
    ∧ (s.abortChange changing).pulses = s.pulses ∧ (s.abortChange changing).freeCount = s.freeCount
    ∧ (s.abortChange changing).pending = s.pending := by
  unfold State.abortChange
  try dsimp only
  repeat' split
  all_goals simp

@[simp] theorem State.failWaiting_keeps (c : Cause) :
    (s.failWaiting c).tick = s.tick ∧ (s.failWaiting c).config = s.config ∧ (s.failWaiting c).lines = s.lines
    ∧ (s.failWaiting c).memory = s.memory ∧ (s.failWaiting c).plan = s.plan ∧ (s.failWaiting c).buffers = s.buffers
    ∧ (s.failWaiting c).scheduler = s.scheduler ∧ (s.failWaiting c).tracker = s.tracker
    ∧ (s.failWaiting c).output = s.output ∧ (s.failWaiting c).drive = s.drive ∧ (s.failWaiting c).log = s.log
    ∧ (s.failWaiting c).attention = s.attention ∧ (s.failWaiting c).pulses = s.pulses
    ∧ (s.failWaiting c).freeCount = s.freeCount ∧ (s.failWaiting c).pending = s.pending
    ∧ (s.failWaiting c).junction.rest = s.junction.rest := by
  simp [State.failWaiting]

@[simp] theorem State.enterStop_keeps (r : Report) :
    (s.enterStop r).tick = s.tick ∧ (s.enterStop r).config = s.config ∧ (s.enterStop r).lines = s.lines
    ∧ (s.enterStop r).memory = s.memory ∧ (s.enterStop r).freeCount = s.freeCount
    ∧ (s.enterStop r).pending = s.pending
    ∧ (s.enterStop r).pulses.filter Pulse.movesSheet = s.pulses.filter Pulse.movesSheet
    ∧ (s.enterStop r).junction.rest = s.junction.rest := by
  simp [State.enterStop]

@[simp] theorem State.laterCause_keeps (r : Report) :
    (s.laterCause r).tick = s.tick ∧ (s.laterCause r).config = s.config ∧ (s.laterCause r).lines = s.lines
    ∧ (s.laterCause r).memory = s.memory ∧ (s.laterCause r).junction = s.junction ∧ (s.laterCause r).plan = s.plan
    ∧ (s.laterCause r).buffers = s.buffers ∧ (s.laterCause r).scheduler = s.scheduler
    ∧ (s.laterCause r).tracker = s.tracker ∧ (s.laterCause r).output = s.output ∧ (s.laterCause r).drive = s.drive
    ∧ (s.laterCause r).log = s.log ∧ (s.laterCause r).attention = s.attention ∧ (s.laterCause r).pulses = s.pulses
    ∧ (s.laterCause r).freeCount = s.freeCount ∧ (s.laterCause r).pending = s.pending := by
  unfold State.laterCause
  try dsimp only
  repeat' split
  all_goals simp

@[simp] theorem State.report_keeps (r : Report) :
    (s.report r).tick = s.tick ∧ (s.report r).config = s.config ∧ (s.report r).lines = s.lines
    ∧ (s.report r).memory = s.memory ∧ (s.report r).freeCount = s.freeCount ∧ (s.report r).pending = s.pending
    ∧ (s.report r).pulses.filter Pulse.movesSheet = s.pulses.filter Pulse.movesSheet
    ∧ (s.report r).junction.rest = s.junction.rest := by
  unfold State.report
  try dsimp only
  repeat' split
  all_goals simp

@[simp] theorem State.setFailure_keeps (r : Report) :
    (s.setFailure r).tick = s.tick ∧ (s.setFailure r).config = s.config ∧ (s.setFailure r).lines = s.lines
    ∧ (s.setFailure r).memory = s.memory ∧ (s.setFailure r).plan = s.plan ∧ (s.setFailure r).buffers = s.buffers
    ∧ (s.setFailure r).scheduler = s.scheduler ∧ (s.setFailure r).tracker = s.tracker
    ∧ (s.setFailure r).output = s.output ∧ (s.setFailure r).drive = s.drive ∧ (s.setFailure r).pulses = s.pulses
    ∧ (s.setFailure r).freeCount = s.freeCount ∧ (s.setFailure r).pending = s.pending
    ∧ (s.setFailure r).junction.rest = s.junction.rest := by
  simp [State.setFailure]

@[simp] theorem State.fault_keeps (c : Cause) (x : Sensor) (i : Option Item) :
    (s.fault c x i).tick = s.tick ∧ (s.fault c x i).config = s.config ∧ (s.fault c x i).lines = s.lines
    ∧ (s.fault c x i).memory = s.memory ∧ (s.fault c x i).freeCount = s.freeCount
    ∧ (s.fault c x i).pending = s.pending
    ∧ (s.fault c x i).pulses.filter Pulse.movesSheet = s.pulses.filter Pulse.movesSheet
    ∧ (s.fault c x i).junction.rest = s.junction.rest := by
  unfold State.fault
  try dsimp only
  repeat' split
  all_goals simp

@[simp] theorem State.examineDrain_keeps :
    (s.examineDrain).tick = s.tick ∧ (s.examineDrain).config = s.config ∧ (s.examineDrain).lines = s.lines
    ∧ (s.examineDrain).memory = s.memory ∧ (s.examineDrain).plan = s.plan ∧ (s.examineDrain).buffers = s.buffers
    ∧ (s.examineDrain).freeCount = s.freeCount ∧ (s.examineDrain).pending = s.pending
    ∧ (s.examineDrain).pulses.filter Pulse.movesSheet = s.pulses.filter Pulse.movesSheet
    ∧ (s.examineDrain).junction.rest = s.junction.rest := by
  unfold State.examineDrain
  try dsimp only
  repeat' split
  all_goals simp

@[simp] theorem State.enterDraining_keeps (target : Option SpeedCode) (status : ChangeStatus) :
    (s.enterDraining target status).tick = s.tick ∧ (s.enterDraining target status).config = s.config
    ∧ (s.enterDraining target status).lines = s.lines ∧ (s.enterDraining target status).memory = s.memory
    ∧ (s.enterDraining target status).freeCount = s.freeCount ∧ (s.enterDraining target status).pending = s.pending
    ∧ (s.enterDraining target status).pulses.filter Pulse.movesSheet = s.pulses.filter Pulse.movesSheet
    ∧ (s.enterDraining target status).junction.rest = s.junction.rest := by
  simp [State.enterDraining]

@[simp] theorem State.computeTiming_keeps :
    (s.computeTiming).tick = s.tick ∧ (s.computeTiming).config = s.config ∧ (s.computeTiming).lines = s.lines
    ∧ (s.computeTiming).memory = s.memory ∧ (s.computeTiming).junction = s.junction
    ∧ (s.computeTiming).plan = s.plan ∧ (s.computeTiming).buffers = s.buffers
    ∧ (s.computeTiming).scheduler = s.scheduler ∧ (s.computeTiming).output = s.output
    ∧ (s.computeTiming).drive = s.drive ∧ (s.computeTiming).run = s.run ∧ (s.computeTiming).log = s.log
    ∧ (s.computeTiming).attention = s.attention ∧ (s.computeTiming).pulses = s.pulses
    ∧ (s.computeTiming).freeCount = s.freeCount ∧ (s.computeTiming).pending = s.pending := by
  simp [State.computeTiming]

@[simp] theorem State.runAtLock_keeps :
    (s.runAtLock).tick = s.tick ∧ (s.runAtLock).config = s.config ∧ (s.runAtLock).lines = s.lines
    ∧ (s.runAtLock).memory = s.memory ∧ (s.runAtLock).junction = s.junction ∧ (s.runAtLock).plan = s.plan
    ∧ (s.runAtLock).buffers = s.buffers ∧ (s.runAtLock).output = s.output ∧ (s.runAtLock).drive = s.drive
    ∧ (s.runAtLock).log = s.log ∧ (s.runAtLock).attention = s.attention ∧ (s.runAtLock).pulses = s.pulses
    ∧ (s.runAtLock).freeCount = s.freeCount ∧ (s.runAtLock).pending = s.pending := by
  simp [State.runAtLock]

@[simp] theorem State.takeLock_keeps (old : SpeedCode) :
    (s.takeLock old).tick = s.tick ∧ (s.takeLock old).config = s.config ∧ (s.takeLock old).lines = s.lines
    ∧ (s.takeLock old).memory = s.memory ∧ (s.takeLock old).buffers = s.buffers ∧ (s.takeLock old).drive = s.drive
    ∧ (s.takeLock old).freeCount = s.freeCount ∧ (s.takeLock old).pending = s.pending
    ∧ (s.takeLock old).pulses.filter Pulse.movesSheet = s.pulses.filter Pulse.movesSheet
    ∧ (s.takeLock old).junction.rest = s.junction.rest := by
  unfold State.takeLock
  try dsimp only
  repeat' split
  all_goals simp

@[simp] theorem State.takeLockTimeout_keeps :
    (s.takeLockTimeout).tick = s.tick ∧ (s.takeLockTimeout).config = s.config ∧ (s.takeLockTimeout).lines = s.lines
    ∧ (s.takeLockTimeout).memory = s.memory ∧ (s.takeLockTimeout).plan = s.plan
    ∧ (s.takeLockTimeout).buffers = s.buffers ∧ (s.takeLockTimeout).scheduler = s.scheduler
    ∧ (s.takeLockTimeout).freeCount = s.freeCount ∧ (s.takeLockTimeout).pending = s.pending
    ∧ (s.takeLockTimeout).pulses.filter Pulse.movesSheet = s.pulses.filter Pulse.movesSheet
    ∧ (s.takeLockTimeout).junction.rest = s.junction.rest := by
  unfold State.takeLockTimeout
  try dsimp only
  repeat' split
  all_goals simp

@[simp] theorem State.takeDriveReport_keeps (old : SpeedCode) (y : DriveReport) :
    (s.takeDriveReport old y).tick = s.tick ∧ (s.takeDriveReport old y).config = s.config
    ∧ (s.takeDriveReport old y).lines = s.lines ∧ (s.takeDriveReport old y).memory = s.memory
    ∧ (s.takeDriveReport old y).freeCount = s.freeCount ∧ (s.takeDriveReport old y).pending = s.pending
    ∧ (s.takeDriveReport old y).pulses.filter Pulse.movesSheet = s.pulses.filter Pulse.movesSheet
    ∧ (s.takeDriveReport old y).junction.rest = s.junction.rest := by
  unfold State.takeDriveReport
  try dsimp only
  repeat' split
  all_goals simp

@[simp] theorem State.strand_keeps :
    (s.strand).tick = s.tick ∧ (s.strand).config = s.config ∧ (s.strand).lines = s.lines
    ∧ (s.strand).memory = s.memory ∧ (s.strand).junction = s.junction ∧ (s.strand).plan = s.plan
    ∧ (s.strand).buffers = s.buffers ∧ (s.strand).scheduler = s.scheduler ∧ (s.strand).output = s.output
    ∧ (s.strand).drive = s.drive ∧ (s.strand).run = s.run ∧ (s.strand).log = s.log
    ∧ (s.strand).attention = s.attention ∧ (s.strand).pulses = s.pulses ∧ (s.strand).freeCount = s.freeCount
    ∧ (s.strand).pending = s.pending := by
  unfold State.strand
  try dsimp only
  all_goals simp

@[simp] theorem State.completeJam_keeps :
    (s.completeJam).tick = s.tick ∧ (s.completeJam).config = s.config ∧ (s.completeJam).lines = s.lines
    ∧ (s.completeJam).memory = s.memory ∧ (s.completeJam).plan = s.plan ∧ (s.completeJam).buffers = s.buffers
    ∧ (s.completeJam).scheduler = s.scheduler ∧ (s.completeJam).tracker = s.tracker
    ∧ (s.completeJam).output = s.output ∧ (s.completeJam).drive = s.drive ∧ (s.completeJam).pulses = s.pulses
    ∧ (s.completeJam).freeCount = s.freeCount ∧ (s.completeJam).pending = s.pending
    ∧ (s.completeJam).junction.rest = s.junction.rest := by
  unfold State.completeJam
  try dsimp only
  repeat' split
  all_goals simp

@[simp] theorem State.expireGrace_keeps :
    (s.expireGrace).tick = s.tick ∧ (s.expireGrace).config = s.config ∧ (s.expireGrace).lines = s.lines
    ∧ (s.expireGrace).memory = s.memory ∧ (s.expireGrace).plan = s.plan ∧ (s.expireGrace).buffers = s.buffers
    ∧ (s.expireGrace).scheduler = s.scheduler ∧ (s.expireGrace).drive = s.drive ∧ (s.expireGrace).pulses = s.pulses
    ∧ (s.expireGrace).freeCount = s.freeCount ∧ (s.expireGrace).pending = s.pending
    ∧ (s.expireGrace).junction.rest = s.junction.rest := by
  unfold State.expireGrace
  try dsimp only
  repeat' split
  all_goals simp

@[simp] theorem State.examineClearance_keeps :
    (s.examineClearance).tick = s.tick ∧ (s.examineClearance).config = s.config
    ∧ (s.examineClearance).lines = s.lines ∧ (s.examineClearance).memory = s.memory
    ∧ (s.examineClearance).plan = s.plan ∧ (s.examineClearance).buffers = s.buffers
    ∧ (s.examineClearance).scheduler = s.scheduler ∧ (s.examineClearance).drive = s.drive
    ∧ (s.examineClearance).freeCount = s.freeCount ∧ (s.examineClearance).pending = s.pending
    ∧ (s.examineClearance).pulses.filter Pulse.movesSheet = s.pulses.filter Pulse.movesSheet
    ∧ (s.examineClearance).junction.rest = s.junction.rest := by
  unfold State.examineClearance
  try dsimp only
  repeat' split
  all_goals simp

@[simp] theorem State.disposeStranded_keeps (d : Disposition) (front : Option BufferNo) (back : Option BufferNo) (last : Option Sensor) :
    (s.disposeStranded d front back last).tick = s.tick ∧ (s.disposeStranded d front back last).config = s.config
    ∧ (s.disposeStranded d front back last).lines = s.lines
    ∧ (s.disposeStranded d front back last).memory = s.memory ∧ (s.disposeStranded d front back last).plan = s.plan
    ∧ (s.disposeStranded d front back last).scheduler = s.scheduler
    ∧ (s.disposeStranded d front back last).tracker = s.tracker
    ∧ (s.disposeStranded d front back last).output = s.output
    ∧ (s.disposeStranded d front back last).drive = s.drive
    ∧ (s.disposeStranded d front back last).pulses = s.pulses
    ∧ (s.disposeStranded d front back last).freeCount = s.freeCount
    ∧ (s.disposeStranded d front back last).pending = s.pending
    ∧ (s.disposeStranded d front back last).junction.rest = s.junction.rest := by
  simp [State.disposeStranded]

@[simp] theorem State.freeStranded_keeps (y : List (Handle × Sheet)) :
    (s.freeStranded y).tick = s.tick ∧ (s.freeStranded y).config = s.config ∧ (s.freeStranded y).lines = s.lines
    ∧ (s.freeStranded y).memory = s.memory ∧ (s.freeStranded y).plan = s.plan ∧ (s.freeStranded y).drive = s.drive
    ∧ (s.freeStranded y).freeCount = s.freeCount ∧ (s.freeStranded y).pending = s.pending
    ∧ (s.freeStranded y).pulses.filter Pulse.movesSheet = s.pulses.filter Pulse.movesSheet
    ∧ (s.freeStranded y).junction.rest = s.junction.rest := by
  induction y generalizing s with
  | nil => simp [State.freeStranded]
  | cons a l ih => simp [State.freeStranded, ih]

@[simp] theorem State.breakAll_keeps (y : List (Copy × OutputMode)) :
    (s.breakAll y).tick = s.tick ∧ (s.breakAll y).config = s.config ∧ (s.breakAll y).lines = s.lines
    ∧ (s.breakAll y).memory = s.memory ∧ (s.breakAll y).scheduler = s.scheduler ∧ (s.breakAll y).drive = s.drive
    ∧ (s.breakAll y).run = s.run ∧ (s.breakAll y).freeCount = s.freeCount ∧ (s.breakAll y).pending = s.pending
    ∧ (s.breakAll y).pulses.filter Pulse.movesSheet = s.pulses.filter Pulse.movesSheet
    ∧ (s.breakAll y).junction.rest = s.junction.rest := by
  induction y generalizing s with
  | nil => simp [State.breakAll]
  | cons a l ih => simp [State.breakAll, ih]

@[simp] theorem State.strandMembers_keeps (last : Sensor) (y : List Member) :
    (s.strandMembers last y).tick = s.tick ∧ (s.strandMembers last y).config = s.config
    ∧ (s.strandMembers last y).lines = s.lines ∧ (s.strandMembers last y).memory = s.memory
    ∧ (s.strandMembers last y).plan = s.plan ∧ (s.strandMembers last y).scheduler = s.scheduler
    ∧ (s.strandMembers last y).tracker = s.tracker ∧ (s.strandMembers last y).output = s.output
    ∧ (s.strandMembers last y).drive = s.drive ∧ (s.strandMembers last y).pulses = s.pulses
    ∧ (s.strandMembers last y).freeCount = s.freeCount ∧ (s.strandMembers last y).pending = s.pending
    ∧ (s.strandMembers last y).junction.rest = s.junction.rest := by
  induction y generalizing s with
  | nil => simp [State.strandMembers]
  | cons a l ih => simp [State.strandMembers, ih]

@[simp] theorem State.breakSet_keeps :
    (s.breakSet).tick = s.tick ∧ (s.breakSet).config = s.config ∧ (s.breakSet).lines = s.lines
    ∧ (s.breakSet).memory = s.memory ∧ (s.breakSet).scheduler = s.scheduler ∧ (s.breakSet).drive = s.drive
    ∧ (s.breakSet).run = s.run ∧ (s.breakSet).freeCount = s.freeCount ∧ (s.breakSet).pending = s.pending
    ∧ (s.breakSet).pulses.filter Pulse.movesSheet = s.pulses.filter Pulse.movesSheet
    ∧ (s.breakSet).junction.rest = s.junction.rest := by
  unfold State.breakSet
  try dsimp only
  repeat' split
  all_goals simp

@[simp] theorem State.clearSet_keeps :
    (s.clearSet).tick = s.tick ∧ (s.clearSet).config = s.config ∧ (s.clearSet).lines = s.lines
    ∧ (s.clearSet).memory = s.memory ∧ (s.clearSet).scheduler = s.scheduler ∧ (s.clearSet).drive = s.drive
    ∧ (s.clearSet).freeCount = s.freeCount ∧ (s.clearSet).pending = s.pending
    ∧ (s.clearSet).pulses.filter Pulse.movesSheet = s.pulses.filter Pulse.movesSheet
    ∧ (s.clearSet).junction.rest = s.junction.rest := by
  unfold State.clearSet
  try dsimp only
  repeat' split
  all_goals simp

@[simp] theorem State.settleGates_keeps :
    (s.settleGates).tick = s.tick ∧ (s.settleGates).config = s.config ∧ (s.settleGates).lines = s.lines
    ∧ (s.settleGates).memory = s.memory ∧ (s.settleGates).junction = s.junction ∧ (s.settleGates).plan = s.plan
    ∧ (s.settleGates).buffers = s.buffers ∧ (s.settleGates).scheduler = s.scheduler
    ∧ (s.settleGates).tracker = s.tracker ∧ (s.settleGates).drive = s.drive ∧ (s.settleGates).run = s.run
    ∧ (s.settleGates).log = s.log ∧ (s.settleGates).attention = s.attention ∧ (s.settleGates).pulses = s.pulses
    ∧ (s.settleGates).freeCount = s.freeCount ∧ (s.settleGates).pending = s.pending := by
  simp [State.settleGates]

@[simp] theorem State.clearMark_keeps :
    (s.clearMark).tick = s.tick ∧ (s.clearMark).config = s.config ∧ (s.clearMark).lines = s.lines
    ∧ (s.clearMark).memory = s.memory ∧ (s.clearMark).junction = s.junction ∧ (s.clearMark).plan = s.plan
    ∧ (s.clearMark).buffers = s.buffers ∧ (s.clearMark).scheduler = s.scheduler ∧ (s.clearMark).tracker = s.tracker
    ∧ (s.clearMark).output = s.output ∧ (s.clearMark).drive = s.drive ∧ (s.clearMark).log = s.log
    ∧ (s.clearMark).attention = s.attention ∧ (s.clearMark).pulses = s.pulses
    ∧ (s.clearMark).freeCount = s.freeCount ∧ (s.clearMark).pending = s.pending := by
  simp [State.clearMark]

@[simp] theorem State.carryOutClear_keeps :
    (s.carryOutClear).tick = s.tick ∧ (s.carryOutClear).config = s.config ∧ (s.carryOutClear).lines = s.lines
    ∧ (s.carryOutClear).memory = s.memory ∧ (s.carryOutClear).drive = s.drive
    ∧ (s.carryOutClear).freeCount = s.freeCount ∧ (s.carryOutClear).pending = s.pending
    ∧ (s.carryOutClear).pulses.filter Pulse.movesSheet = s.pulses.filter Pulse.movesSheet
    ∧ (s.carryOutClear).junction.rest = s.junction.rest := by
  simp [State.carryOutClear]

@[simp] theorem State.coverSet_keeps :
    (s.coverSet).tick = s.tick ∧ (s.coverSet).config = s.config ∧ (s.coverSet).lines = s.lines
    ∧ (s.coverSet).memory = s.memory ∧ (s.coverSet).plan = s.plan ∧ (s.coverSet).buffers = s.buffers
    ∧ (s.coverSet).scheduler = s.scheduler ∧ (s.coverSet).drive = s.drive ∧ (s.coverSet).log = s.log
    ∧ (s.coverSet).attention = s.attention ∧ (s.coverSet).pulses = s.pulses ∧ (s.coverSet).freeCount = s.freeCount
    ∧ (s.coverSet).pending = s.pending ∧ (s.coverSet).junction.rest = s.junction.rest := by
  unfold State.coverSet
  try dsimp only
  repeat' split
  all_goals simp

@[simp] theorem State.scatterInFlight_keeps (c : Cause) :
    (s.scatterInFlight c).tick = s.tick ∧ (s.scatterInFlight c).config = s.config
    ∧ (s.scatterInFlight c).lines = s.lines ∧ (s.scatterInFlight c).memory = s.memory
    ∧ (s.scatterInFlight c).plan = s.plan ∧ (s.scatterInFlight c).buffers = s.buffers
    ∧ (s.scatterInFlight c).scheduler = s.scheduler ∧ (s.scatterInFlight c).tracker = s.tracker
    ∧ (s.scatterInFlight c).drive = s.drive ∧ (s.scatterInFlight c).log = s.log
    ∧ (s.scatterInFlight c).attention = s.attention ∧ (s.scatterInFlight c).pulses = s.pulses
    ∧ (s.scatterInFlight c).freeCount = s.freeCount ∧ (s.scatterInFlight c).pending = s.pending
    ∧ (s.scatterInFlight c).junction.rest = s.junction.rest := by
  unfold State.scatterInFlight
  try dsimp only
  repeat' split
  all_goals simp

@[simp] theorem State.markImageFault_keeps (h : Handle) :
    (s.markImageFault h).tick = s.tick ∧ (s.markImageFault h).config = s.config
    ∧ (s.markImageFault h).lines = s.lines ∧ (s.markImageFault h).memory = s.memory
    ∧ (s.markImageFault h).scheduler = s.scheduler ∧ (s.markImageFault h).drive = s.drive
    ∧ (s.markImageFault h).run = s.run ∧ (s.markImageFault h).freeCount = s.freeCount
    ∧ (s.markImageFault h).pending = s.pending
    ∧ (s.markImageFault h).pulses.filter Pulse.movesSheet = s.pulses.filter Pulse.movesSheet
    ∧ (s.markImageFault h).junction.rest = s.junction.rest := by
  unfold State.markImageFault
  try dsimp only
  repeat' split
  all_goals simp

@[simp] theorem State.imageFaultAsserted_keeps :
    (s.imageFaultAsserted).tick = s.tick ∧ (s.imageFaultAsserted).config = s.config
    ∧ (s.imageFaultAsserted).lines = s.lines ∧ (s.imageFaultAsserted).memory = s.memory
    ∧ (s.imageFaultAsserted).scheduler = s.scheduler ∧ (s.imageFaultAsserted).drive = s.drive
    ∧ (s.imageFaultAsserted).run = s.run ∧ (s.imageFaultAsserted).freeCount = s.freeCount
    ∧ (s.imageFaultAsserted).pending = s.pending
    ∧ (s.imageFaultAsserted).pulses.filter Pulse.movesSheet = s.pulses.filter Pulse.movesSheet
    ∧ (s.imageFaultAsserted).junction.rest = s.junction.rest := by
  unfold State.imageFaultAsserted
  try dsimp only
  repeat' split
  all_goals simp

@[simp] theorem State.untrackedArrives_keeps (x : Sensor) :
    (s.untrackedArrives x).tick = s.tick ∧ (s.untrackedArrives x).config = s.config
    ∧ (s.untrackedArrives x).lines = s.lines ∧ (s.untrackedArrives x).memory = s.memory
    ∧ (s.untrackedArrives x).junction = s.junction ∧ (s.untrackedArrives x).plan = s.plan
    ∧ (s.untrackedArrives x).buffers = s.buffers ∧ (s.untrackedArrives x).scheduler = s.scheduler
    ∧ (s.untrackedArrives x).output = s.output ∧ (s.untrackedArrives x).drive = s.drive
    ∧ (s.untrackedArrives x).run = s.run ∧ (s.untrackedArrives x).log = s.log
    ∧ (s.untrackedArrives x).attention = s.attention ∧ (s.untrackedArrives x).pulses = s.pulses
    ∧ (s.untrackedArrives x).freeCount = s.freeCount ∧ (s.untrackedArrives x).pending = s.pending := by
  simp [State.untrackedArrives]

@[simp] theorem State.occupy_keeps (x : Sensor) (e : Expectation) (o : Occupant) (timed : Bool) :
    (s.occupy x e o timed).tick = s.tick ∧ (s.occupy x e o timed).config = s.config
    ∧ (s.occupy x e o timed).lines = s.lines ∧ (s.occupy x e o timed).memory = s.memory
    ∧ (s.occupy x e o timed).junction = s.junction ∧ (s.occupy x e o timed).plan = s.plan
    ∧ (s.occupy x e o timed).buffers = s.buffers ∧ (s.occupy x e o timed).scheduler = s.scheduler
    ∧ (s.occupy x e o timed).output = s.output ∧ (s.occupy x e o timed).drive = s.drive
    ∧ (s.occupy x e o timed).run = s.run ∧ (s.occupy x e o timed).log = s.log
    ∧ (s.occupy x e o timed).attention = s.attention ∧ (s.occupy x e o timed).pulses = s.pulses
    ∧ (s.occupy x e o timed).freeCount = s.freeCount ∧ (s.occupy x e o timed).pending = s.pending := by
  unfold State.occupy
  try dsimp only
  repeat' split
  all_goals simp

@[simp] theorem State.matchSheet_keeps (x : Sensor) (e : Expectation) (h : Handle) :
    (s.matchSheet x e h).tick = s.tick ∧ (s.matchSheet x e h).config = s.config
    ∧ (s.matchSheet x e h).lines = s.lines ∧ (s.matchSheet x e h).memory = s.memory
    ∧ (s.matchSheet x e h).junction = s.junction ∧ (s.matchSheet x e h).plan = s.plan
    ∧ (s.matchSheet x e h).buffers = s.buffers ∧ (s.matchSheet x e h).scheduler = s.scheduler
    ∧ (s.matchSheet x e h).output = s.output ∧ (s.matchSheet x e h).drive = s.drive
    ∧ (s.matchSheet x e h).run = s.run ∧ (s.matchSheet x e h).log = s.log
    ∧ (s.matchSheet x e h).attention = s.attention ∧ (s.matchSheet x e h).pulses = s.pulses
    ∧ (s.matchSheet x e h).freeCount = s.freeCount ∧ (s.matchSheet x e h).pending = s.pending := by
  simp [State.matchSheet]

@[simp] theorem State.matchHalted_keeps (x : Sensor) (e : Expectation) (h : Handle) :
    (s.matchHalted x e h).tick = s.tick ∧ (s.matchHalted x e h).config = s.config
    ∧ (s.matchHalted x e h).lines = s.lines ∧ (s.matchHalted x e h).memory = s.memory
    ∧ (s.matchHalted x e h).junction = s.junction ∧ (s.matchHalted x e h).plan = s.plan
    ∧ (s.matchHalted x e h).buffers = s.buffers ∧ (s.matchHalted x e h).scheduler = s.scheduler
    ∧ (s.matchHalted x e h).output = s.output ∧ (s.matchHalted x e h).drive = s.drive
    ∧ (s.matchHalted x e h).run = s.run ∧ (s.matchHalted x e h).log = s.log
    ∧ (s.matchHalted x e h).attention = s.attention ∧ (s.matchHalted x e h).pulses = s.pulses
    ∧ (s.matchHalted x e h).freeCount = s.freeCount ∧ (s.matchHalted x e h).pending = s.pending := by
  simp [State.matchHalted]

@[simp] theorem State.setSheetState_keeps (h : Handle) (x : SheetState) :
    (s.setSheetState h x).tick = s.tick ∧ (s.setSheetState h x).config = s.config
    ∧ (s.setSheetState h x).lines = s.lines ∧ (s.setSheetState h x).memory = s.memory
    ∧ (s.setSheetState h x).junction = s.junction ∧ (s.setSheetState h x).plan = s.plan
    ∧ (s.setSheetState h x).buffers = s.buffers ∧ (s.setSheetState h x).scheduler = s.scheduler
    ∧ (s.setSheetState h x).output = s.output ∧ (s.setSheetState h x).drive = s.drive
    ∧ (s.setSheetState h x).run = s.run ∧ (s.setSheetState h x).log = s.log
    ∧ (s.setSheetState h x).attention = s.attention ∧ (s.setSheetState h x).pulses = s.pulses
    ∧ (s.setSheetState h x).freeCount = s.freeCount ∧ (s.setSheetState h x).pending = s.pending := by
  simp [State.setSheetState]

@[simp] theorem State.matchAtTransfer_keeps (h : Handle) :
    (s.matchAtTransfer h).tick = s.tick ∧ (s.matchAtTransfer h).config = s.config
    ∧ (s.matchAtTransfer h).lines = s.lines ∧ (s.matchAtTransfer h).memory = s.memory
    ∧ (s.matchAtTransfer h).scheduler = s.scheduler ∧ (s.matchAtTransfer h).drive = s.drive
    ∧ (s.matchAtTransfer h).run = s.run ∧ (s.matchAtTransfer h).freeCount = s.freeCount
    ∧ (s.matchAtTransfer h).pending = s.pending
    ∧ (s.matchAtTransfer h).pulses.filter Pulse.movesSheet = s.pulses.filter Pulse.movesSheet
    ∧ (s.matchAtTransfer h).junction.rest = s.junction.rest := by
  unfold State.matchAtTransfer
  try dsimp only
  repeat' split
  all_goals simp

@[simp] theorem State.matchAtFuser_keeps (h : Handle) :
    (s.matchAtFuser h).tick = s.tick ∧ (s.matchAtFuser h).config = s.config ∧ (s.matchAtFuser h).lines = s.lines
    ∧ (s.matchAtFuser h).memory = s.memory ∧ (s.matchAtFuser h).plan = s.plan
    ∧ (s.matchAtFuser h).buffers = s.buffers ∧ (s.matchAtFuser h).scheduler = s.scheduler
    ∧ (s.matchAtFuser h).drive = s.drive ∧ (s.matchAtFuser h).run = s.run ∧ (s.matchAtFuser h).pulses = s.pulses
    ∧ (s.matchAtFuser h).freeCount = s.freeCount ∧ (s.matchAtFuser h).pending = s.pending
    ∧ (s.matchAtFuser h).junction.rest = s.junction.rest := by
  unfold State.matchAtFuser
  try dsimp only
  repeat' split
  all_goals simp

@[simp] theorem State.matchAtHold_keeps (h : Handle) :
    (s.matchAtHold h).tick = s.tick ∧ (s.matchAtHold h).config = s.config ∧ (s.matchAtHold h).lines = s.lines
    ∧ (s.matchAtHold h).memory = s.memory ∧ (s.matchAtHold h).junction = s.junction
    ∧ (s.matchAtHold h).plan = s.plan ∧ (s.matchAtHold h).buffers = s.buffers ∧ (s.matchAtHold h).output = s.output
    ∧ (s.matchAtHold h).drive = s.drive ∧ (s.matchAtHold h).run = s.run ∧ (s.matchAtHold h).log = s.log
    ∧ (s.matchAtHold h).attention = s.attention ∧ (s.matchAtHold h).pulses = s.pulses
    ∧ (s.matchAtHold h).freeCount = s.freeCount ∧ (s.matchAtHold h).pending = s.pending := by
  unfold State.matchAtHold
  try dsimp only
  repeat' split
  all_goals simp

@[simp] theorem State.matchAtExit_keeps (h : Handle) :
    (s.matchAtExit h).tick = s.tick ∧ (s.matchAtExit h).config = s.config ∧ (s.matchAtExit h).lines = s.lines
    ∧ (s.matchAtExit h).memory = s.memory ∧ (s.matchAtExit h).junction = s.junction
    ∧ (s.matchAtExit h).plan = s.plan ∧ (s.matchAtExit h).buffers = s.buffers
    ∧ (s.matchAtExit h).scheduler = s.scheduler ∧ (s.matchAtExit h).output = s.output
    ∧ (s.matchAtExit h).drive = s.drive ∧ (s.matchAtExit h).run = s.run ∧ (s.matchAtExit h).log = s.log
    ∧ (s.matchAtExit h).attention = s.attention ∧ (s.matchAtExit h).pulses = s.pulses
    ∧ (s.matchAtExit h).freeCount = s.freeCount ∧ (s.matchAtExit h).pending = s.pending := by
  unfold State.matchAtExit
  try dsimp only
  repeat' split
  all_goals simp

@[simp] theorem State.advance_keeps (h : Handle) (y : Sensor) :
    (s.advance h y).tick = s.tick ∧ (s.advance h y).config = s.config ∧ (s.advance h y).lines = s.lines
    ∧ (s.advance h y).memory = s.memory ∧ (s.advance h y).drive = s.drive ∧ (s.advance h y).run = s.run
    ∧ (s.advance h y).freeCount = s.freeCount ∧ (s.advance h y).pending = s.pending
    ∧ (s.advance h y).pulses.filter Pulse.movesSheet = s.pulses.filter Pulse.movesSheet
    ∧ (s.advance h y).junction.rest = s.junction.rest := by
  unfold State.advance
  try dsimp only
  repeat' split
  all_goals simp

@[simp] theorem State.matchSet_keeps (x : Sensor) (e : Expectation) :
    (s.matchSet x e).tick = s.tick ∧ (s.matchSet x e).config = s.config ∧ (s.matchSet x e).lines = s.lines
    ∧ (s.matchSet x e).memory = s.memory ∧ (s.matchSet x e).junction = s.junction ∧ (s.matchSet x e).plan = s.plan
    ∧ (s.matchSet x e).buffers = s.buffers ∧ (s.matchSet x e).scheduler = s.scheduler
    ∧ (s.matchSet x e).drive = s.drive ∧ (s.matchSet x e).run = s.run ∧ (s.matchSet x e).log = s.log
    ∧ (s.matchSet x e).attention = s.attention ∧ (s.matchSet x e).pulses = s.pulses
    ∧ (s.matchSet x e).freeCount = s.freeCount ∧ (s.matchSet x e).pending = s.pending := by
  simp [State.matchSet]

@[simp] theorem State.matchEdge_keeps (x : Sensor) (e : Expectation) :
    (s.matchEdge x e).tick = s.tick ∧ (s.matchEdge x e).config = s.config ∧ (s.matchEdge x e).lines = s.lines
    ∧ (s.matchEdge x e).memory = s.memory ∧ (s.matchEdge x e).drive = s.drive ∧ (s.matchEdge x e).run = s.run
    ∧ (s.matchEdge x e).freeCount = s.freeCount ∧ (s.matchEdge x e).pending = s.pending
    ∧ (s.matchEdge x e).pulses.filter Pulse.movesSheet = s.pulses.filter Pulse.movesSheet
    ∧ (s.matchEdge x e).junction.rest = s.junction.rest := by
  unfold State.matchEdge
  try dsimp only
  repeat' split
  all_goals simp

@[simp] theorem State.judgeEdge_keeps (x : Sensor) (y : Option Expectation) :
    (s.judgeEdge x y).tick = s.tick ∧ (s.judgeEdge x y).config = s.config ∧ (s.judgeEdge x y).lines = s.lines
    ∧ (s.judgeEdge x y).memory = s.memory ∧ (s.judgeEdge x y).freeCount = s.freeCount
    ∧ (s.judgeEdge x y).pending = s.pending
    ∧ (s.judgeEdge x y).pulses.filter Pulse.movesSheet = s.pulses.filter Pulse.movesSheet
    ∧ (s.judgeEdge x y).junction.rest = s.junction.rest := by
  unfold State.judgeEdge
  try dsimp only
  repeat' split
  all_goals simp

@[simp] theorem State.collide_keeps (x : Sensor) (c : Cause) (other : Option Nat) (head : Option Expectation) :
    (s.collide x c other head).tick = s.tick ∧ (s.collide x c other head).config = s.config
    ∧ (s.collide x c other head).lines = s.lines ∧ (s.collide x c other head).memory = s.memory
    ∧ (s.collide x c other head).freeCount = s.freeCount ∧ (s.collide x c other head).pending = s.pending
    ∧ (s.collide x c other head).pulses.filter Pulse.movesSheet = s.pulses.filter Pulse.movesSheet
    ∧ (s.collide x c other head).junction.rest = s.junction.rest := by
  unfold State.collide
  try dsimp only
  repeat' split
  all_goals simp

@[simp] theorem State.cover_keeps (x : Sensor) (level : Bool) :
    (s.cover x level).tick = s.tick ∧ (s.cover x level).config = s.config ∧ (s.cover x level).lines = s.lines
    ∧ (s.cover x level).memory = s.memory ∧ (s.cover x level).junction = s.junction
    ∧ (s.cover x level).plan = s.plan ∧ (s.cover x level).buffers = s.buffers
    ∧ (s.cover x level).scheduler = s.scheduler ∧ (s.cover x level).output = s.output
    ∧ (s.cover x level).drive = s.drive ∧ (s.cover x level).run = s.run ∧ (s.cover x level).log = s.log
    ∧ (s.cover x level).attention = s.attention ∧ (s.cover x level).pulses = s.pulses
    ∧ (s.cover x level).freeCount = s.freeCount ∧ (s.cover x level).pending = s.pending := by
  simp [State.cover]

@[simp] theorem State.takeLeadingEdge_keeps (x : Sensor) :
    (s.takeLeadingEdge x).tick = s.tick ∧ (s.takeLeadingEdge x).config = s.config
    ∧ (s.takeLeadingEdge x).lines = s.lines ∧ (s.takeLeadingEdge x).memory = s.memory
    ∧ (s.takeLeadingEdge x).freeCount = s.freeCount ∧ (s.takeLeadingEdge x).pending = s.pending
    ∧ (s.takeLeadingEdge x).pulses.filter Pulse.movesSheet = s.pulses.filter Pulse.movesSheet
    ∧ (s.takeLeadingEdge x).junction.rest = s.junction.rest := by
  unfold State.takeLeadingEdge
  try dsimp only
  repeat' split
  all_goals simp

@[simp] theorem State.vacate_keeps (x : Sensor) :
    (s.vacate x).tick = s.tick ∧ (s.vacate x).config = s.config ∧ (s.vacate x).lines = s.lines
    ∧ (s.vacate x).memory = s.memory ∧ (s.vacate x).junction = s.junction ∧ (s.vacate x).plan = s.plan
    ∧ (s.vacate x).buffers = s.buffers ∧ (s.vacate x).scheduler = s.scheduler ∧ (s.vacate x).output = s.output
    ∧ (s.vacate x).drive = s.drive ∧ (s.vacate x).run = s.run ∧ (s.vacate x).log = s.log
    ∧ (s.vacate x).attention = s.attention ∧ (s.vacate x).pulses = s.pulses ∧ (s.vacate x).freeCount = s.freeCount
    ∧ (s.vacate x).pending = s.pending := by
  unfold State.vacate
  try dsimp only
  repeat' split
  all_goals simp

@[simp] theorem State.overrun_keeps (sh : Sheet) :
    (s.overrun sh).tick = s.tick ∧ (s.overrun sh).config = s.config ∧ (s.overrun sh).lines = s.lines
    ∧ (s.overrun sh).memory = s.memory ∧ (s.overrun sh).freeCount = s.freeCount ∧ (s.overrun sh).pending = s.pending
    ∧ (s.overrun sh).pulses.filter Pulse.movesSheet = s.pulses.filter Pulse.movesSheet
    ∧ (s.overrun sh).junction.rest = s.junction.rest := by
  unfold State.overrun
  try dsimp only
  repeat' split
  all_goals simp

@[simp] theorem State.takeMember_keeps (sh : Sheet) :
    (s.takeMember sh).tick = s.tick ∧ (s.takeMember sh).config = s.config ∧ (s.takeMember sh).lines = s.lines
    ∧ (s.takeMember sh).memory = s.memory ∧ (s.takeMember sh).freeCount = s.freeCount
    ∧ (s.takeMember sh).pending = s.pending
    ∧ (s.takeMember sh).pulses.filter Pulse.movesSheet = s.pulses.filter Pulse.movesSheet
    ∧ (s.takeMember sh).junction.rest = s.junction.rest := by
  unfold State.takeMember
  try dsimp only
  repeat' split
  all_goals simp

@[simp] theorem State.handOverSheet_keeps (sh : Sheet) (y : Route) :
    (s.handOverSheet sh y).tick = s.tick ∧ (s.handOverSheet sh y).config = s.config
    ∧ (s.handOverSheet sh y).lines = s.lines ∧ (s.handOverSheet sh y).memory = s.memory
    ∧ (s.handOverSheet sh y).freeCount = s.freeCount ∧ (s.handOverSheet sh y).pending = s.pending
    ∧ (s.handOverSheet sh y).pulses.filter Pulse.movesSheet = s.pulses.filter Pulse.movesSheet
    ∧ (s.handOverSheet sh y).junction.rest = s.junction.rest := by
  unfold State.handOverSheet
  try dsimp only
  repeat' split
  all_goals simp

@[simp] theorem State.leaveTable_keeps (h : Handle) (sh : Sheet) (r : Route) :
    (s.leaveTable h sh r).tick = s.tick ∧ (s.leaveTable h sh r).config = s.config
    ∧ (s.leaveTable h sh r).lines = s.lines ∧ (s.leaveTable h sh r).memory = s.memory
    ∧ (s.leaveTable h sh r).freeCount = s.freeCount ∧ (s.leaveTable h sh r).pending = s.pending
    ∧ (s.leaveTable h sh r).pulses.filter Pulse.movesSheet = s.pulses.filter Pulse.movesSheet
    ∧ (s.leaveTable h sh r).junction.rest = s.junction.rest := by
  simp [State.leaveTable]

@[simp] theorem State.gatePassed_keeps (x : Sensor) (h : Handle) :
    (s.gatePassed x h).tick = s.tick ∧ (s.gatePassed x h).config = s.config ∧ (s.gatePassed x h).lines = s.lines
    ∧ (s.gatePassed x h).memory = s.memory ∧ (s.gatePassed x h).freeCount = s.freeCount
    ∧ (s.gatePassed x h).pending = s.pending
    ∧ (s.gatePassed x h).pulses.filter Pulse.movesSheet = s.pulses.filter Pulse.movesSheet
    ∧ (s.gatePassed x h).junction.rest = s.junction.rest := by
  unfold State.gatePassed
  try dsimp only
  repeat' split
  all_goals simp

@[simp] theorem State.sheetLeaves_keeps (x : Sensor) (h : Handle) (sh : Sheet) :
    (s.sheetLeaves x h sh).tick = s.tick ∧ (s.sheetLeaves x h sh).config = s.config ∧ (s.sheetLeaves x h sh).lines = s.lines
    ∧ (s.sheetLeaves x h sh).memory = s.memory ∧ (s.sheetLeaves x h sh).freeCount = s.freeCount
    ∧ (s.sheetLeaves x h sh).pending = s.pending
    ∧ (s.sheetLeaves x h sh).pulses.filter Pulse.movesSheet = s.pulses.filter Pulse.movesSheet
    ∧ (s.sheetLeaves x h sh).junction.rest = s.junction.rest := by
  unfold State.sheetLeaves
  try dsimp only
  repeat' split
  all_goals simp

@[simp] theorem State.sheetPassed_keeps (x : Sensor) (h : Handle) :
    (s.sheetPassed x h).tick = s.tick ∧ (s.sheetPassed x h).config = s.config ∧ (s.sheetPassed x h).lines = s.lines
    ∧ (s.sheetPassed x h).memory = s.memory ∧ (s.sheetPassed x h).freeCount = s.freeCount
    ∧ (s.sheetPassed x h).pending = s.pending
    ∧ (s.sheetPassed x h).pulses.filter Pulse.movesSheet = s.pulses.filter Pulse.movesSheet
    ∧ (s.sheetPassed x h).junction.rest = s.junction.rest := by
  unfold State.sheetPassed
  try dsimp only
  repeat' split
  all_goals simp

@[simp] theorem State.judgeSheetTrail_keeps (x : Sensor) (h : Handle) :
    (s.judgeSheetTrail x h).tick = s.tick ∧ (s.judgeSheetTrail x h).config = s.config
    ∧ (s.judgeSheetTrail x h).lines = s.lines ∧ (s.judgeSheetTrail x h).memory = s.memory
    ∧ (s.judgeSheetTrail x h).freeCount = s.freeCount ∧ (s.judgeSheetTrail x h).pending = s.pending
    ∧ (s.judgeSheetTrail x h).pulses.filter Pulse.movesSheet = s.pulses.filter Pulse.movesSheet
    ∧ (s.judgeSheetTrail x h).junction.rest = s.junction.rest := by
  unfold State.judgeSheetTrail
  try dsimp only
  repeat' split
  all_goals simp

@[simp] theorem State.ejectCompleted_keeps :
    (s.ejectCompleted).tick = s.tick ∧ (s.ejectCompleted).config = s.config ∧ (s.ejectCompleted).lines = s.lines
    ∧ (s.ejectCompleted).memory = s.memory ∧ (s.ejectCompleted).freeCount = s.freeCount
    ∧ (s.ejectCompleted).pending = s.pending
    ∧ (s.ejectCompleted).pulses.filter Pulse.movesSheet = s.pulses.filter Pulse.movesSheet
    ∧ (s.ejectCompleted).junction.rest = s.junction.rest := by
  simp [State.ejectCompleted]

@[simp] theorem State.judgeSetTrail_keeps (x : Sensor) :
    (s.judgeSetTrail x).tick = s.tick ∧ (s.judgeSetTrail x).config = s.config ∧ (s.judgeSetTrail x).lines = s.lines
    ∧ (s.judgeSetTrail x).memory = s.memory ∧ (s.judgeSetTrail x).freeCount = s.freeCount
    ∧ (s.judgeSetTrail x).pending = s.pending
    ∧ (s.judgeSetTrail x).pulses.filter Pulse.movesSheet = s.pulses.filter Pulse.movesSheet
    ∧ (s.judgeSetTrail x).junction.rest = s.junction.rest := by
  unfold State.judgeSetTrail
  try dsimp only
  repeat' split
  all_goals simp

@[simp] theorem State.takeTrailingEdge_keeps (x : Sensor) :
    (s.takeTrailingEdge x).tick = s.tick ∧ (s.takeTrailingEdge x).config = s.config
    ∧ (s.takeTrailingEdge x).lines = s.lines ∧ (s.takeTrailingEdge x).memory = s.memory
    ∧ (s.takeTrailingEdge x).freeCount = s.freeCount ∧ (s.takeTrailingEdge x).pending = s.pending
    ∧ (s.takeTrailingEdge x).pulses.filter Pulse.movesSheet = s.pulses.filter Pulse.movesSheet
    ∧ (s.takeTrailingEdge x).junction.rest = s.junction.rest := by
  unfold State.takeTrailingEdge
  try dsimp only
  repeat' split
  all_goals simp

@[simp] theorem State.dropExpectation_keeps (x : Sensor) (i : Item) :
    (s.dropExpectation x i).tick = s.tick ∧ (s.dropExpectation x i).config = s.config
    ∧ (s.dropExpectation x i).lines = s.lines ∧ (s.dropExpectation x i).memory = s.memory
    ∧ (s.dropExpectation x i).junction = s.junction ∧ (s.dropExpectation x i).plan = s.plan
    ∧ (s.dropExpectation x i).buffers = s.buffers ∧ (s.dropExpectation x i).scheduler = s.scheduler
    ∧ (s.dropExpectation x i).output = s.output ∧ (s.dropExpectation x i).drive = s.drive
    ∧ (s.dropExpectation x i).run = s.run ∧ (s.dropExpectation x i).log = s.log
    ∧ (s.dropExpectation x i).attention = s.attention ∧ (s.dropExpectation x i).pulses = s.pulses
    ∧ (s.dropExpectation x i).freeCount = s.freeCount ∧ (s.dropExpectation x i).pending = s.pending := by
  simp [State.dropExpectation]

@[simp] theorem State.disarmExpectation_keeps (x : Sensor) (i : Item) :
    (s.disarmExpectation x i).tick = s.tick ∧ (s.disarmExpectation x i).config = s.config
    ∧ (s.disarmExpectation x i).lines = s.lines ∧ (s.disarmExpectation x i).memory = s.memory
    ∧ (s.disarmExpectation x i).junction = s.junction ∧ (s.disarmExpectation x i).plan = s.plan
    ∧ (s.disarmExpectation x i).buffers = s.buffers ∧ (s.disarmExpectation x i).scheduler = s.scheduler
    ∧ (s.disarmExpectation x i).output = s.output ∧ (s.disarmExpectation x i).drive = s.drive
    ∧ (s.disarmExpectation x i).run = s.run ∧ (s.disarmExpectation x i).log = s.log
    ∧ (s.disarmExpectation x i).attention = s.attention ∧ (s.disarmExpectation x i).pulses = s.pulses
    ∧ (s.disarmExpectation x i).freeCount = s.freeCount ∧ (s.disarmExpectation x i).pending = s.pending := by
  unfold State.disarmExpectation
  try dsimp only
  all_goals simp

@[simp] theorem State.expireWindow_keeps (x : Sensor) (i : Item) :
    (s.expireWindow x i).tick = s.tick ∧ (s.expireWindow x i).config = s.config
    ∧ (s.expireWindow x i).lines = s.lines ∧ (s.expireWindow x i).memory = s.memory
    ∧ (s.expireWindow x i).freeCount = s.freeCount ∧ (s.expireWindow x i).pending = s.pending
    ∧ (s.expireWindow x i).pulses.filter Pulse.movesSheet = s.pulses.filter Pulse.movesSheet
    ∧ (s.expireWindow x i).junction.rest = s.junction.rest := by
  unfold State.expireWindow
  try dsimp only
  repeat' split
  all_goals simp

@[simp] theorem State.expireCover_keeps (x : Sensor) :
    (s.expireCover x).tick = s.tick ∧ (s.expireCover x).config = s.config ∧ (s.expireCover x).lines = s.lines
    ∧ (s.expireCover x).memory = s.memory ∧ (s.expireCover x).freeCount = s.freeCount
    ∧ (s.expireCover x).pending = s.pending
    ∧ (s.expireCover x).pulses.filter Pulse.movesSheet = s.pulses.filter Pulse.movesSheet
    ∧ (s.expireCover x).junction.rest = s.junction.rest := by
  unfold State.expireCover
  try dsimp only
  repeat' split
  all_goals simp

@[simp] theorem State.capture_keeps (p : Port) (a : Access) (c : CaptureCause) :
    (s.capture p a c).tick = s.tick ∧ (s.capture p a c).config = s.config ∧ (s.capture p a c).lines = s.lines
    ∧ (s.capture p a c).memory = s.memory ∧ (s.capture p a c).plan = s.plan ∧ (s.capture p a c).buffers = s.buffers
    ∧ (s.capture p a c).scheduler = s.scheduler ∧ (s.capture p a c).tracker = s.tracker
    ∧ (s.capture p a c).output = s.output ∧ (s.capture p a c).drive = s.drive ∧ (s.capture p a c).run = s.run
    ∧ (s.capture p a c).log = s.log ∧ (s.capture p a c).pulses = s.pulses
    ∧ (s.capture p a c).freeCount = s.freeCount ∧ (s.capture p a c).pending = s.pending := by
  unfold State.capture
  try dsimp only
  repeat' split
  all_goals simp

@[simp] theorem State.clearLatch_keeps :
    (s.clearLatch).tick = s.tick ∧ (s.clearLatch).config = s.config ∧ (s.clearLatch).lines = s.lines
    ∧ (s.clearLatch).memory = s.memory ∧ (s.clearLatch).plan = s.plan ∧ (s.clearLatch).buffers = s.buffers
    ∧ (s.clearLatch).scheduler = s.scheduler ∧ (s.clearLatch).tracker = s.tracker ∧ (s.clearLatch).output = s.output
    ∧ (s.clearLatch).drive = s.drive ∧ (s.clearLatch).run = s.run ∧ (s.clearLatch).log = s.log
    ∧ (s.clearLatch).attention = s.attention ∧ (s.clearLatch).pulses = s.pulses
    ∧ (s.clearLatch).freeCount = s.freeCount ∧ (s.clearLatch).pending = s.pending := by
  simp [State.clearLatch]

@[simp] theorem State.respond_keeps (p : Port) (okay : Bool) (data : List Byte) :
    (s.respond p okay data).tick = s.tick ∧ (s.respond p okay data).config = s.config
    ∧ (s.respond p okay data).lines = s.lines ∧ (s.respond p okay data).memory = s.memory
    ∧ (s.respond p okay data).plan = s.plan ∧ (s.respond p okay data).buffers = s.buffers
    ∧ (s.respond p okay data).scheduler = s.scheduler ∧ (s.respond p okay data).tracker = s.tracker
    ∧ (s.respond p okay data).output = s.output ∧ (s.respond p okay data).drive = s.drive
    ∧ (s.respond p okay data).run = s.run ∧ (s.respond p okay data).log = s.log
    ∧ (s.respond p okay data).attention = s.attention ∧ (s.respond p okay data).pulses = s.pulses
    ∧ (s.respond p okay data).freeCount = s.freeCount ∧ (s.respond p okay data).pending = s.pending := by
  simp [State.respond]

@[simp] theorem State.readCell_keeps (p : Port) (y : ViewCell) :
    (s.readCell p y).tick = s.tick ∧ (s.readCell p y).config = s.config ∧ (s.readCell p y).lines = s.lines
    ∧ (s.readCell p y).memory = s.memory ∧ (s.readCell p y).plan = s.plan ∧ (s.readCell p y).scheduler = s.scheduler
    ∧ (s.readCell p y).tracker = s.tracker ∧ (s.readCell p y).output = s.output ∧ (s.readCell p y).drive = s.drive
    ∧ (s.readCell p y).run = s.run ∧ (s.readCell p y).log = s.log ∧ (s.readCell p y).pulses = s.pulses
    ∧ (s.readCell p y).freeCount = s.freeCount ∧ (s.readCell p y).pending = s.pending := by
  unfold State.readCell
  try dsimp only
  repeat' split
  all_goals simp

@[simp] theorem State.readCells_keeps (p : Port) (offset : Nat) (n : Nat) (y : List ViewCell) :
    (s.readCells p offset n y).tick = s.tick ∧ (s.readCells p offset n y).config = s.config
    ∧ (s.readCells p offset n y).lines = s.lines ∧ (s.readCells p offset n y).memory = s.memory
    ∧ (s.readCells p offset n y).plan = s.plan ∧ (s.readCells p offset n y).scheduler = s.scheduler
    ∧ (s.readCells p offset n y).tracker = s.tracker ∧ (s.readCells p offset n y).output = s.output
    ∧ (s.readCells p offset n y).drive = s.drive ∧ (s.readCells p offset n y).run = s.run
    ∧ (s.readCells p offset n y).log = s.log ∧ (s.readCells p offset n y).pulses = s.pulses
    ∧ (s.readCells p offset n y).freeCount = s.freeCount ∧ (s.readCells p offset n y).pending = s.pending := by
  induction y generalizing s with
  | nil => simp [State.readCells]
  | cons a l ih =>
    simp only [State.readCells]
    split <;> simp [ih]

@[simp] theorem State.answerView_keeps (p : Port) (offset : Nat) (n : Nat) :
    (s.answerView p offset n).tick = s.tick ∧ (s.answerView p offset n).config = s.config
    ∧ (s.answerView p offset n).lines = s.lines ∧ (s.answerView p offset n).memory = s.memory
    ∧ (s.answerView p offset n).plan = s.plan ∧ (s.answerView p offset n).scheduler = s.scheduler
    ∧ (s.answerView p offset n).tracker = s.tracker ∧ (s.answerView p offset n).output = s.output
    ∧ (s.answerView p offset n).drive = s.drive ∧ (s.answerView p offset n).run = s.run
    ∧ (s.answerView p offset n).log = s.log ∧ (s.answerView p offset n).pulses = s.pulses
    ∧ (s.answerView p offset n).freeCount = s.freeCount ∧ (s.answerView p offset n).pending = s.pending := by
  simp [State.answerView]

@[simp] theorem State.carryOut_keeps (p : Port) (a : Access) (y : Judgement) :
    (s.carryOut p a y).tick = s.tick ∧ (s.carryOut p a y).config = s.config ∧ (s.carryOut p a y).lines = s.lines
    ∧ (s.carryOut p a y).memory = s.memory ∧ (s.carryOut p a y).plan = s.plan
    ∧ (s.carryOut p a y).scheduler = s.scheduler ∧ (s.carryOut p a y).tracker = s.tracker
    ∧ (s.carryOut p a y).output = s.output ∧ (s.carryOut p a y).drive = s.drive ∧ (s.carryOut p a y).run = s.run
    ∧ (s.carryOut p a y).log = s.log ∧ (s.carryOut p a y).pulses = s.pulses
    ∧ (s.carryOut p a y).freeCount = s.freeCount ∧ (s.carryOut p a y).pending = s.pending := by
  unfold State.carryOut
  try dsimp only
  repeat' split
  all_goals simp

@[simp] theorem State.takeAccess_keeps (p : Port) (a : Access) :
    (s.takeAccess p a).tick = s.tick ∧ (s.takeAccess p a).config = s.config ∧ (s.takeAccess p a).lines = s.lines
    ∧ (s.takeAccess p a).memory = s.memory ∧ (s.takeAccess p a).plan = s.plan
    ∧ (s.takeAccess p a).scheduler = s.scheduler ∧ (s.takeAccess p a).tracker = s.tracker
    ∧ (s.takeAccess p a).output = s.output ∧ (s.takeAccess p a).drive = s.drive ∧ (s.takeAccess p a).run = s.run
    ∧ (s.takeAccess p a).log = s.log ∧ (s.takeAccess p a).pulses = s.pulses
    ∧ (s.takeAccess p a).freeCount = s.freeCount ∧ (s.takeAccess p a).pending = s.pending := by
  simp [State.takeAccess]

@[simp] theorem State.completeAccess_keeps (p : Port) (f : InFlight) :
    (s.completeAccess p f).tick = s.tick ∧ (s.completeAccess p f).config = s.config
    ∧ (s.completeAccess p f).lines = s.lines ∧ (s.completeAccess p f).plan = s.plan
    ∧ (s.completeAccess p f).buffers = s.buffers ∧ (s.completeAccess p f).scheduler = s.scheduler
    ∧ (s.completeAccess p f).tracker = s.tracker ∧ (s.completeAccess p f).output = s.output
    ∧ (s.completeAccess p f).drive = s.drive ∧ (s.completeAccess p f).run = s.run
    ∧ (s.completeAccess p f).log = s.log ∧ (s.completeAccess p f).attention = s.attention
    ∧ (s.completeAccess p f).pulses = s.pulses ∧ (s.completeAccess p f).freeCount = s.freeCount
    ∧ (s.completeAccess p f).pending = s.pending := by
  unfold State.completeAccess
  try dsimp only
  repeat' split
  all_goals simp

@[simp] theorem State.takeCode_keeps :
    (s.takeCode).tick = s.tick ∧ (s.takeCode).config = s.config ∧ (s.takeCode).lines = s.lines
    ∧ (s.takeCode).memory = s.memory ∧ (s.takeCode).plan = s.plan ∧ (s.takeCode).buffers = s.buffers
    ∧ (s.takeCode).scheduler = s.scheduler ∧ (s.takeCode).tracker = s.tracker ∧ (s.takeCode).output = s.output
    ∧ (s.takeCode).drive = s.drive ∧ (s.takeCode).log = s.log ∧ (s.takeCode).attention = s.attention
    ∧ (s.takeCode).pulses = s.pulses ∧ (s.takeCode).freeCount = s.freeCount ∧ (s.takeCode).pending = s.pending
    ∧ (s.takeCode).junction.rest = s.junction.rest := by
  unfold State.takeCode
  try dsimp only
  repeat' split
  all_goals simp

@[simp] theorem State.takeConsumer_keeps (data : Word) (mask : BitVec 4) :
    (s.takeConsumer data mask).tick = s.tick ∧ (s.takeConsumer data mask).config = s.config
    ∧ (s.takeConsumer data mask).lines = s.lines ∧ (s.takeConsumer data mask).memory = s.memory
    ∧ (s.takeConsumer data mask).buffers = s.buffers ∧ (s.takeConsumer data mask).output = s.output
    ∧ (s.takeConsumer data mask).drive = s.drive ∧ (s.takeConsumer data mask).run = s.run
    ∧ (s.takeConsumer data mask).pulses = s.pulses ∧ (s.takeConsumer data mask).freeCount = s.freeCount
    ∧ (s.takeConsumer data mask).pending = s.pending ∧ (s.takeConsumer data mask).junction.rest = s.junction.rest := by
  unfold State.takeConsumer
  try dsimp only
  repeat' split
  all_goals simp

@[simp] theorem State.restTracker_keeps :
    (s.restTracker).tick = s.tick ∧ (s.restTracker).config = s.config ∧ (s.restTracker).lines = s.lines
    ∧ (s.restTracker).memory = s.memory ∧ (s.restTracker).junction = s.junction ∧ (s.restTracker).plan = s.plan
    ∧ (s.restTracker).buffers = s.buffers ∧ (s.restTracker).scheduler = s.scheduler
    ∧ (s.restTracker).output = s.output ∧ (s.restTracker).drive = s.drive ∧ (s.restTracker).run = s.run
    ∧ (s.restTracker).log = s.log ∧ (s.restTracker).attention = s.attention ∧ (s.restTracker).pulses = s.pulses
    ∧ (s.restTracker).freeCount = s.freeCount ∧ (s.restTracker).pending = s.pending := by
  simp [State.restTracker]

@[simp] theorem State.askAnchor_keeps (op : RecordOp) :
    (s.askAnchor op).tick = s.tick ∧ (s.askAnchor op).config = s.config ∧ (s.askAnchor op).lines = s.lines
    ∧ (s.askAnchor op).memory = s.memory ∧ (s.askAnchor op).plan = s.plan ∧ (s.askAnchor op).buffers = s.buffers
    ∧ (s.askAnchor op).scheduler = s.scheduler ∧ (s.askAnchor op).tracker = s.tracker
    ∧ (s.askAnchor op).output = s.output ∧ (s.askAnchor op).drive = s.drive ∧ (s.askAnchor op).run = s.run
    ∧ (s.askAnchor op).log = s.log ∧ (s.askAnchor op).attention = s.attention ∧ (s.askAnchor op).pulses = s.pulses
    ∧ (s.askAnchor op).freeCount = s.freeCount ∧ (s.askAnchor op).pending = s.pending := by
  simp [State.askAnchor]

@[simp] theorem State.answerBusy_keeps :
    (s.answerBusy).tick = s.tick ∧ (s.answerBusy).config = s.config ∧ (s.answerBusy).lines = s.lines
    ∧ (s.answerBusy).memory = s.memory ∧ (s.answerBusy).plan = s.plan ∧ (s.answerBusy).buffers = s.buffers
    ∧ (s.answerBusy).scheduler = s.scheduler ∧ (s.answerBusy).tracker = s.tracker ∧ (s.answerBusy).output = s.output
    ∧ (s.answerBusy).drive = s.drive ∧ (s.answerBusy).run = s.run ∧ (s.answerBusy).log = s.log
    ∧ (s.answerBusy).attention = s.attention ∧ (s.answerBusy).pulses = s.pulses
    ∧ (s.answerBusy).freeCount = s.freeCount ∧ (s.answerBusy).pending = s.pending := by
  simp [State.answerBusy]

@[simp] theorem State.deactivate_keeps  :
    (s.deactivate).tick = s.tick ∧ (s.deactivate).lines = s.lines
    ∧ (s.deactivate).memory = s.memory ∧ (s.deactivate).pulses = s.pulses ∧ (s.deactivate).freeCount = s.freeCount
    ∧ (s.deactivate).pending = s.pending := by
  exact ⟨rfl, rfl, rfl, rfl, rfl, rfl⟩

@[simp] theorem State.takeAnchor_keeps (v : ActivateValue) :
    (s.takeAnchor v).tick = s.tick ∧ (s.takeAnchor v).lines = s.lines
    ∧ (s.takeAnchor v).memory = s.memory ∧ (s.takeAnchor v).pulses = s.pulses ∧ (s.takeAnchor v).freeCount = s.freeCount
    ∧ (s.takeAnchor v).pending = s.pending := by
  unfold State.takeAnchor
  repeat' split
  all_goals simp

@[simp] theorem State.takeEvent_keeps (e : PortEvent) :
    (s.takeEvent e).tick = s.tick ∧ (s.takeEvent e).lines = s.lines
    ∧ (s.takeEvent e).memory = s.memory ∧ (s.takeEvent e).pulses = s.pulses ∧ (s.takeEvent e).freeCount = s.freeCount
    ∧ (s.takeEvent e).pending = s.pending := by
  unfold State.takeEvent
  repeat' split
  all_goals simp

@[simp] theorem State.takeEvents_keeps (es : List PortEvent) :
    (s.takeEvents es).tick = s.tick ∧ (s.takeEvents es).lines = s.lines ∧ (s.takeEvents es).memory = s.memory
    ∧ (s.takeEvents es).pulses = s.pulses ∧ (s.takeEvents es).freeCount = s.freeCount
    ∧ (s.takeEvents es).pending = s.pending := by
  induction es generalizing s with
  | nil => simp [State.takeEvents]
  | cons e es ih => simp [State.takeEvents, ih]

@[simp] theorem State.writeResult_keeps (w : Word) :
    (s.writeResult w).tick = s.tick ∧ (s.writeResult w).config = s.config ∧ (s.writeResult w).lines = s.lines
    ∧ (s.writeResult w).plan = s.plan ∧ (s.writeResult w).buffers = s.buffers
    ∧ (s.writeResult w).scheduler = s.scheduler ∧ (s.writeResult w).tracker = s.tracker
    ∧ (s.writeResult w).output = s.output ∧ (s.writeResult w).drive = s.drive ∧ (s.writeResult w).run = s.run
    ∧ (s.writeResult w).log = s.log ∧ (s.writeResult w).attention = s.attention
    ∧ (s.writeResult w).pulses = s.pulses ∧ (s.writeResult w).freeCount = s.freeCount
    ∧ (s.writeResult w).pending = s.pending := by
  simp [State.writeResult]

@[simp] theorem State.readAnchor_keeps (reconfigure : Bool) :
    (s.readAnchor reconfigure).tick = s.tick ∧ (s.readAnchor reconfigure).config = s.config
    ∧ (s.readAnchor reconfigure).lines = s.lines ∧ (s.readAnchor reconfigure).plan = s.plan
    ∧ (s.readAnchor reconfigure).buffers = s.buffers ∧ (s.readAnchor reconfigure).scheduler = s.scheduler
    ∧ (s.readAnchor reconfigure).tracker = s.tracker ∧ (s.readAnchor reconfigure).output = s.output
    ∧ (s.readAnchor reconfigure).drive = s.drive ∧ (s.readAnchor reconfigure).run = s.run
    ∧ (s.readAnchor reconfigure).log = s.log ∧ (s.readAnchor reconfigure).attention = s.attention
    ∧ (s.readAnchor reconfigure).pulses = s.pulses ∧ (s.readAnchor reconfigure).freeCount = s.freeCount
    ∧ (s.readAnchor reconfigure).pending = s.pending := by
  unfold State.readAnchor
  try dsimp only
  repeat' split
  all_goals simp

@[simp] theorem State.finishAnchor_keeps (w : Word) :
    (s.finishAnchor w).tick = s.tick ∧ (s.finishAnchor w).config = s.config ∧ (s.finishAnchor w).lines = s.lines
    ∧ (s.finishAnchor w).plan = s.plan ∧ (s.finishAnchor w).buffers = s.buffers
    ∧ (s.finishAnchor w).scheduler = s.scheduler ∧ (s.finishAnchor w).tracker = s.tracker
    ∧ (s.finishAnchor w).output = s.output ∧ (s.finishAnchor w).drive = s.drive ∧ (s.finishAnchor w).run = s.run
    ∧ (s.finishAnchor w).log = s.log ∧ (s.finishAnchor w).attention = s.attention
    ∧ (s.finishAnchor w).pulses = s.pulses ∧ (s.finishAnchor w).freeCount = s.freeCount
    ∧ (s.finishAnchor w).pending = s.pending := by
  simp [State.finishAnchor]

@[simp] theorem State.abandonCommand_keeps :
    (s.abandonCommand).tick = s.tick ∧ (s.abandonCommand).config = s.config ∧ (s.abandonCommand).lines = s.lines
    ∧ (s.abandonCommand).memory = s.memory ∧ (s.abandonCommand).plan = s.plan
    ∧ (s.abandonCommand).buffers = s.buffers ∧ (s.abandonCommand).scheduler = s.scheduler
    ∧ (s.abandonCommand).tracker = s.tracker ∧ (s.abandonCommand).output = s.output
    ∧ (s.abandonCommand).drive = s.drive ∧ (s.abandonCommand).log = s.log
    ∧ (s.abandonCommand).attention = s.attention ∧ (s.abandonCommand).pulses = s.pulses
    ∧ (s.abandonCommand).freeCount = s.freeCount ∧ (s.abandonCommand).pending = s.pending
    ∧ (s.abandonCommand).junction.rest = s.junction.rest := by
  unfold State.abandonCommand
  try dsimp only
  repeat' split
  all_goals simp

@[simp] theorem State.engineReset_keeps :
    (s.engineReset).tick = s.tick ∧ (s.engineReset).config = s.config ∧ (s.engineReset).lines = s.lines
    ∧ (s.engineReset).memory = s.memory ∧ (s.engineReset).freeCount = s.freeCount
    ∧ (s.engineReset).pending = s.pending
    ∧ (s.engineReset).pulses.filter Pulse.movesSheet = s.pulses.filter Pulse.movesSheet := by
  simp [State.engineReset]

@[simp] theorem State.openCover_keeps :
    (s.openCover).tick = s.tick ∧ (s.openCover).config = s.config ∧ (s.openCover).lines = s.lines
    ∧ (s.openCover).memory = s.memory ∧ (s.openCover).freeCount = s.freeCount ∧ (s.openCover).pending = s.pending
    ∧ (s.openCover).pulses.filter Pulse.movesSheet = s.pulses.filter Pulse.movesSheet
    ∧ (s.openCover).junction.rest = s.junction.rest := by
  unfold State.openCover
  try dsimp only
  repeat' split
  all_goals simp

@[simp] theorem State.setTrayEmpty_keeps (t : Tray) (level : Bool) :
    (s.setTrayEmpty t level).tick = s.tick ∧ (s.setTrayEmpty t level).config = s.config
    ∧ (s.setTrayEmpty t level).memory = s.memory ∧ (s.setTrayEmpty t level).junction = s.junction
    ∧ (s.setTrayEmpty t level).plan = s.plan ∧ (s.setTrayEmpty t level).buffers = s.buffers
    ∧ (s.setTrayEmpty t level).scheduler = s.scheduler ∧ (s.setTrayEmpty t level).tracker = s.tracker
    ∧ (s.setTrayEmpty t level).output = s.output ∧ (s.setTrayEmpty t level).drive = s.drive
    ∧ (s.setTrayEmpty t level).run = s.run ∧ (s.setTrayEmpty t level).log = s.log
    ∧ (s.setTrayEmpty t level).attention = s.attention ∧ (s.setTrayEmpty t level).pulses = s.pulses
    ∧ (s.setTrayEmpty t level).freeCount = s.freeCount ∧ (s.setTrayEmpty t level).pending = s.pending := by
  simp [State.setTrayEmpty]

@[simp] theorem State.refillTray_keeps (t : Tray) :
    (s.refillTray t).tick = s.tick ∧ (s.refillTray t).config = s.config ∧ (s.refillTray t).lines = s.lines
    ∧ (s.refillTray t).memory = s.memory ∧ (s.refillTray t).junction = s.junction
    ∧ (s.refillTray t).buffers = s.buffers ∧ (s.refillTray t).output = s.output ∧ (s.refillTray t).drive = s.drive
    ∧ (s.refillTray t).log = s.log ∧ (s.refillTray t).attention = s.attention ∧ (s.refillTray t).pulses = s.pulses
    ∧ (s.refillTray t).freeCount = s.freeCount ∧ (s.refillTray t).pending = s.pending := by
  simp [State.refillTray]

@[simp] theorem State.stackerEmptied_keeps :
    (s.stackerEmptied).tick = s.tick ∧ (s.stackerEmptied).config = s.config ∧ (s.stackerEmptied).lines = s.lines
    ∧ (s.stackerEmptied).memory = s.memory ∧ (s.stackerEmptied).buffers = s.buffers
    ∧ (s.stackerEmptied).drive = s.drive ∧ (s.stackerEmptied).freeCount = s.freeCount
    ∧ (s.stackerEmptied).pending = s.pending
    ∧ (s.stackerEmptied).pulses.filter Pulse.movesSheet = s.pulses.filter Pulse.movesSheet
    ∧ (s.stackerEmptied).junction.rest = s.junction.rest := by
  unfold State.stackerEmptied
  try dsimp only
  repeat' split
  all_goals simp

@[simp] theorem State.stackerFilled_keeps :
    (s.stackerFilled).tick = s.tick ∧ (s.stackerFilled).config = s.config ∧ (s.stackerFilled).lines = s.lines
    ∧ (s.stackerFilled).memory = s.memory ∧ (s.stackerFilled).junction = s.junction
    ∧ (s.stackerFilled).plan = s.plan ∧ (s.stackerFilled).buffers = s.buffers
    ∧ (s.stackerFilled).scheduler = s.scheduler ∧ (s.stackerFilled).tracker = s.tracker
    ∧ (s.stackerFilled).output = s.output ∧ (s.stackerFilled).drive = s.drive ∧ (s.stackerFilled).log = s.log
    ∧ (s.stackerFilled).attention = s.attention ∧ (s.stackerFilled).pulses = s.pulses
    ∧ (s.stackerFilled).freeCount = s.freeCount ∧ (s.stackerFilled).pending = s.pending := by
  unfold State.stackerFilled
  try dsimp only
  repeat' split
  all_goals simp

@[simp] theorem State.purgeEmptied_keeps :
    (s.purgeEmptied).tick = s.tick ∧ (s.purgeEmptied).config = s.config ∧ (s.purgeEmptied).lines = s.lines
    ∧ (s.purgeEmptied).memory = s.memory ∧ (s.purgeEmptied).buffers = s.buffers ∧ (s.purgeEmptied).drive = s.drive
    ∧ (s.purgeEmptied).freeCount = s.freeCount ∧ (s.purgeEmptied).pending = s.pending
    ∧ (s.purgeEmptied).pulses.filter Pulse.movesSheet = s.pulses.filter Pulse.movesSheet
    ∧ (s.purgeEmptied).junction.rest = s.junction.rest := by
  unfold State.purgeEmptied
  try dsimp only
  repeat' split
  all_goals simp

@[simp] theorem State.closeEncoderWindow_keeps :
    (s.closeEncoderWindow).tick = s.tick ∧ (s.closeEncoderWindow).config = s.config
    ∧ (s.closeEncoderWindow).lines = s.lines ∧ (s.closeEncoderWindow).memory = s.memory
    ∧ (s.closeEncoderWindow).freeCount = s.freeCount ∧ (s.closeEncoderWindow).pending = s.pending
    ∧ (s.closeEncoderWindow).pulses.filter Pulse.movesSheet = s.pulses.filter Pulse.movesSheet
    ∧ (s.closeEncoderWindow).junction.rest = s.junction.rest := by
  simp [State.closeEncoderWindow]

@[simp] theorem State.expirePick_keeps (h : Handle) (due : Tick) :
    (s.expirePick h due).tick = s.tick ∧ (s.expirePick h due).config = s.config
    ∧ (s.expirePick h due).lines = s.lines ∧ (s.expirePick h due).memory = s.memory
    ∧ (s.expirePick h due).drive = s.drive ∧ (s.expirePick h due).freeCount = s.freeCount
    ∧ (s.expirePick h due).pending = s.pending ∧ (s.expirePick h due).junction.rest = s.junction.rest := by
  unfold State.expirePick
  try dsimp only
  repeat' split
  all_goals simp

@[simp] theorem State.expireRelease_keeps (h : Handle) :
    (s.expireRelease h).tick = s.tick ∧ (s.expireRelease h).config = s.config ∧ (s.expireRelease h).lines = s.lines
    ∧ (s.expireRelease h).memory = s.memory ∧ (s.expireRelease h).junction = s.junction
    ∧ (s.expireRelease h).plan = s.plan ∧ (s.expireRelease h).buffers = s.buffers
    ∧ (s.expireRelease h).output = s.output ∧ (s.expireRelease h).drive = s.drive ∧ (s.expireRelease h).run = s.run
    ∧ (s.expireRelease h).log = s.log ∧ (s.expireRelease h).attention = s.attention
    ∧ (s.expireRelease h).freeCount = s.freeCount ∧ (s.expireRelease h).pending = s.pending := by
  unfold State.expireRelease
  try dsimp only
  repeat' split
  all_goals simp

@[simp] theorem State.expireLate_keeps (h : Handle) :
    (s.expireLate h).tick = s.tick ∧ (s.expireLate h).config = s.config ∧ (s.expireLate h).lines = s.lines
    ∧ (s.expireLate h).memory = s.memory ∧ (s.expireLate h).junction = s.junction ∧ (s.expireLate h).plan = s.plan
    ∧ (s.expireLate h).buffers = s.buffers ∧ (s.expireLate h).output = s.output ∧ (s.expireLate h).drive = s.drive
    ∧ (s.expireLate h).run = s.run ∧ (s.expireLate h).log = s.log ∧ (s.expireLate h).attention = s.attention
    ∧ (s.expireLate h).freeCount = s.freeCount ∧ (s.expireLate h).pending = s.pending := by
  unfold State.expireLate
  try dsimp only
  repeat' split
  all_goals simp

@[simp] theorem State.takeGrace_keeps :
    (s.takeGrace).tick = s.tick ∧ (s.takeGrace).config = s.config ∧ (s.takeGrace).lines = s.lines
    ∧ (s.takeGrace).memory = s.memory ∧ (s.takeGrace).plan = s.plan ∧ (s.takeGrace).buffers = s.buffers
    ∧ (s.takeGrace).scheduler = s.scheduler ∧ (s.takeGrace).drive = s.drive ∧ (s.takeGrace).pulses = s.pulses
    ∧ (s.takeGrace).freeCount = s.freeCount ∧ (s.takeGrace).pending = s.pending
    ∧ (s.takeGrace).junction.rest = s.junction.rest := by
  unfold State.takeGrace
  try dsimp only
  repeat' split
  all_goals simp

@[simp] theorem State.writeWord_keeps (a : Nat) (w : Word) :
    (s.writeWord a w).tick = s.tick ∧ (s.writeWord a w).config = s.config ∧ (s.writeWord a w).lines = s.lines
    ∧ (s.writeWord a w).junction = s.junction ∧ (s.writeWord a w).plan = s.plan
    ∧ (s.writeWord a w).buffers = s.buffers ∧ (s.writeWord a w).scheduler = s.scheduler
    ∧ (s.writeWord a w).tracker = s.tracker ∧ (s.writeWord a w).output = s.output
    ∧ (s.writeWord a w).drive = s.drive ∧ (s.writeWord a w).run = s.run ∧ (s.writeWord a w).log = s.log
    ∧ (s.writeWord a w).attention = s.attention ∧ (s.writeWord a w).pulses = s.pulses
    ∧ (s.writeWord a w).freeCount = s.freeCount ∧ (s.writeWord a w).pending = s.pending := by
  simp [State.writeWord]

@[simp] theorem State.completePlanFetch_keeps (c : Configuration) (i : Nat) :
    (s.completePlanFetch c i).tick = s.tick ∧ (s.completePlanFetch c i).config = s.config
    ∧ (s.completePlanFetch c i).lines = s.lines ∧ (s.completePlanFetch c i).memory = s.memory
    ∧ (s.completePlanFetch c i).output = s.output ∧ (s.completePlanFetch c i).drive = s.drive
    ∧ (s.completePlanFetch c i).run = s.run ∧ (s.completePlanFetch c i).log = s.log
    ∧ (s.completePlanFetch c i).attention = s.attention ∧ (s.completePlanFetch c i).pulses = s.pulses
    ∧ (s.completePlanFetch c i).freeCount = s.freeCount ∧ (s.completePlanFetch c i).pending = s.pending := by
  unfold State.completePlanFetch
  try dsimp only
  repeat' split
  all_goals simp

@[simp] theorem State.completePlanWrite_keeps (c : Configuration) (i : Nat) (a : PlanAnswer) :
    (s.completePlanWrite c i a).tick = s.tick ∧ (s.completePlanWrite c i a).config = s.config
    ∧ (s.completePlanWrite c i a).lines = s.lines ∧ (s.completePlanWrite c i a).buffers = s.buffers
    ∧ (s.completePlanWrite c i a).scheduler = s.scheduler ∧ (s.completePlanWrite c i a).tracker = s.tracker
    ∧ (s.completePlanWrite c i a).output = s.output ∧ (s.completePlanWrite c i a).drive = s.drive
    ∧ (s.completePlanWrite c i a).run = s.run ∧ (s.completePlanWrite c i a).log = s.log
    ∧ (s.completePlanWrite c i a).attention = s.attention ∧ (s.completePlanWrite c i a).pulses = s.pulses
    ∧ (s.completePlanWrite c i a).freeCount = s.freeCount ∧ (s.completePlanWrite c i a).pending = s.pending := by
  simp [State.completePlanWrite]

@[simp] theorem State.completeTagFetch_keeps (c : Configuration) (b : BufferNo) :
    (s.completeTagFetch c b).tick = s.tick ∧ (s.completeTagFetch c b).config = s.config
    ∧ (s.completeTagFetch c b).lines = s.lines ∧ (s.completeTagFetch c b).memory = s.memory
    ∧ (s.completeTagFetch c b).plan = s.plan ∧ (s.completeTagFetch c b).scheduler = s.scheduler
    ∧ (s.completeTagFetch c b).tracker = s.tracker ∧ (s.completeTagFetch c b).output = s.output
    ∧ (s.completeTagFetch c b).drive = s.drive ∧ (s.completeTagFetch c b).run = s.run
    ∧ (s.completeTagFetch c b).log = s.log ∧ (s.completeTagFetch c b).pulses = s.pulses
    ∧ (s.completeTagFetch c b).freeCount = s.freeCount ∧ (s.completeTagFetch c b).pending = s.pending := by
  simp [State.completeTagFetch]

@[simp] theorem State.completeTagWrite_keeps (c : Configuration) (b : BufferNo) (a : TagAnswer) :
    (s.completeTagWrite c b a).tick = s.tick ∧ (s.completeTagWrite c b a).config = s.config
    ∧ (s.completeTagWrite c b a).lines = s.lines ∧ (s.completeTagWrite c b a).plan = s.plan
    ∧ (s.completeTagWrite c b a).scheduler = s.scheduler ∧ (s.completeTagWrite c b a).tracker = s.tracker
    ∧ (s.completeTagWrite c b a).output = s.output ∧ (s.completeTagWrite c b a).drive = s.drive
    ∧ (s.completeTagWrite c b a).run = s.run ∧ (s.completeTagWrite c b a).log = s.log
    ∧ (s.completeTagWrite c b a).attention = s.attention ∧ (s.completeTagWrite c b a).pulses = s.pulses
    ∧ (s.completeTagWrite c b a).freeCount = s.freeCount ∧ (s.completeTagWrite c b a).pending = s.pending := by
  unfold State.completeTagWrite
  try dsimp only
  repeat' split
  all_goals simp

@[simp] theorem State.completeFinish_keeps (c : Configuration) (result : Word) :
    (s.completeFinish c result).tick = s.tick ∧ (s.completeFinish c result).config = s.config
    ∧ (s.completeFinish c result).lines = s.lines ∧ (s.completeFinish c result).plan = s.plan
    ∧ (s.completeFinish c result).buffers = s.buffers ∧ (s.completeFinish c result).scheduler = s.scheduler
    ∧ (s.completeFinish c result).tracker = s.tracker ∧ (s.completeFinish c result).output = s.output
    ∧ (s.completeFinish c result).drive = s.drive ∧ (s.completeFinish c result).run = s.run
    ∧ (s.completeFinish c result).log = s.log ∧ (s.completeFinish c result).pulses = s.pulses
    ∧ (s.completeFinish c result).freeCount = s.freeCount ∧ (s.completeFinish c result).pending = s.pending := by
  simp [State.completeFinish]

@[simp] theorem State.completeAbandon_keeps (c : Configuration) :
    (s.completeAbandon c).tick = s.tick ∧ (s.completeAbandon c).config = s.config
    ∧ (s.completeAbandon c).lines = s.lines ∧ (s.completeAbandon c).plan = s.plan
    ∧ (s.completeAbandon c).buffers = s.buffers ∧ (s.completeAbandon c).scheduler = s.scheduler
    ∧ (s.completeAbandon c).tracker = s.tracker ∧ (s.completeAbandon c).output = s.output
    ∧ (s.completeAbandon c).drive = s.drive ∧ (s.completeAbandon c).run = s.run ∧ (s.completeAbandon c).log = s.log
    ∧ (s.completeAbandon c).attention = s.attention ∧ (s.completeAbandon c).pulses = s.pulses
    ∧ (s.completeAbandon c).freeCount = s.freeCount ∧ (s.completeAbandon c).pending = s.pending := by
  simp [State.completeAbandon]

@[simp] theorem State.countWritten_keeps (b : LogBody) :
    (s.countWritten b).tick = s.tick ∧ (s.countWritten b).config = s.config ∧ (s.countWritten b).lines = s.lines
    ∧ (s.countWritten b).memory = s.memory ∧ (s.countWritten b).junction = s.junction
    ∧ (s.countWritten b).plan = s.plan ∧ (s.countWritten b).buffers = s.buffers
    ∧ (s.countWritten b).scheduler = s.scheduler ∧ (s.countWritten b).tracker = s.tracker
    ∧ (s.countWritten b).output = s.output ∧ (s.countWritten b).drive = s.drive ∧ (s.countWritten b).log = s.log
    ∧ (s.countWritten b).attention = s.attention ∧ (s.countWritten b).pulses = s.pulses
    ∧ (s.countWritten b).freeCount = s.freeCount ∧ (s.countWritten b).pending = s.pending := by
  unfold State.countWritten
  try dsimp only
  repeat' split
  all_goals simp

@[simp] theorem State.releaseSlot_keeps (b : LogBody) :
    (s.releaseSlot b).tick = s.tick ∧ (s.releaseSlot b).config = s.config ∧ (s.releaseSlot b).lines = s.lines
    ∧ (s.releaseSlot b).memory = s.memory ∧ (s.releaseSlot b).plan = s.plan ∧ (s.releaseSlot b).buffers = s.buffers
    ∧ (s.releaseSlot b).scheduler = s.scheduler ∧ (s.releaseSlot b).tracker = s.tracker
    ∧ (s.releaseSlot b).output = s.output ∧ (s.releaseSlot b).drive = s.drive ∧ (s.releaseSlot b).run = s.run
    ∧ (s.releaseSlot b).log = s.log ∧ (s.releaseSlot b).attention = s.attention
    ∧ (s.releaseSlot b).pulses = s.pulses ∧ (s.releaseSlot b).freeCount = s.freeCount
    ∧ (s.releaseSlot b).pending = s.pending ∧ (s.releaseSlot b).junction.rest = s.junction.rest := by
  unfold State.releaseSlot
  try dsimp only
  repeat' split
  all_goals simp

@[simp] theorem State.completeLogWrite_keeps (c : Configuration) (index : Word) (r : LogRecord) :
    (s.completeLogWrite c index r).tick = s.tick ∧ (s.completeLogWrite c index r).config = s.config
    ∧ (s.completeLogWrite c index r).lines = s.lines ∧ (s.completeLogWrite c index r).plan = s.plan
    ∧ (s.completeLogWrite c index r).buffers = s.buffers ∧ (s.completeLogWrite c index r).scheduler = s.scheduler
    ∧ (s.completeLogWrite c index r).drive = s.drive ∧ (s.completeLogWrite c index r).freeCount = s.freeCount
    ∧ (s.completeLogWrite c index r).pending = s.pending
    ∧ (s.completeLogWrite c index r).pulses.filter Pulse.movesSheet = s.pulses.filter Pulse.movesSheet := by
  simp [State.completeLogWrite]

@[simp] theorem State.writeAccepted_keeps (c : Configuration) :
    (s.writeAccepted c).tick = s.tick ∧ (s.writeAccepted c).config = s.config ∧ (s.writeAccepted c).lines = s.lines
    ∧ (s.writeAccepted c).junction = s.junction ∧ (s.writeAccepted c).plan = s.plan
    ∧ (s.writeAccepted c).buffers = s.buffers ∧ (s.writeAccepted c).scheduler = s.scheduler
    ∧ (s.writeAccepted c).tracker = s.tracker ∧ (s.writeAccepted c).output = s.output
    ∧ (s.writeAccepted c).drive = s.drive ∧ (s.writeAccepted c).run = s.run ∧ (s.writeAccepted c).log = s.log
    ∧ (s.writeAccepted c).attention = s.attention ∧ (s.writeAccepted c).pulses = s.pulses
    ∧ (s.writeAccepted c).freeCount = s.freeCount ∧ (s.writeAccepted c).pending = s.pending := by
  simp [State.writeAccepted]

@[simp] theorem State.loadCommand_keeps (c : Configuration) (code : Option CommandCode) :
    (s.loadCommand c code).tick = s.tick ∧ (s.loadCommand c code).config = s.config
    ∧ (s.loadCommand c code).lines = s.lines ∧ (s.loadCommand c code).memory = s.memory
    ∧ (s.loadCommand c code).junction = s.junction ∧ (s.loadCommand c code).plan = s.plan
    ∧ (s.loadCommand c code).buffers = s.buffers ∧ (s.loadCommand c code).scheduler = s.scheduler
    ∧ (s.loadCommand c code).tracker = s.tracker ∧ (s.loadCommand c code).output = s.output
    ∧ (s.loadCommand c code).drive = s.drive ∧ (s.loadCommand c code).log = s.log
    ∧ (s.loadCommand c code).attention = s.attention ∧ (s.loadCommand c code).pulses = s.pulses
    ∧ (s.loadCommand c code).freeCount = s.freeCount ∧ (s.loadCommand c code).pending = s.pending := by
  simp [State.loadCommand]

@[simp] theorem State.refuseState_keeps :
    (s.refuseState).tick = s.tick ∧ (s.refuseState).config = s.config ∧ (s.refuseState).lines = s.lines
    ∧ (s.refuseState).memory = s.memory ∧ (s.refuseState).plan = s.plan ∧ (s.refuseState).buffers = s.buffers
    ∧ (s.refuseState).scheduler = s.scheduler ∧ (s.refuseState).tracker = s.tracker
    ∧ (s.refuseState).output = s.output ∧ (s.refuseState).drive = s.drive ∧ (s.refuseState).log = s.log
    ∧ (s.refuseState).attention = s.attention ∧ (s.refuseState).pulses = s.pulses
    ∧ (s.refuseState).freeCount = s.freeCount ∧ (s.refuseState).pending = s.pending
    ∧ (s.refuseState).junction.rest = s.junction.rest := by
  simp [State.refuseState]

@[simp] theorem State.refuseOperand_keeps :
    (s.refuseOperand).tick = s.tick ∧ (s.refuseOperand).config = s.config ∧ (s.refuseOperand).lines = s.lines
    ∧ (s.refuseOperand).memory = s.memory ∧ (s.refuseOperand).plan = s.plan ∧ (s.refuseOperand).buffers = s.buffers
    ∧ (s.refuseOperand).scheduler = s.scheduler ∧ (s.refuseOperand).tracker = s.tracker
    ∧ (s.refuseOperand).output = s.output ∧ (s.refuseOperand).drive = s.drive ∧ (s.refuseOperand).log = s.log
    ∧ (s.refuseOperand).attention = s.attention ∧ (s.refuseOperand).pulses = s.pulses
    ∧ (s.refuseOperand).freeCount = s.freeCount ∧ (s.refuseOperand).pending = s.pending
    ∧ (s.refuseOperand).junction.rest = s.junction.rest := by
  simp [State.refuseOperand]

@[simp] theorem State.redundant_keeps :
    (s.redundant).tick = s.tick ∧ (s.redundant).config = s.config ∧ (s.redundant).lines = s.lines
    ∧ (s.redundant).memory = s.memory ∧ (s.redundant).plan = s.plan ∧ (s.redundant).buffers = s.buffers
    ∧ (s.redundant).scheduler = s.scheduler ∧ (s.redundant).tracker = s.tracker ∧ (s.redundant).output = s.output
    ∧ (s.redundant).drive = s.drive ∧ (s.redundant).log = s.log ∧ (s.redundant).attention = s.attention
    ∧ (s.redundant).pulses = s.pulses ∧ (s.redundant).freeCount = s.freeCount ∧ (s.redundant).pending = s.pending
    ∧ (s.redundant).junction.rest = s.junction.rest := by
  simp [State.redundant]

@[simp] theorem State.succeed_keeps :
    (s.succeed).tick = s.tick ∧ (s.succeed).config = s.config ∧ (s.succeed).lines = s.lines
    ∧ (s.succeed).memory = s.memory ∧ (s.succeed).plan = s.plan ∧ (s.succeed).buffers = s.buffers
    ∧ (s.succeed).scheduler = s.scheduler ∧ (s.succeed).tracker = s.tracker ∧ (s.succeed).output = s.output
    ∧ (s.succeed).drive = s.drive ∧ (s.succeed).log = s.log ∧ (s.succeed).attention = s.attention
    ∧ (s.succeed).pulses = s.pulses ∧ (s.succeed).freeCount = s.freeCount ∧ (s.succeed).pending = s.pending
    ∧ (s.succeed).junction.rest = s.junction.rest := by
  simp [State.succeed]

@[simp] theorem State.beginStart_keeps (c : SpeedCode) :
    (s.beginStart c).tick = s.tick ∧ (s.beginStart c).config = s.config ∧ (s.beginStart c).lines = s.lines
    ∧ (s.beginStart c).memory = s.memory ∧ (s.beginStart c).junction = s.junction ∧ (s.beginStart c).plan = s.plan
    ∧ (s.beginStart c).buffers = s.buffers ∧ (s.beginStart c).scheduler = s.scheduler
    ∧ (s.beginStart c).tracker = s.tracker ∧ (s.beginStart c).output = s.output ∧ (s.beginStart c).log = s.log
    ∧ (s.beginStart c).attention = s.attention ∧ (s.beginStart c).pulses = s.pulses
    ∧ (s.beginStart c).freeCount = s.freeCount ∧ (s.beginStart c).pending = s.pending := by
  simp [State.beginStart]

@[simp] theorem State.runStart_keeps (operand : Word) :
    (State.runStart operand s).tick = s.tick ∧ (State.runStart operand s).config = s.config
    ∧ (State.runStart operand s).lines = s.lines ∧ (State.runStart operand s).memory = s.memory
    ∧ (State.runStart operand s).plan = s.plan ∧ (State.runStart operand s).buffers = s.buffers
    ∧ (State.runStart operand s).scheduler = s.scheduler ∧ (State.runStart operand s).tracker = s.tracker
    ∧ (State.runStart operand s).output = s.output ∧ (State.runStart operand s).log = s.log
    ∧ (State.runStart operand s).attention = s.attention ∧ (State.runStart operand s).pulses = s.pulses
    ∧ (State.runStart operand s).freeCount = s.freeCount ∧ (State.runStart operand s).pending = s.pending
    ∧ (State.runStart operand s).junction.rest = s.junction.rest := by
  unfold State.runStart
  try dsimp only
  repeat' split
  all_goals simp

@[simp] theorem State.runStop_keeps (w1 : Word) :
    (State.runStop w1 s).tick = s.tick ∧ (State.runStop w1 s).config = s.config
    ∧ (State.runStop w1 s).lines = s.lines ∧ (State.runStop w1 s).memory = s.memory
    ∧ (State.runStop w1 s).freeCount = s.freeCount ∧ (State.runStop w1 s).pending = s.pending
    ∧ (State.runStop w1 s).pulses.filter Pulse.movesSheet = s.pulses.filter Pulse.movesSheet
    ∧ (State.runStop w1 s).junction.rest = s.junction.rest := by
  unfold State.runStop
  try dsimp only
  repeat' split
  all_goals simp

@[simp] theorem State.runHalt_keeps (w1 : Word) :
    (State.runHalt w1 s).tick = s.tick ∧ (State.runHalt w1 s).config = s.config
    ∧ (State.runHalt w1 s).lines = s.lines ∧ (State.runHalt w1 s).memory = s.memory
    ∧ (State.runHalt w1 s).freeCount = s.freeCount ∧ (State.runHalt w1 s).pending = s.pending
    ∧ (State.runHalt w1 s).pulses.filter Pulse.movesSheet = s.pulses.filter Pulse.movesSheet
    ∧ (State.runHalt w1 s).junction.rest = s.junction.rest := by
  unfold State.runHalt
  try dsimp only
  repeat' split
  all_goals simp

@[simp] theorem State.runPauseFeed_keeps (w1 : Word) :
    (State.runPauseFeed w1 s).tick = s.tick ∧ (State.runPauseFeed w1 s).config = s.config
    ∧ (State.runPauseFeed w1 s).lines = s.lines ∧ (State.runPauseFeed w1 s).memory = s.memory
    ∧ (State.runPauseFeed w1 s).plan = s.plan ∧ (State.runPauseFeed w1 s).buffers = s.buffers
    ∧ (State.runPauseFeed w1 s).scheduler = s.scheduler ∧ (State.runPauseFeed w1 s).tracker = s.tracker
    ∧ (State.runPauseFeed w1 s).output = s.output ∧ (State.runPauseFeed w1 s).drive = s.drive
    ∧ (State.runPauseFeed w1 s).log = s.log ∧ (State.runPauseFeed w1 s).attention = s.attention
    ∧ (State.runPauseFeed w1 s).pulses = s.pulses ∧ (State.runPauseFeed w1 s).freeCount = s.freeCount
    ∧ (State.runPauseFeed w1 s).pending = s.pending ∧ (State.runPauseFeed w1 s).junction.rest = s.junction.rest := by
  unfold State.runPauseFeed
  try dsimp only
  repeat' split
  all_goals simp

@[simp] theorem State.runResumeFeed_keeps (w1 : Word) :
    (State.runResumeFeed w1 s).tick = s.tick ∧ (State.runResumeFeed w1 s).config = s.config
    ∧ (State.runResumeFeed w1 s).lines = s.lines ∧ (State.runResumeFeed w1 s).memory = s.memory
    ∧ (State.runResumeFeed w1 s).buffers = s.buffers ∧ (State.runResumeFeed w1 s).output = s.output
    ∧ (State.runResumeFeed w1 s).drive = s.drive ∧ (State.runResumeFeed w1 s).log = s.log
    ∧ (State.runResumeFeed w1 s).attention = s.attention ∧ (State.runResumeFeed w1 s).pulses = s.pulses
    ∧ (State.runResumeFeed w1 s).freeCount = s.freeCount ∧ (State.runResumeFeed w1 s).pending = s.pending
    ∧ (State.runResumeFeed w1 s).junction.rest = s.junction.rest := by
  unfold State.runResumeFeed
  try dsimp only
  repeat' split
  all_goals simp

@[simp] theorem State.runChangeSpeed_keeps (operand : Word) :
    (State.runChangeSpeed operand s).tick = s.tick ∧ (State.runChangeSpeed operand s).config = s.config
    ∧ (State.runChangeSpeed operand s).lines = s.lines ∧ (State.runChangeSpeed operand s).memory = s.memory
    ∧ (State.runChangeSpeed operand s).freeCount = s.freeCount
    ∧ (State.runChangeSpeed operand s).pending = s.pending
    ∧ (State.runChangeSpeed operand s).pulses.filter Pulse.movesSheet = s.pulses.filter Pulse.movesSheet
    ∧ (State.runChangeSpeed operand s).junction.rest = s.junction.rest := by
  unfold State.runChangeSpeed
  try dsimp only
  repeat' split
  all_goals simp

@[simp] theorem State.resumeRun_keeps :
    (s.resumeRun).tick = s.tick ∧ (s.resumeRun).config = s.config ∧ (s.resumeRun).lines = s.lines
    ∧ (s.resumeRun).memory = s.memory ∧ (s.resumeRun).buffers = s.buffers ∧ (s.resumeRun).drive = s.drive
    ∧ (s.resumeRun).freeCount = s.freeCount ∧ (s.resumeRun).pending = s.pending
    ∧ (s.resumeRun).pulses.filter Pulse.movesSheet = s.pulses.filter Pulse.movesSheet
    ∧ (s.resumeRun).junction.rest = s.junction.rest := by
  simp [State.resumeRun]

@[simp] theorem State.commandBack_keeps :
    (s.commandBack).tick = s.tick ∧ (s.commandBack).config = s.config ∧ (s.commandBack).lines = s.lines
    ∧ (s.commandBack).memory = s.memory ∧ (s.commandBack).junction = s.junction ∧ (s.commandBack).plan = s.plan
    ∧ (s.commandBack).buffers = s.buffers ∧ (s.commandBack).scheduler = s.scheduler
    ∧ (s.commandBack).tracker = s.tracker ∧ (s.commandBack).output = s.output ∧ (s.commandBack).log = s.log
    ∧ (s.commandBack).attention = s.attention ∧ (s.commandBack).pulses = s.pulses
    ∧ (s.commandBack).freeCount = s.freeCount ∧ (s.commandBack).pending = s.pending := by
  simp [State.commandBack]

@[simp] theorem State.runCancelSpeedChange_keeps (w1 : Word) :
    (State.runCancelSpeedChange w1 s).tick = s.tick ∧ (State.runCancelSpeedChange w1 s).config = s.config
    ∧ (State.runCancelSpeedChange w1 s).lines = s.lines ∧ (State.runCancelSpeedChange w1 s).memory = s.memory
    ∧ (State.runCancelSpeedChange w1 s).buffers = s.buffers
    ∧ (State.runCancelSpeedChange w1 s).freeCount = s.freeCount
    ∧ (State.runCancelSpeedChange w1 s).pending = s.pending
    ∧ (State.runCancelSpeedChange w1 s).pulses.filter Pulse.movesSheet = s.pulses.filter Pulse.movesSheet
    ∧ (State.runCancelSpeedChange w1 s).junction.rest = s.junction.rest := by
  unfold State.runCancelSpeedChange
  try dsimp only
  repeat' split
  all_goals simp

@[simp] theorem State.runClear_keeps (w1 : Word) :
    (State.runClear w1 s).tick = s.tick ∧ (State.runClear w1 s).config = s.config
    ∧ (State.runClear w1 s).lines = s.lines ∧ (State.runClear w1 s).memory = s.memory
    ∧ (State.runClear w1 s).drive = s.drive ∧ (State.runClear w1 s).freeCount = s.freeCount
    ∧ (State.runClear w1 s).pending = s.pending
    ∧ (State.runClear w1 s).pulses.filter Pulse.movesSheet = s.pulses.filter Pulse.movesSheet
    ∧ (State.runClear w1 s).junction.rest = s.junction.rest := by
  unfold State.runClear
  try dsimp only
  repeat' split
  all_goals simp

@[simp] theorem State.runWithdraw_keeps (operand : Word) :
    (State.runWithdraw operand s).tick = s.tick ∧ (State.runWithdraw operand s).config = s.config
    ∧ (State.runWithdraw operand s).lines = s.lines ∧ (State.runWithdraw operand s).memory = s.memory
    ∧ (State.runWithdraw operand s).scheduler = s.scheduler ∧ (State.runWithdraw operand s).drive = s.drive
    ∧ (State.runWithdraw operand s).freeCount = s.freeCount ∧ (State.runWithdraw operand s).pending = s.pending
    ∧ (State.runWithdraw operand s).pulses.filter Pulse.movesSheet = s.pulses.filter Pulse.movesSheet
    ∧ (State.runWithdraw operand s).junction.rest = s.junction.rest := by
  unfold State.runWithdraw
  try dsimp only
  repeat' split
  all_goals simp

@[simp] theorem State.runReleaseBuffer_keeps (operand : Word) :
    (State.runReleaseBuffer operand s).tick = s.tick ∧ (State.runReleaseBuffer operand s).config = s.config
    ∧ (State.runReleaseBuffer operand s).lines = s.lines ∧ (State.runReleaseBuffer operand s).memory = s.memory
    ∧ (State.runReleaseBuffer operand s).plan = s.plan ∧ (State.runReleaseBuffer operand s).scheduler = s.scheduler
    ∧ (State.runReleaseBuffer operand s).tracker = s.tracker ∧ (State.runReleaseBuffer operand s).output = s.output
    ∧ (State.runReleaseBuffer operand s).drive = s.drive ∧ (State.runReleaseBuffer operand s).log = s.log
    ∧ (State.runReleaseBuffer operand s).pulses = s.pulses
    ∧ (State.runReleaseBuffer operand s).freeCount = s.freeCount
    ∧ (State.runReleaseBuffer operand s).pending = s.pending
    ∧ (State.runReleaseBuffer operand s).junction.rest = s.junction.rest := by
  unfold State.runReleaseBuffer
  try dsimp only
  repeat' split
  all_goals simp

@[simp] theorem State.runReclaimBuffer_keeps (operand : Word) :
    (State.runReclaimBuffer operand s).tick = s.tick ∧ (State.runReclaimBuffer operand s).config = s.config
    ∧ (State.runReclaimBuffer operand s).lines = s.lines ∧ (State.runReclaimBuffer operand s).memory = s.memory
    ∧ (State.runReclaimBuffer operand s).plan = s.plan ∧ (State.runReclaimBuffer operand s).scheduler = s.scheduler
    ∧ (State.runReclaimBuffer operand s).tracker = s.tracker ∧ (State.runReclaimBuffer operand s).output = s.output
    ∧ (State.runReclaimBuffer operand s).drive = s.drive ∧ (State.runReclaimBuffer operand s).log = s.log
    ∧ (State.runReclaimBuffer operand s).pulses = s.pulses
    ∧ (State.runReclaimBuffer operand s).freeCount = s.freeCount
    ∧ (State.runReclaimBuffer operand s).pending = s.pending
    ∧ (State.runReclaimBuffer operand s).junction.rest = s.junction.rest := by
  unfold State.runReclaimBuffer
  try dsimp only
  repeat' split
  all_goals simp

@[simp] theorem State.setGuard_keeps (on : Bool) :
    (s.setGuard on).tick = s.tick ∧ (s.setGuard on).config = s.config ∧ (s.setGuard on).lines = s.lines
    ∧ (s.setGuard on).memory = s.memory ∧ (s.setGuard on).plan = s.plan ∧ (s.setGuard on).buffers = s.buffers
    ∧ (s.setGuard on).scheduler = s.scheduler ∧ (s.setGuard on).tracker = s.tracker
    ∧ (s.setGuard on).output = s.output ∧ (s.setGuard on).drive = s.drive ∧ (s.setGuard on).run = s.run
    ∧ (s.setGuard on).log = s.log ∧ (s.setGuard on).attention = s.attention ∧ (s.setGuard on).pulses = s.pulses
    ∧ (s.setGuard on).freeCount = s.freeCount ∧ (s.setGuard on).pending = s.pending := by
  simp [State.setGuard]

@[simp] theorem State.runGuardOn_keeps (w1 : Word) :
    (State.runGuardOn w1 s).tick = s.tick ∧ (State.runGuardOn w1 s).config = s.config
    ∧ (State.runGuardOn w1 s).lines = s.lines ∧ (State.runGuardOn w1 s).memory = s.memory
    ∧ (State.runGuardOn w1 s).plan = s.plan ∧ (State.runGuardOn w1 s).buffers = s.buffers
    ∧ (State.runGuardOn w1 s).scheduler = s.scheduler ∧ (State.runGuardOn w1 s).tracker = s.tracker
    ∧ (State.runGuardOn w1 s).output = s.output ∧ (State.runGuardOn w1 s).drive = s.drive
    ∧ (State.runGuardOn w1 s).log = s.log ∧ (State.runGuardOn w1 s).attention = s.attention
    ∧ (State.runGuardOn w1 s).pulses = s.pulses ∧ (State.runGuardOn w1 s).freeCount = s.freeCount
    ∧ (State.runGuardOn w1 s).pending = s.pending := by
  unfold State.runGuardOn
  try dsimp only
  repeat' split
  all_goals simp

@[simp] theorem State.runGuardOff_keeps (w1 : Word) :
    (State.runGuardOff w1 s).tick = s.tick ∧ (State.runGuardOff w1 s).config = s.config
    ∧ (State.runGuardOff w1 s).lines = s.lines ∧ (State.runGuardOff w1 s).memory = s.memory
    ∧ (State.runGuardOff w1 s).plan = s.plan ∧ (State.runGuardOff w1 s).buffers = s.buffers
    ∧ (State.runGuardOff w1 s).scheduler = s.scheduler ∧ (State.runGuardOff w1 s).tracker = s.tracker
    ∧ (State.runGuardOff w1 s).output = s.output ∧ (State.runGuardOff w1 s).drive = s.drive
    ∧ (State.runGuardOff w1 s).log = s.log ∧ (State.runGuardOff w1 s).attention = s.attention
    ∧ (State.runGuardOff w1 s).pulses = s.pulses ∧ (State.runGuardOff w1 s).freeCount = s.freeCount
    ∧ (State.runGuardOff w1 s).pending = s.pending := by
  unfold State.runGuardOff
  try dsimp only
  repeat' split
  all_goals simp

@[simp] theorem State.runSelectStacker_keeps (operand : Word) :
    (State.runSelectStacker operand s).tick = s.tick ∧ (State.runSelectStacker operand s).config = s.config
    ∧ (State.runSelectStacker operand s).lines = s.lines ∧ (State.runSelectStacker operand s).memory = s.memory
    ∧ (State.runSelectStacker operand s).plan = s.plan ∧ (State.runSelectStacker operand s).buffers = s.buffers
    ∧ (State.runSelectStacker operand s).scheduler = s.scheduler
    ∧ (State.runSelectStacker operand s).tracker = s.tracker ∧ (State.runSelectStacker operand s).drive = s.drive
    ∧ (State.runSelectStacker operand s).log = s.log ∧ (State.runSelectStacker operand s).attention = s.attention
    ∧ (State.runSelectStacker operand s).pulses = s.pulses
    ∧ (State.runSelectStacker operand s).freeCount = s.freeCount
    ∧ (State.runSelectStacker operand s).pending = s.pending
    ∧ (State.runSelectStacker operand s).junction.rest = s.junction.rest := by
  unfold State.runSelectStacker
  try dsimp only
  repeat' split
  all_goals simp

end Sys2Proof.Machine
end

