-- ==== Sys2Proof/Laws/Kept.lean ====
section
/-! SUPPORT. What the shared operations keep of the conditions of Safety: the form of the buffer table, the drive table,
the attention lines and the activation state, and the operations already asked of the record agent. -/

namespace Sys2Proof.Machine

/-- What an operation carried out within one event keeps from the state `a` to the state `s`. -/
structure Keeps (a s : State) : Prop where
  queue : a.junction.agentQueue <+: s.junction.agentQueue
  attention : a.attention.Sound → s.attention.Sound
  drive : a.drive.Sound → s.drive.Sound
  buffers : a.buffers.Sound → s.buffers.Sound
  inactive : s.run.state = .inactive ↔ a.run.state = .inactive
  atRest : a.run.state = .idle ∨ a.run.state = .clearing → s.run.state = .idle ∨ s.run.state = .clearing
  command : a.run.CommandSound → s.run.CommandSound

theorem Keeps.refl (a : State) : Keeps a a :=
  ⟨List.prefix_refl _, id, id, id, Iff.rfl, id, id⟩

theorem Keeps.trans {a b c : State} (h : Keeps a b) (k : Keeps b c) : Keeps a c :=
  ⟨h.queue.trans k.queue, k.attention ∘ h.attention, k.drive ∘ h.drive, k.buffers ∘ h.buffers,
    k.inactive.trans h.inactive, k.atRest ∘ h.atRest, k.command ∘ h.command⟩

theorem Keeps.same {a s t : State} (h : Keeps a s) (hj : t.junction = s.junction) (ha : t.attention = s.attention)
    (hd : t.drive = s.drive) (hb : t.buffers = s.buffers) (hr : t.run = s.run) : Keeps a t := by
  obtain ⟨h1, h2, h3, h4, h5, h6, h7⟩ := h
  exact ⟨hj ▸ h1, ha ▸ h2, hd ▸ h3, hb ▸ h4, hr ▸ h5, hr ▸ h6, hr ▸ h7⟩

theorem Keeps.commandTo {a s : State} (h : Keeps a s) {r : RunControl} (hc : r.command = s.run.command)
    (hk : r.running.isSome = s.run.running.isSome) (e : a.run.CommandSound) : r.CommandSound := by
  unfold RunControl.CommandSound
  rw [hc, hk]
  exact h.command e

/-- A change of the run controller that leaves the run state and whether a command is being run. -/
theorem Keeps.runSame {a s : State} (h : Keeps a s) (r : RunControl) (hr : r.state = s.run.state)
    (hc : r.command = s.run.command := by rfl)
    (hk : r.running.isSome = s.run.running.isSome := by rfl) :
    Keeps a (s.setRun r) :=
  ⟨h.queue, h.attention, h.drive, h.buffers, by simpa [hr] using h.inactive, by simpa [hr] using h.atRest,
    fun e => h.commandTo hc hk e⟩

/-- A change of the run controller to another run state from one that is neither INACTIVE, IDLE nor CLEARING. -/
theorem Keeps.runFrom {a s : State} (h : Keeps a s) (r : RunControl) (hr : r.state ≠ .inactive)
    (h1 : s.run.state ≠ .inactive) (h2 : s.run.state ≠ .idle) (h3 : s.run.state ≠ .clearing)
    (hc : r.command = s.run.command := by rfl)
    (hk : r.running.isSome = s.run.running.isSome := by rfl) :
    Keeps a (s.setRun r) :=
  ⟨h.queue, h.attention, h.drive, h.buffers,
    ⟨fun e => absurd e hr, fun e => absurd (h.inactive.2 e) h1⟩,
    fun e => by rcases h.atRest e with e | e <;> contradiction, fun e => h.commandTo hc hk e⟩

/-- A change of the run controller to IDLE or CLEARING from any state but INACTIVE. -/
theorem Keeps.runToRest {a s : State} (h : Keeps a s) (r : RunControl) (hr : r.state = .idle ∨ r.state = .clearing)
    (h1 : s.run.state ≠ .inactive) (hc : r.command = s.run.command := by rfl)
    (hk : r.running.isSome = s.run.running.isSome := by rfl) :
    Keeps a (s.setRun r) :=
  ⟨h.queue, h.attention, h.drive, h.buffers,
    ⟨fun e => by simp_all, fun e => absurd (h.inactive.2 e) h1⟩, fun _ => hr, fun e => h.commandTo hc hk e⟩

section setters

variable {a s : State} (h : Keeps a s)
include h

theorem State.setTick_kept (x : Tick) : Keeps a (s.setTick x) := h.same rfl rfl rfl rfl rfl
theorem State.setConfig_kept (x : Option Configuration) : Keeps a (s.setConfig x) := h.same rfl rfl rfl rfl rfl
theorem State.setLines_kept (x : Lines) : Keeps a (s.setLines x) := h.same rfl rfl rfl rfl rfl
theorem State.setMemory_kept (x : List Host.Cell) : Keeps a (s.setMemory x) := h.same rfl rfl rfl rfl rfl
theorem State.setPlan_kept (x : PlanIntake) : Keeps a (s.setPlan x) := h.same rfl rfl rfl rfl rfl
theorem State.setScheduler_kept (x : Scheduler) : Keeps a (s.setScheduler x) := h.same rfl rfl rfl rfl rfl
theorem State.setTracker_kept (x : Tracker) : Keeps a (s.setTracker x) := h.same rfl rfl rfl rfl rfl
theorem State.setOutput_kept (x : OutputUnit) : Keeps a (s.setOutput x) := h.same rfl rfl rfl rfl rfl
theorem State.setLog_kept (x : LogWriter) : Keeps a (s.setLog x) := h.same rfl rfl rfl rfl rfl
theorem State.setPulses_kept (x : List Pulse) : Keeps a (s.setPulses x) := h.same rfl rfl rfl rfl rfl

end setters

/-! ## Attention and the agent's queue -/

theorem ESummary.add_ne (e : ESummary) (c : ECondition) : (e.add c != ESummary.empty) = true := by
  cases c <;> simp [ESummary.add, ESummary.empty]

theorem PSummary.add_ne (e : PSummary) (c : PCondition) : (e.add c != PSummary.empty) = true := by
  cases c <;> simp [PSummary.add, PSummary.empty]

theorem Keeps.attentionTo {a s : State} (h : Keeps a s) (x : Attention)
    (hx : s.attention.Sound → x.Sound) : Keeps a (s.setAttention x) :=
  ⟨h.queue, fun e => hx (h.attention e), h.drive, h.buffers, h.inactive, h.atRest, h.command⟩

theorem State.raiseE_kept {a s : State} (c : ECondition) (h : Keeps a s) : Keeps a (s.raiseE c) :=
  h.attentionTo _ fun e => ⟨(ESummary.add_ne _ _).symm, e.2⟩

theorem State.raiseP_kept {a s : State} (c : PCondition) (h : Keeps a s) : Keeps a (s.raiseP c) :=
  h.attentionTo _ fun e => ⟨e.1, (PSummary.add_ne _ _).symm⟩

theorem State.clearE_kept {a s : State} (h : Keeps a s) : Keeps a s.clearE :=
  h.attentionTo _ fun e => ⟨by simp, e.2⟩

theorem State.clearP_kept {a s : State} (h : Keeps a s) : Keeps a s.clearP :=
  h.attentionTo _ fun e => ⟨e.1, by simp⟩

theorem State.ask_kept {a s : State} (op : RecordOp) (h : Keeps a s) : Keeps a (s.ask op) :=
  ⟨h.queue.trans (List.prefix_append _ _), h.attention, h.drive, h.buffers, h.inactive, h.atRest, h.command⟩

/-- A change of the junction that leaves the agent's queue. -/
theorem Keeps.junctionTo {a s : State} (h : Keeps a s) (j : Junction)
    (hj : j.agentQueue = s.junction.agentQueue) : Keeps a (s.setJunction j) :=
  ⟨by simpa [hj] using h.queue, h.attention, h.drive, h.buffers, h.inactive, h.atRest, h.command⟩

/-! ## Buffers -/

theorem put_get {α : Type} {n : Nat} (v : Vector α n) (i j : Fin n) (x : α) :
    (put v i x)[j] = if i = j then x else v[j] := by
  simp only [put, Fin.getElem_fin, Vector.getElem_set, Fin.ext_iff]

theorem Keeps.bufferTo {a s : State} (h : Keeps a s) (b : BufferNo) (x : Buffer)
    (hx : (s.buffer b).Sound → x.Sound) : Keeps a (s.putBuffer b x) :=
  ⟨h.queue, h.attention, h.drive, fun e c => by
    show (put s.buffers.table b x)[c].Sound
    rw [put_get]
    split
    · exact hx (h.buffers e b)
    · exact h.buffers e c, h.inactive, h.atRest, h.command⟩

theorem State.setClaimWaiting_kept {a s : State} (w : Bool) (h : Keeps a s) : Keeps a (s.setClaimWaiting w) :=
  ⟨h.queue, h.attention, h.drive, h.buffers, h.inactive, h.atRest, h.command⟩

theorem State.bufferAvailable_kept {a s : State} (h : Keeps a s) : Keeps a s.bufferAvailable := by
  unfold State.bufferAvailable
  split
  · exact State.raiseP_kept _ (State.setClaimWaiting_kept _ h)
  · exact h

theorem State.freeBuffer_kept {a s : State} (b : BufferNo) (h : Keeps a s) : Keeps a (s.freeBuffer b) :=
  State.bufferAvailable_kept (h.bufferTo b _ fun _ => rfl)

theorem State.claimBuffer_kept {a s : State} (h : Keeps a s) : Keeps a s.claimBuffer.2 := by
  unfold State.claimBuffer
  split
  · exact State.setClaimWaiting_kept _ h
  · split
    · exact State.setClaimWaiting_kept _ h
    · exact State.setClaimWaiting_kept _ (h.bufferTo _ _ fun _ => rfl)

theorem State.dropReference_kept {a s : State} (delivered : Bool) (y : Option BufferNo) (h : Keeps a s) :
    Keeps a (s.dropReference delivered y) := by
  unfold State.dropReference
  dsimp only
  split
  · exact h
  · split
    · next hs =>
      repeat' split
      · exact State.freeBuffer_kept _ h
      all_goals
        refine h.bufferTo _ _ fun e => ?_
        simp only [Buffer.Sound, hs] at e ⊢
        exact ⟨e.1, by omega⟩
    · exact h

theorem State.takeTagCommit_kept {a s : State} (b : BufferNo) (h : Keeps a s) : Keeps a (s.takeTagCommit b) := by
  unfold State.takeTagCommit
  split
  · next hs =>
    refine State.ask_kept _ (h.bufferTo _ _ fun e => ?_)
    simp only [Buffer.Sound, hs] at e ⊢
    rw [e]
  · dsimp only
    repeat' split
    all_goals first | exact h | exact State.ask_kept _ h

theorem State.judgeTag_kept {a s : State} (b : BufferNo) (r : TagRecord) (h : Keeps a s) :
    Keeps a (s.judgeTag b r) := by
  unfold State.judgeTag
  split
  · next t ht =>
    have hsound : Buffer.Sound ⟨.held, some t, 0, r.persistent, false⟩ := by
      refine ⟨⟨t, rfl, ?_⟩, by simp⟩
      unfold TagRecord.tag at ht
      repeat' split at ht
      all_goals first | (simp only [Option.some.injEq] at ht; subst ht; simp_all) | simp at ht
    unfold State.acceptTag
    dsimp only
    split
    · exact State.ask_kept _ (State.bufferAvailable_kept (h.bufferTo _ _ fun _ => hsound))
    · exact State.ask_kept _ (h.bufferTo _ _ fun _ => hsound)
  · exact State.ask_kept _ h

theorem State.reopenBuffer_kept {a s : State} (b : BufferNo) (h : Keeps a s) : Keeps a (s.reopenBuffer b) := by
  unfold State.reopenBuffer
  split
  · next hs =>
    refine h.bufferTo _ _ fun e => ?_
    simp only [Buffer.Sound, hs] at e ⊢
    rw [e]
  · exact h

/-! ## The drive -/

theorem Keeps.driveTo {a s : State} (h : Keeps a s) (d : Drive) (hd : s.drive.Sound → d.Sound) :
    Keeps a (s.setDrive d) :=
  ⟨h.queue, h.attention, fun e => hd (h.drive e), h.buffers, h.inactive, h.atRest, h.command⟩

theorem Drive.coast_sound {d : Drive} (t : Tick) (h : d.Sound) : (d.coast t).Sound := by
  unfold Drive.coast
  split
  · exact h
  · exact h
  all_goals simp [Drive.Sound, Drive.openWindow, Drive.clearRuns, DriveState.powered, DriveState.seeking]

theorem Drive.spinUp_sound (d : Drive) (t : Tick) (c : SpeedCode) (n : Nat) : (d.spinUp t c n).Sound := by
  simp [Drive.Sound, Drive.spinUp, Drive.openWindow, Drive.clearRuns, DriveState.powered, DriveState.seeking]

theorem Drive.relockTo_sound (d : Drive) (t : Tick) (c : SpeedCode) (n : Nat) : (d.relockTo t c n).Sound := by
  simp [Drive.Sound, Drive.relockTo, Drive.openWindow, Drive.clearRuns, DriveState.powered, DriveState.seeking]

theorem Drive.pulse_sound {d : Drive} (h : d.Sound) : d.pulse.Sound := by
  unfold Drive.pulse
  split
  · next hw =>
    obtain ⟨h1, h2, h3, h4, h5, h6⟩ := h
    exact ⟨h1, h2, h3, h4, fun e => by simp_all, h6⟩
  · exact h

theorem Drive.closeWindow_sound {d : Drive} (t : Tick) (f g : Nat → Bool) (h : d.Sound) :
    (d.closeWindow t f g).1.Sound := by
  obtain ⟨h1, h2, h3, h4, h5, h6, h7, h8⟩ := h
  unfold Drive.closeWindow
  dsimp only
  split <;> simp_all only [Drive.judgeLock, Drive.judgeRun, Drive.judgeCoast]
  all_goals repeat' split
  all_goals simp_all [Drive.Sound, Drive.openWindow, Drive.clearRuns, Drive.lock, DriveState.powered,
    DriveState.seeking]
  all_goals omega

theorem State.coast_kept {a s : State} (h : Keeps a s) : Keeps a s.coast :=
  h.driveTo _ (Drive.coast_sound _)

/-! ## Operations that leave the run state -/

@[simp] theorem State.finish_state (s : State) (r : ResultCode) (n : Nat) :
    (s.finish r n).run.state = s.run.state := by
  unfold State.finish
  split <;> simp

@[simp] theorem State.finishIf_state (s : State) (c : CommandCode) (r : ResultCode) (n : Nat) :
    (s.finishIf c r n).run.state = s.run.state := by
  unfold State.finishIf
  split <;> simp

@[simp] theorem State.doubt_state (s : State) (c : SetCondition) (k : Cause) :
    (s.doubt c k).run.state = s.run.state := by
  unfold State.doubt
  dsimp only
  split <;> simp

@[simp] theorem State.disturb_state (s : State) (k : Cause) : (s.disturb k).run.state = s.run.state := by
  unfold State.disturb
  split <;> simp

@[simp] theorem State.scatter_state (s : State) (k : Cause) : (s.scatter k).run.state = s.run.state := by
  unfold State.scatter
  split <;> simp

@[simp] theorem State.endChange_state (s : State) (c : ChangeStatus) : (s.endChange c).run.state = s.run.state := by
  simp [State.endChange]

@[simp] theorem State.abortChange_state (s : State) (b : Bool) : (s.abortChange b).run.state = s.run.state := by
  unfold State.abortChange
  split <;> simp

@[simp] theorem State.failWaiting_state (s : State) (c : Cause) : (s.failWaiting c).run.state = s.run.state := by
  simp [State.failWaiting]

@[simp] theorem State.completeJam_state (s : State) : s.completeJam.run.state = s.run.state := by
  unfold State.completeJam
  split <;> simp

@[simp] theorem State.setHolds_state (s : State) (f : FeedHolds) : (s.setHolds f).run.state = s.run.state := rfl

@[simp] theorem State.enter_state (s : State) (r : RunState) : (s.enter r).run.state = r := rfl

theorem State.begin_kept {a s : State} (h : Keeps a s) :
    Keeps a (s.begin) :=
  h.same (by simp) (by simp) (by simp) (by simp) (by simp)

theorem State.pulse_kept {a s : State} (p : Pulse) (h : Keeps a s) :
    Keeps a (s.pulse p) :=
  h.same (by simp) (by simp) (by simp) (by simp) (by simp)

theorem State.discardEvent_kept {a s : State} (h : Keeps a s) :
    Keeps a (s.discardEvent) := by
  unfold State.discardEvent
  repeat'
    first
    | assumption | with_reducible apply State.setLog_kept | with_reducible apply State.raiseE_kept | split

theorem State.takeRecord_kept {a s : State} (h : Keeps a s) :
    Keeps a (s.takeRecord) := by
  unfold State.takeRecord
  dsimp only
  repeat'
    first
    | assumption | with_reducible apply State.setLog_kept | with_reducible apply State.discardEvent_kept
    | with_reducible apply State.ask_kept | split

theorem State.handOver_kept {a s : State} (time : Tick) (body : LogBody) (h : Keeps a s) :
    Keeps a (s.handOver time body) := by
  unfold State.handOver
  repeat'
    first
    | assumption | with_reducible apply State.discardEvent_kept | with_reducible apply State.setLog_kept
    | with_reducible apply State.takeRecord_kept | split

theorem State.record_kept {a s : State} (body : LogBody) (h : Keeps a s) :
    Keeps a (s.record body) := by
  unfold State.record
  repeat' first | assumption | with_reducible apply State.handOver_kept

theorem State.finish_kept {a s : State} (result : ResultCode) (detail : Nat) (h : Keeps a s) :
    Keeps a (s.finish result detail) := by
  unfold State.finish
  split
  · exact h
  · exact ⟨h.queue.trans (List.prefix_append _ _), h.attention, h.drive, h.buffers, h.inactive, h.atRest,
      fun _ => by simp [RunControl.CommandSound, State.ask]⟩

theorem State.finishIf_kept {a s : State} (c : CommandCode) (result : ResultCode) (detail : Nat) (h : Keeps a s) :
    Keeps a (s.finishIf c result detail) := by
  unfold State.finishIf
  repeat' first | assumption | with_reducible apply State.finish_kept | split

theorem State.doubt_kept {a s : State} (c : SetCondition) (cause : Cause) (h : Keeps a s) :
    Keeps a (s.doubt c cause) := by
  unfold State.doubt
  dsimp only
  split
  · exact State.finishIf_kept _ _ _ ((State.setOutput_kept h _).runSame _ rfl)
  · exact (State.setOutput_kept h _).runSame _ rfl

theorem State.disturb_kept {a s : State} (cause : Cause) (h : Keeps a s) :
    Keeps a (s.disturb cause) := by
  unfold State.disturb
  repeat' first | assumption | with_reducible apply State.doubt_kept | split

theorem State.scatter_kept {a s : State} (cause : Cause) (h : Keeps a s) :
    Keeps a (s.scatter cause) := by
  unfold State.scatter
  repeat' first | assumption | with_reducible apply State.doubt_kept | split

theorem State.abandonBuffer_kept {a s : State} (n : Nat) (h : Keeps a s) :
    Keeps a (s.abandonBuffer n) := by
  unfold State.abandonBuffer
  repeat' first | assumption | with_reducible apply State.freeBuffer_kept | split

theorem State.dropSides_kept {a s : State} (delivered : Bool) (front : Option BufferNo) (back : Option BufferNo) (h : Keeps a s) :
    Keeps a (s.dropSides delivered front back) := by
  unfold State.dropSides
  repeat' first | assumption | with_reducible apply State.dropReference_kept

theorem State.putSlot_kept {a s : State} (i : Nat) (x : SlotState) (h : Keeps a s) :
    Keeps a (s.putSlot i x) :=
  h.same (by simp) (by simp) (by simp) (by simp) (by simp)

theorem State.takeCommit_kept {a s : State} (i : Nat) (h : Keeps a s) :
    Keeps a (s.takeCommit i) := by
  unfold State.takeCommit
  repeat' first | assumption | with_reducible apply State.putSlot_kept | with_reducible apply State.ask_kept | split

theorem State.answerWritten_kept {a s : State} (i : Nat) (y : PlanAnswer) (h : Keeps a s) :
    Keeps a (s.answerWritten i y) :=
  h.same (by simp) (by simp) (by simp) (by simp) (by simp)

theorem State.disposeWithdrawn_kept {a s : State} (e : PlanEntry) (h : Keeps a s) :
    Keeps a (s.disposeWithdrawn e) := by
  unfold State.disposeWithdrawn
  repeat' first | assumption | with_reducible apply State.dropSides_kept | with_reducible apply State.record_kept

theorem State.disposeAll_kept {a s : State} (y : List PlanEntry) (h : Keeps a s) :
    Keeps a (s.disposeAll y) := by
  induction y generalizing s with
  | nil => exact h
  | cons x l ih =>
    unfold State.disposeAll
    repeat' first | assumption | apply ih | with_reducible apply State.disposeWithdrawn_kept

theorem State.withdrawFrom_kept {a s : State} (q : Nat) (h : Keeps a s) :
    Keeps a (s.withdrawFrom q) := by
  unfold State.withdrawFrom
  dsimp only
  repeat'
    first
    | assumption | with_reducible apply State.setPlan_kept | with_reducible apply State.disposeAll_kept

theorem State.withdrawCopy_kept {a s : State} (c : Copy) (h : Keeps a s) :
    Keeps a (s.withdrawCopy c) := by
  unfold State.withdrawCopy
  dsimp only
  repeat'
    first
    | assumption | with_reducible apply State.setPlan_kept | with_reducible apply State.disposeAll_kept

theorem State.putSheet_kept {a s : State} (h1 : Handle) (x : Option Sheet) (h : Keeps a s) :
    Keeps a (s.putSheet h1 x) :=
  h.same (by simp) (by simp) (by simp) (by simp) (by simp)

theorem State.modifySheet_kept {a s : State} (h1 : Handle) (f : Sheet → Sheet) (h : Keeps a s) :
    Keeps a (s.modifySheet h1 f) :=
  h.same (by simp) (by simp) (by simp) (by simp) (by simp)

theorem State.modifySheets_kept {a s : State} (f : Sheet → Sheet) (h : Keeps a s) :
    Keeps a (s.modifySheets f) :=
  h.same (by simp) (by simp) (by simp) (by simp) (by simp)

theorem State.putSensor_kept {a s : State} (x : Sensor) (r : SensorRecord) (h : Keeps a s) :
    Keeps a (s.putSensor x r) :=
  h.same (by simp) (by simp) (by simp) (by simp) (by simp)

theorem State.modifySensors_kept {a s : State} (f : SensorRecord → SensorRecord) (h : Keeps a s) :
    Keeps a (s.modifySensors f) :=
  h.same (by simp) (by simp) (by simp) (by simp) (by simp)

theorem State.addExpectation_kept {a s : State} (x : Sensor) (e : Expectation) (h : Keeps a s) :
    Keeps a (s.addExpectation x e) :=
  h.same (by simp) (by simp) (by simp) (by simp) (by simp)

theorem State.place_kept {a s : State} (h1 : Handle) (st : Stretch) (h : Keeps a s) :
    Keeps a (s.place h1 st) :=
  h.same (by simp) (by simp) (by simp) (by simp) (by simp)

theorem State.placeSet_kept {a s : State} (d : Destination) (m : MediaClass) (h : Keeps a s) :
    Keeps a (s.placeSet d m) :=
  h.same (by simp) (by simp) (by simp) (by simp) (by simp)

theorem State.cutSetOff_kept {a s : State} (h : Keeps a s) :
    Keeps a (s.cutSetOff) :=
  h.same (by simp) (by simp) (by simp) (by simp) (by simp)

theorem State.loopGate_kept {a s : State} (f : Gate LoopPosition → Gate LoopPosition) (h : Keeps a s) :
    Keeps a (s.loopGate f) :=
  h.same (by simp) (by simp) (by simp) (by simp) (by simp)

theorem State.routeGate_kept {a s : State} (f : Gate Route → Gate Route) (h : Keeps a s) :
    Keeps a (s.routeGate f) :=
  h.same (by simp) (by simp) (by simp) (by simp) (by simp)

theorem State.settleBoundary_kept {a s : State} (c : Stacker × SwitchReason) (h : Keeps a s) :
    Keeps a (s.settleBoundary c) := by
  unfold State.settleBoundary
  dsimp only
  repeat'
    first
    | assumption | with_reducible apply State.setOutput_kept | with_reducible apply State.record_kept | split

theorem State.decideBoundary_kept {a s : State} (breakFlag : Bool) (h : Keeps a s) :
    Keeps a (s.decideBoundary breakFlag) := by
  unfold State.decideBoundary
  repeat' first | assumption | with_reducible apply State.settleBoundary_kept

theorem State.dropCommitted_kept {a s : State} (c : Option Copy) (h : Keeps a s) :
    Keeps a (s.dropCommitted c) :=
  h.same (by simp) (by simp) (by simp) (by simp) (by simp)

theorem State.commitSet_kept {a s : State} (h : Keeps a s) :
    Keeps a (s.commitSet) := by
  unfold State.commitSet
  dsimp only
  repeat'
    first
    | assumption | with_reducible apply State.decideBoundary_kept | with_reducible apply State.setOutput_kept
    | split

theorem State.decideDirect_kept {a s : State} (breakFlag : Bool) (h : Keeps a s) :
    Keeps a (s.decideDirect breakFlag) :=
  State.settleBoundary_kept _ (State.commitSet_kept h)

theorem State.decideRoute_kept {a s : State} (sh : Sheet) (h : Keeps a s) : Keeps a (s.decideRoute sh).2 := by
  unfold State.decideRoute
  dsimp only
  repeat' split
  all_goals first | exact State.setOutput_kept h _ | exact State.decideDirect_kept _ h

theorem State.decideAtFx_kept {a s : State} (h1 : Handle) (sh : Sheet) (h : Keeps a s) :
    Keeps a (s.decideAtFx h1 sh).2 := by
  unfold State.decideAtFx
  dsimp only
  split
  · dsimp only
    exact State.loopGate_kept _ (State.modifySheet_kept _ _ h)
  · dsimp only
    exact State.routeGate_kept _ (State.loopGate_kept _ (State.modifySheet_kept _ _ (State.decideRoute_kept _ h)))

theorem State.modifySet_kept {a s : State} (f : SetRecord → SetRecord) (h : Keeps a s) :
    Keeps a (s.modifySet f) :=
  h.same (by simp) (by simp) (by simp) (by simp) (by simp)

theorem State.launch_kept {a s : State} (d : Destination) (l : List Member) (h : Keeps a s) :
    Keeps a (s.launch d l) :=
  h.same (by simp) (by simp) (by simp) (by simp) (by simp)

theorem State.beginEject_kept {a s : State} (h : Keeps a s) :
    Keeps a (s.beginEject) := by
  unfold State.beginEject
  dsimp only
  repeat'
    first
    | assumption | with_reducible apply State.setOutput_kept | with_reducible apply State.launch_kept
    | with_reducible apply State.decideBoundary_kept | split

theorem State.examineEject_kept {a s : State} (h : Keeps a s) :
    Keeps a (s.examineEject) := by
  unfold State.examineEject
  repeat' first | assumption | with_reducible apply State.beginEject_kept | split

theorem State.beginDump_kept {a s : State} (h : Keeps a s) :
    Keeps a (s.beginDump) :=
  h.same (by simp) (by simp) (by simp) (by simp) (by simp)

theorem State.examineDump_kept {a s : State} (h : Keeps a s) :
    Keeps a (s.examineDump) :=
  h.same (by simp) (by simp) (by simp) (by simp) (by simp)

theorem State.examineSet_kept {a s : State} (h : Keeps a s) :
    Keeps a (s.examineSet) := by
  unfold State.examineSet
  repeat'
    first
    | assumption | with_reducible apply State.examineEject_kept | with_reducible apply State.examineDump_kept

theorem State.topNotice_kept {a s : State} (c : Copy) (k : Stacker) (h : Keeps a s) :
    Keeps a (s.topNotice c k) := by
  unfold State.topNotice
  repeat'
    first
    | assumption | with_reducible apply State.record_kept | with_reducible apply State.setOutput_kept | split

theorem State.resolved_kept {a s : State} (r : BrokenCopy) (h : Keeps a s) :
    Keeps a (s.resolved r) := by
  unfold State.resolved
  repeat'
    first
    | assumption | with_reducible apply State.examineDump_kept | with_reducible apply State.topNotice_kept | split

theorem State.examineCopy_kept {a s : State} (c : Copy) (h : Keeps a s) :
    Keeps a (s.examineCopy c) := by
  unfold State.examineCopy
  repeat'
    first
    | assumption | with_reducible apply State.setOutput_kept | with_reducible apply State.resolved_kept | split

theorem State.withdrawBroken_kept {a s : State} (c : Copy) (h : Keeps a s) :
    Keeps a (s.withdrawBroken c) := by
  unfold State.withdrawBroken
  dsimp only
  repeat'
    first
    | assumption | with_reducible apply State.withdrawCopy_kept | with_reducible apply State.setOutput_kept
    | with_reducible apply State.examineCopy_kept

theorem State.breakCopy_kept {a s : State} (c : Copy) (mode : OutputMode) (h : Keeps a s) :
    Keeps a (s.breakCopy c mode) := by
  unfold State.breakCopy
  dsimp only
  repeat'
    first
    | assumption | with_reducible apply State.modifySheets_kept | with_reducible apply State.modifySet_kept
    | with_reducible apply State.setOutput_kept | with_reducible apply State.withdrawBroken_kept

theorem State.rewithdraw_kept {a s : State} (c : Copy) (h : Keeps a s) :
    Keeps a (s.rewithdraw c) := by
  unfold State.rewithdraw
  repeat'
    first
    | assumption | with_reducible apply State.setOutput_kept | with_reducible apply State.withdrawBroken_kept
    | split

theorem State.emptySet_kept {a s : State} (h : Keeps a s) :
    Keeps a (s.emptySet) :=
  h.same (by simp) (by simp) (by simp) (by simp) (by simp)

theorem State.disposeMembers_kept {a s : State} (d : Destination) (y : List Member) (h : Keeps a s) :
    Keeps a (s.disposeMembers d y) := by
  induction y generalizing s with
  | nil => exact h
  | cons x l ih =>
    unfold State.disposeMembers
    dsimp only
    repeat'
      first
      | assumption | apply ih | with_reducible apply State.dropSides_kept | with_reducible apply State.record_kept

theorem State.stackSet_kept {a s : State} (k : Stacker) (h : Keeps a s) :
    Keeps a (s.stackSet k) :=
  h.same (by simp) (by simp) (by simp) (by simp) (by simp)

theorem State.forgetLatest_kept {a s : State} (h : Keeps a s) :
    Keeps a (s.forgetLatest) :=
  h.same (by simp) (by simp) (by simp) (by simp) (by simp)

theorem State.completeEject_kept {a s : State} (h : Keeps a s) :
    Keeps a (s.completeEject) := by
  unfold State.completeEject
  dsimp only
  repeat'
    first
    | assumption | with_reducible apply State.disposeMembers_kept | with_reducible apply State.stackSet_kept
    | with_reducible apply State.forgetLatest_kept | with_reducible apply State.emptySet_kept | split

theorem State.deliverDirect_kept {a s : State} (sh : Sheet) (k : Stacker) (h : Keeps a s) :
    Keeps a (s.deliverDirect sh k) := by
  unfold State.deliverDirect
  dsimp only
  repeat'
    first
    | assumption | with_reducible apply State.dropSides_kept | with_reducible apply State.record_kept
    | with_reducible apply State.setOutput_kept

theorem State.purgeDirect_kept {a s : State} (sh : Sheet) (h : Keeps a s) :
    Keeps a (s.purgeDirect sh) := by
  unfold State.purgeDirect
  repeat' first | assumption | with_reducible apply State.dropSides_kept | with_reducible apply State.record_kept

theorem State.discardGrid_kept {a s : State} (h : Keeps a s) :
    Keeps a (s.discardGrid) :=
  h.same (by simp) (by simp) (by simp) (by simp) (by simp)

theorem State.putTimers_kept {a s : State} (h1 : Handle) (t : SheetTimers) (h : Keeps a s) :
    Keeps a (s.putTimers h1 t) :=
  h.same (by simp) (by simp) (by simp) (by simp) (by simp)

theorem State.admitHead_kept {a s : State} (g : Grid) (x : PlanEntry) (rest : List PlanEntry) (h1 : Handle) (front : Nat) (h : Keeps a s) :
    Keeps a (s.admitHead g x rest h1 front) :=
  h.same (by simp) (by simp) (by simp) (by simp) (by simp)

theorem State.setWaitReason_kept {a s : State} (r : WaitReason) (h : Keeps a s) :
    Keeps a (s.setWaitReason r) :=
  h.same (by simp) (by simp) (by simp) (by simp) (by simp)

theorem State.evaluateTimes_kept {a s : State} (n : Nat) (h : Keeps a s) :
    Keeps a (State.evaluateTimes n s) :=
  h.same (by simp) (by simp) (by simp) (by simp) (by simp)

theorem State.evaluate_kept {a s : State} (h : Keeps a s) :
    Keeps a (s.evaluate) :=
  h.same (by simp) (by simp) (by simp) (by simp) (by simp)

theorem State.freeScheduled_kept {a s : State} (y : List Handle) (h : Keeps a s) :
    Keeps a (s.freeScheduled y) :=
  h.same (by simp) (by simp) (by simp) (by simp) (by simp)

theorem State.rewithdrawAll_kept {a s : State} (y : List PlanEntry) (h : Keeps a s) :
    Keeps a (s.rewithdrawAll y) := by
  induction y generalizing s with
  | nil => exact h
  | cons x l ih =>
    unfold State.rewithdrawAll
    repeat' first | assumption | apply ih | with_reducible apply State.rewithdraw_kept

theorem State.deschedule_kept {a s : State} (h : Keeps a s) :
    Keeps a (s.deschedule) := by
  unfold State.deschedule
  dsimp only
  repeat'
    first
    | assumption | with_reducible apply State.freeScheduled_kept | with_reducible apply State.setScheduler_kept
    | with_reducible apply State.setPlan_kept | with_reducible apply State.rewithdrawAll_kept

theorem State.setHolds_kept {a s : State} (f : FeedHolds) (h : Keeps a s) :
    Keeps a (s.setHolds f) := by
  unfold State.setHolds
  repeat' first | assumption | with_reducible apply Keeps.runSame | rfl

theorem State.pick_kept {a s : State} (h1 : Handle) (sh : Sheet) (due : Tick) (h : Keeps a s) :
    Keeps a (s.pick h1 sh due) :=
  h.same (by simp) (by simp) (by simp) (by simp) (by simp)

theorem State.trayFoundEmpty_kept {a s : State} (t : Tray) (h : Keeps a s) :
    Keeps a (s.trayFoundEmpty t) := by
  unfold State.trayFoundEmpty
  dsimp only
  repeat'
    first
    | assumption | with_reducible apply State.deschedule_kept | with_reducible apply State.setHolds_kept
    | with_reducible apply State.evaluate_kept

theorem State.startHoldCover_kept {a s : State} (h1 : Handle) (h : Keeps a s) :
    Keeps a (s.startHoldCover h1) :=
  h.same (by simp) (by simp) (by simp) (by simp) (by simp)

theorem State.release_kept {a s : State} (h1 : Handle) (h : Keeps a s) :
    Keeps a (s.release h1) :=
  h.same (by simp) (by simp) (by simp) (by simp) (by simp)

theorem State.releaseBy_kept {a s : State} (h1 : Handle) (sh : Sheet) (h : Keeps a s) :
    Keeps a (s.releaseBy h1 sh) :=
  h.same (by simp) (by simp) (by simp) (by simp) (by simp)

theorem State.arriveAtHold_kept {a s : State} (h1 : Handle) (h : Keeps a s) :
    Keeps a (s.arriveAtHold h1) :=
  h.same (by simp) (by simp) (by simp) (by simp) (by simp)

theorem State.passSlot_kept {a s : State} (g : Grid) (h : Keeps a s) :
    Keeps a (s.passSlot g) :=
  h.same (by simp) (by simp) (by simp) (by simp) (by simp)

theorem State.endChange_kept {a s : State} (c : ChangeStatus) (h : Keeps a s) :
    Keeps a (s.endChange c) := by
  unfold State.endChange
  repeat' first | assumption | with_reducible apply Keeps.runSame | with_reducible apply State.raiseE_kept | rfl

theorem State.abortChange_kept {a s : State} (changing : Bool) (h : Keeps a s) :
    Keeps a (s.abortChange changing) := by
  unfold State.abortChange
  repeat' first | assumption | with_reducible apply State.endChange_kept | split

theorem State.failWaiting_kept {a s : State} (c : Cause) (h : Keeps a s) :
    Keeps a (s.failWaiting c) := by
  unfold State.failWaiting
  repeat' first | assumption | with_reducible apply State.finishIf_kept

theorem State.enterStop_kept {a s : State} (r : Report) (h : Keeps a s) (h1 : s.run.state ≠ .inactive)
    (h2 : s.run.state ≠ .idle) (h3 : s.run.state ≠ .clearing) : Keeps a (s.enterStop r) :=
  State.failWaiting_kept _ (State.abortChange_kept _ (State.discardGrid_kept (State.deschedule_kept
    (State.coast_kept (h.runFrom _ (by simp) h1 h2 h3)))))

theorem State.laterCause_kept {a s : State} (r : Report) (h : Keeps a s) :
    Keeps a (s.laterCause r) := by
  unfold State.laterCause
  repeat' first | assumption | with_reducible apply Keeps.runSame | rfl

theorem State.report_kept {a s : State} (r : Report) (h : Keeps a s) : Keeps a (s.report r) := by
  unfold State.report
  split <;> first | exact h | exact State.laterCause_kept _ h | exact State.enterStop_kept _ h (by simp_all) (by simp_all) (by simp_all)

theorem State.setFailure_kept {a s : State} (r : Report) (h : Keeps a s) :
    Keeps a (s.setFailure r) := by
  unfold State.setFailure
  dsimp only
  repeat'
    first
    | assumption | with_reducible apply Keeps.runSame | with_reducible apply State.record_kept
    | with_reducible apply State.raiseE_kept | rfl

theorem State.fault_kept {a s : State} (c : Cause) (x : Sensor) (i : Option Item) (h : Keeps a s) :
    Keeps a (s.fault c x i) := by
  unfold State.fault
  repeat'
    first
    | assumption | with_reducible apply State.report_kept | with_reducible apply State.setFailure_kept | split

theorem State.examineDrain_kept {a s : State} (h : Keeps a s) : Keeps a s.examineDrain := by
  unfold State.examineDrain
  split
  · next hd =>
    have hs : s.run.state = .draining := by
      simp only [State.drained, Bool.and_eq_true, beq_iff_eq] at hd
      exact hd.1.1
    split
    · exact State.examineSet_kept (State.finishIf_kept _ _ _ ((State.coast_kept (State.discardGrid_kept h)).runFrom _
        (by simp) (by simp [hs]) (by simp [hs]) (by simp [hs])))
    · exact ((State.discardGrid_kept h).runFrom _ (by simp) (by simp [hs]) (by simp [hs]) (by simp [hs])).driveTo _
        fun _ => Drive.relockTo_sound _ _ _ _
  · exact h

theorem State.enterDraining_kept {a s : State} (target : Option SpeedCode) (status : ChangeStatus) (h : Keeps a s)
    (h1 : s.run.state ≠ .inactive) (h2 : s.run.state ≠ .idle) (h3 : s.run.state ≠ .clearing) :
    Keeps a (s.enterDraining target status) :=
  State.evaluate_kept (State.examineDrain_kept (State.examineSet_kept (State.deschedule_kept
    (h.runFrom _ (by simp) h1 h2 h3))))

theorem State.computeTiming_kept {a s : State} (h : Keeps a s) :
    Keeps a (s.computeTiming) :=
  h.same (by simp) (by simp) (by simp) (by simp) (by simp)

theorem State.runAtLock_kept {a s : State} (h : Keeps a s) (h1 : s.run.state ≠ .inactive)
    (h2 : s.run.state ≠ .idle) (h3 : s.run.state ≠ .clearing) : Keeps a s.runAtLock :=
  Keeps.runFrom (h.same (t := s.computeTiming.setGrid) (by simp) (by simp) (by simp) (by simp) (by simp)) _ (by simp) (by simpa) (by simpa)
    (by simpa)

theorem State.takeLock_kept {a s : State} (old : SpeedCode) (h : Keeps a s) : Keeps a (s.takeLock old) := by
  unfold State.takeLock
  split
  · next hs =>
    refine State.examineSet_kept (State.evaluate_kept (State.finishIf_kept _ _ _ (Keeps.runFrom (State.record_kept _
      (h.same (t := s.computeTiming.setGrid) (by simp) (by simp) (by simp) (by simp) (by simp))) _ (by simp) ?_ ?_ ?_)))
    all_goals simp [hs]
  · next hs =>
    have hr := State.runAtLock_kept h (by simp [hs]) (by simp [hs]) (by simp [hs])
    dsimp only
    split
    · exact State.examineSet_kept (State.evaluate_kept (State.finishIf_kept _ _ _ (State.endChange_kept _ hr)))
    · exact State.examineSet_kept (State.evaluate_kept (State.endChange_kept _ (State.record_kept _ hr)))
  · exact h

theorem State.takeLockTimeout_kept {a s : State} (h : Keeps a s) : Keeps a s.takeLockTimeout := by
  unfold State.takeLockTimeout
  split
  · next hs =>
    exact State.examineSet_kept (State.finishIf_kept _ _ _ ((State.coast_kept h).runFrom _ (by simp) (by simp [hs])
      (by simp [hs]) (by simp [hs])))
  · next hs =>
    exact State.examineSet_kept (State.finishIf_kept _ _ _ (State.endChange_kept _ ((State.coast_kept h).runFrom _
      (by simp) (by simp [hs]) (by simp [hs]) (by simp [hs]))))
  · exact h

theorem State.takeDriveReport_kept {a s : State} (old : SpeedCode) (y : DriveReport) (h : Keeps a s) :
    Keeps a (s.takeDriveReport old y) := by
  unfold State.takeDriveReport
  repeat'
    first
    | assumption | with_reducible apply State.takeLock_kept | with_reducible apply State.report_kept | split

theorem State.strand_kept {a s : State} (h : Keeps a s) :
    Keeps a (s.strand) :=
  h.same (by simp) (by simp) (by simp) (by simp) (by simp)

theorem State.completeJam_kept {a s : State} (h : Keeps a s) :
    Keeps a (s.completeJam) := by
  unfold State.completeJam
  repeat'
    first
    | assumption | with_reducible apply Keeps.runSame | with_reducible apply State.handOver_kept | rfl | split

theorem State.expireGrace_kept {a s : State} (h : Keeps a s) (hs : s.run.state = .stopping) :
    Keeps a s.expireGrace := by
  have h1 := State.strand_kept h
  have e1 : s.strand.run.state = .stopping := by simp [hs]
  unfold State.expireGrace
  dsimp only
  split
  · exact (State.raiseE_kept _ (State.completeJam_kept (State.scatter_kept _ h1))).runFrom _ (by simp)
      (by simp [hs]) (by simp [hs]) (by simp [hs])
  · exact (State.raiseE_kept _ (State.completeJam_kept h1)).runFrom _ (by simp) (by simp [hs]) (by simp [hs])
      (by simp [hs])

theorem State.examineClearance_kept {a s : State} (h : Keeps a s) : Keeps a s.examineClearance := by
  unfold State.examineClearance
  split
  · next hc =>
    have hs : s.run.state = .clearing := by
      simp only [State.cleared, Bool.and_eq_true, beq_iff_eq] at hc
      exact hc.1.1.1
    exact State.examineSet_kept (State.finishIf_kept _ _ _ (h.runToRest _ (by simp) (by simp [hs])))
  · exact h

theorem State.disposeStranded_kept {a s : State} (d : Disposition) (front : Option BufferNo) (back : Option BufferNo) (last : Option Sensor) (h : Keeps a s) :
    Keeps a (s.disposeStranded d front back last) := by
  unfold State.disposeStranded
  dsimp only
  repeat'
    first
    | assumption | with_reducible apply State.dropSides_kept | with_reducible apply State.record_kept
    | with_reducible apply Keeps.runSame | rfl

theorem State.freeStranded_kept {a s : State} (y : List (Handle × Sheet)) (h : Keeps a s) :
    Keeps a (s.freeStranded y) := by
  induction y generalizing s with
  | nil => exact h
  | cons x l ih =>
    unfold State.freeStranded
    repeat'
      first
      | assumption | apply ih | with_reducible apply State.putSheet_kept | with_reducible apply State.putTimers_kept
      | with_reducible apply State.disposeStranded_kept | with_reducible apply State.examineCopy_kept

theorem State.breakAll_kept {a s : State} (y : List (Copy × OutputMode)) (h : Keeps a s) :
    Keeps a (s.breakAll y) := by
  induction y generalizing s with
  | nil => exact h
  | cons x l ih =>
    unfold State.breakAll
    repeat' first | assumption | apply ih | with_reducible apply State.breakCopy_kept

theorem State.strandMembers_kept {a s : State} (last : Sensor) (y : List Member) (h : Keeps a s) :
    Keeps a (s.strandMembers last y) := by
  induction y generalizing s with
  | nil => exact h
  | cons x l ih =>
    unfold State.strandMembers
    repeat' first | assumption | apply ih | with_reducible apply State.disposeStranded_kept

theorem State.breakSet_kept {a s : State} (h : Keeps a s) :
    Keeps a (s.breakSet) := by
  unfold State.breakSet
  repeat' first | assumption | with_reducible apply State.breakCopy_kept | split

theorem State.clearSet_kept {a s : State} (h : Keeps a s) :
    Keeps a (s.clearSet) := by
  unfold State.clearSet
  dsimp only
  repeat'
    first
    | assumption | with_reducible apply State.strandMembers_kept | with_reducible apply State.breakSet_kept
    | with_reducible apply State.emptySet_kept | with_reducible apply State.dropCommitted_kept
    | with_reducible apply State.modifySet_kept | with_reducible apply State.examineDump_kept | split

theorem State.settleGates_kept {a s : State} (h : Keeps a s) :
    Keeps a (s.settleGates) :=
  h.same (by simp) (by simp) (by simp) (by simp) (by simp)

theorem State.clearMark_kept {a s : State} (h : Keeps a s) :
    Keeps a (s.clearMark) := by
  unfold State.clearMark
  repeat' first | assumption | with_reducible apply Keeps.runSame | rfl

theorem State.carryOutClear_kept {a s : State} (h : Keeps a s) (h1 : s.run.state ≠ .inactive) :
    Keeps a s.carryOutClear :=
  State.examineClearance_kept (State.evaluate_kept (State.settleGates_kept (State.clearSet_kept (State.clearMark_kept
    (State.breakAll_kept _ (State.freeStranded_kept _ (h.runToRest _ (by simp) h1)))))))

theorem State.coverSet_kept {a s : State} (h : Keeps a s) :
    Keeps a (s.coverSet) := by
  unfold State.coverSet
  repeat'
    first
    | assumption | with_reducible apply State.cutSetOff_kept | with_reducible apply State.scatter_kept
    | with_reducible apply State.disturb_kept | split

theorem State.scatterInFlight_kept {a s : State} (c : Cause) (h : Keeps a s) :
    Keeps a (s.scatterInFlight c) := by
  unfold State.scatterInFlight
  repeat' first | assumption | with_reducible apply State.scatter_kept | split

theorem State.markImageFault_kept {a s : State} (h1 : Handle) (h : Keeps a s) :
    Keeps a (s.markImageFault h1) := by
  unfold State.markImageFault
  dsimp only
  repeat'
    first
    | assumption | with_reducible apply State.modifySheet_kept | with_reducible apply State.breakCopy_kept | split

theorem State.imageFaultAsserted_kept {a s : State} (h : Keeps a s) :
    Keeps a (s.imageFaultAsserted) := by
  unfold State.imageFaultAsserted
  repeat' first | assumption | with_reducible apply State.markImageFault_kept | split

theorem State.untrackedArrives_kept {a s : State} (x : Sensor) (h : Keeps a s) :
    Keeps a (s.untrackedArrives x) :=
  h.same (by simp) (by simp) (by simp) (by simp) (by simp)

theorem State.occupy_kept {a s : State} (x : Sensor) (e : Expectation) (o : Occupant) (timed : Bool) (h : Keeps a s) :
    Keeps a (s.occupy x e o timed) :=
  h.same (by simp) (by simp) (by simp) (by simp) (by simp)

theorem State.matchSheet_kept {a s : State} (x : Sensor) (e : Expectation) (h1 : Handle) (h : Keeps a s) :
    Keeps a (s.matchSheet x e h1) :=
  h.same (by simp) (by simp) (by simp) (by simp) (by simp)

theorem State.matchHalted_kept {a s : State} (x : Sensor) (e : Expectation) (h1 : Handle) (h : Keeps a s) :
    Keeps a (s.matchHalted x e h1) :=
  h.same (by simp) (by simp) (by simp) (by simp) (by simp)

theorem State.setSheetState_kept {a s : State} (h1 : Handle) (x : SheetState) (h : Keeps a s) :
    Keeps a (s.setSheetState h1 x) :=
  h.same (by simp) (by simp) (by simp) (by simp) (by simp)

theorem State.matchAtTransfer_kept {a s : State} (h1 : Handle) (h : Keeps a s) :
    Keeps a (s.matchAtTransfer h1) := by
  unfold State.matchAtTransfer
  dsimp only
  repeat'
    first
    | assumption | with_reducible apply State.setSheetState_kept | with_reducible apply State.place_kept
    | with_reducible apply State.markImageFault_kept | split

theorem State.matchAtFuser_kept {a s : State} (h1 : Handle) (h : Keeps a s) :
    Keeps a (s.matchAtFuser h1) := by
  unfold State.matchAtFuser
  dsimp only
  repeat'
    first
    | assumption | with_reducible apply State.decideAtFx_kept | with_reducible apply State.place_kept | split

theorem State.matchAtHold_kept {a s : State} (h1 : Handle) (h : Keeps a s) :
    Keeps a (s.matchAtHold h1) :=
  h.same (by simp) (by simp) (by simp) (by simp) (by simp)

theorem State.matchAtExit_kept {a s : State} (h1 : Handle) (h : Keeps a s) :
    Keeps a (s.matchAtExit h1) :=
  h.same (by simp) (by simp) (by simp) (by simp) (by simp)

theorem State.advance_kept {a s : State} (h1 : Handle) (y : Sensor) (h : Keeps a s) :
    Keeps a (s.advance h1 y) := by
  unfold State.advance
  repeat'
    first
    | assumption | with_reducible apply State.place_kept | with_reducible apply State.setSheetState_kept
    | with_reducible apply State.matchAtTransfer_kept | with_reducible apply State.matchAtFuser_kept
    | with_reducible apply State.matchAtHold_kept | with_reducible apply State.matchAtExit_kept | split

theorem State.matchSet_kept {a s : State} (x : Sensor) (e : Expectation) (h : Keeps a s) :
    Keeps a (s.matchSet x e) :=
  h.same (by simp) (by simp) (by simp) (by simp) (by simp)

theorem State.matchEdge_kept {a s : State} (x : Sensor) (e : Expectation) (h : Keeps a s) :
    Keeps a (s.matchEdge x e) := by
  unfold State.matchEdge
  repeat'
    first
    | assumption | with_reducible apply State.matchSheet_kept | with_reducible apply State.advance_kept
    | with_reducible apply State.matchSet_kept | split

theorem State.judgeEdge_kept {a s : State} (x : Sensor) (y : Option Expectation) (h : Keeps a s) :
    Keeps a (s.judgeEdge x y) := by
  unfold State.judgeEdge
  dsimp only
  repeat'
    first
    | assumption | with_reducible apply State.untrackedArrives_kept | with_reducible apply State.fault_kept
    | with_reducible apply State.matchEdge_kept | split

theorem State.collide_kept {a s : State} (x : Sensor) (c : Cause) (other : Option Nat) (head : Option Expectation) (h : Keeps a s) :
    Keeps a (s.collide x c other head) := by
  unfold State.collide
  repeat'
    first
    | assumption | with_reducible apply State.untrackedArrives_kept | with_reducible apply State.report_kept
    | with_reducible apply State.matchHalted_kept | split

theorem State.cover_kept {a s : State} (x : Sensor) (level : Bool) (h : Keeps a s) :
    Keeps a (s.cover x level) :=
  h.same (by simp) (by simp) (by simp) (by simp) (by simp)

theorem State.takeLeadingEdge_kept {a s : State} (x : Sensor) (h : Keeps a s) :
    Keeps a (s.takeLeadingEdge x) := by
  unfold State.takeLeadingEdge
  dsimp only
  repeat'
    first
    | assumption | with_reducible apply State.cover_kept | with_reducible apply State.collide_kept
    | with_reducible apply State.judgeEdge_kept | split

theorem State.vacate_kept {a s : State} (x : Sensor) (h : Keeps a s) :
    Keeps a (s.vacate x) :=
  h.same (by simp) (by simp) (by simp) (by simp) (by simp)

theorem State.overrun_kept {a s : State} (sh : Sheet) (h : Keeps a s) :
    Keeps a (s.overrun sh) := by
  unfold State.overrun
  dsimp only
  repeat'
    first
    | assumption | with_reducible apply State.modifySet_kept | with_reducible apply State.scatter_kept
    | with_reducible apply State.disturb_kept | with_reducible apply State.breakCopy_kept
    | with_reducible apply State.report_kept | split

theorem State.takeMember_kept {a s : State} (sh : Sheet) (h : Keeps a s) :
    Keeps a (s.takeMember sh) := by
  unfold State.takeMember
  repeat'
    first
    | assumption | with_reducible apply State.modifySet_kept | with_reducible apply State.examineSet_kept
    | with_reducible apply State.overrun_kept | split

theorem State.handOverSheet_kept {a s : State} (sh : Sheet) (y : Route) (h : Keeps a s) :
    Keeps a (s.handOverSheet sh y) := by
  unfold State.handOverSheet
  repeat'
    first
    | assumption | with_reducible apply State.takeMember_kept | with_reducible apply State.deliverDirect_kept
    | with_reducible apply State.purgeDirect_kept | split

theorem State.leaveTable_kept {a s : State} (h1 : Handle) (sh : Sheet) (r : Route) (h : Keeps a s) :
    Keeps a (s.leaveTable h1 sh r) := by
  unfold State.leaveTable
  repeat'
    first
    | assumption | with_reducible apply State.putSheet_kept | with_reducible apply State.putTimers_kept
    | with_reducible apply State.handOverSheet_kept | with_reducible apply State.examineCopy_kept
    | with_reducible apply State.examineDrain_kept | with_reducible apply State.evaluate_kept

theorem State.gatePassed_kept {a s : State} (x : Sensor) (h1 : Handle) (h : Keeps a s) :
    Keeps a (s.gatePassed x h1) := by
  unfold State.gatePassed
  repeat'
    first
    | assumption | with_reducible apply State.loopGate_kept | with_reducible apply State.routeGate_kept | split

theorem State.sheetLeaves_kept {a s : State} (x : Sensor) (h1 : Handle) (sh : Sheet) (h : Keeps a s) :
    Keeps a (s.sheetLeaves x h1 sh) := by
  unfold State.sheetLeaves
  repeat'
    first
    | assumption | with_reducible apply State.place_kept | with_reducible apply State.leaveTable_kept | split

theorem State.sheetPassed_kept {a s : State} (x : Sensor) (h1 : Handle) (h : Keeps a s) :
    Keeps a (s.sheetPassed x h1) := by
  unfold State.sheetPassed
  dsimp only
  repeat'
    first
    | assumption | with_reducible apply State.gatePassed_kept | with_reducible apply State.sheetLeaves_kept | split

theorem State.judgeSheetTrail_kept {a s : State} (x : Sensor) (h1 : Handle) (h : Keeps a s) :
    Keeps a (s.judgeSheetTrail x h1) := by
  unfold State.judgeSheetTrail
  dsimp only
  repeat'
    first
    | assumption | with_reducible apply State.vacate_kept | with_reducible apply State.modifySheet_kept
    | with_reducible apply State.fault_kept | with_reducible apply State.sheetPassed_kept | split

theorem State.ejectCompleted_kept {a s : State} (h : Keeps a s) :
    Keeps a (s.ejectCompleted) := by
  unfold State.ejectCompleted
  repeat'
    first
    | assumption | with_reducible apply State.completeEject_kept | with_reducible apply State.examineDrain_kept
    | with_reducible apply State.evaluate_kept | with_reducible apply State.examineClearance_kept

theorem State.judgeSetTrail_kept {a s : State} (x : Sensor) (h : Keeps a s) :
    Keeps a (s.judgeSetTrail x) := by
  unfold State.judgeSetTrail
  dsimp only
  repeat'
    first
    | assumption | with_reducible apply State.vacate_kept | with_reducible apply State.scatterInFlight_kept
    | with_reducible apply State.fault_kept | with_reducible apply State.ejectCompleted_kept | split

theorem State.takeTrailingEdge_kept {a s : State} (x : Sensor) (h : Keeps a s) :
    Keeps a (s.takeTrailingEdge x) := by
  unfold State.takeTrailingEdge
  dsimp only
  repeat'
    first
    | assumption | with_reducible apply State.cover_kept | with_reducible apply State.vacate_kept
    | with_reducible apply State.judgeSheetTrail_kept | with_reducible apply State.judgeSetTrail_kept | split

theorem State.dropExpectation_kept {a s : State} (x : Sensor) (i : Item) (h : Keeps a s) :
    Keeps a (s.dropExpectation x i) :=
  h.same (by simp) (by simp) (by simp) (by simp) (by simp)

theorem State.disarmExpectation_kept {a s : State} (x : Sensor) (i : Item) (h : Keeps a s) :
    Keeps a (s.disarmExpectation x i) :=
  h.same (by simp) (by simp) (by simp) (by simp) (by simp)

theorem State.expireWindow_kept {a s : State} (x : Sensor) (i : Item) (h : Keeps a s) :
    Keeps a (s.expireWindow x i) := by
  unfold State.expireWindow
  dsimp only
  repeat'
    first
    | assumption | with_reducible apply State.disarmExpectation_kept | with_reducible apply State.fault_kept
    | with_reducible apply State.dropExpectation_kept | with_reducible apply State.scatterInFlight_kept | split

theorem State.expireCover_kept {a s : State} (x : Sensor) (h : Keeps a s) :
    Keeps a (s.expireCover x) := by
  unfold State.expireCover
  dsimp only
  repeat'
    first
    | assumption | with_reducible apply State.putSensor_kept | with_reducible apply State.fault_kept | split

theorem State.takeCode_kept {a s : State} (h : Keeps a s) : Keeps a s.takeCode := by
  unfold State.takeCode
  split
  · exact h.runSame _ rfl rfl (by simp)
  all_goals exact ⟨h.queue.trans (List.prefix_append _ _), h.attention, h.drive, h.buffers, h.inactive, h.atRest,
    fun _ => by simp [RunControl.CommandSound, State.ask]⟩

theorem State.takeConsumer_kept {a s : State} (data : Word) (mask : BitVec 4) (h : Keeps a s) :
    Keeps a (s.takeConsumer data mask) := by
  unfold State.takeConsumer
  dsimp only
  repeat'
    first
    | assumption | with_reducible apply State.setLog_kept | with_reducible apply State.takeRecord_kept
    | with_reducible apply State.evaluate_kept | split

theorem State.restTracker_kept {a s : State} (h : Keeps a s) :
    Keeps a (s.restTracker) :=
  h.same (by simp) (by simp) (by simp) (by simp) (by simp)

theorem State.coverSet_state (s : State) : s.coverSet.run.state = s.run.state := by
  unfold State.coverSet State.scatter State.disturb
  repeat' split
  all_goals first | rfl | exact State.doubt_state _ _ _

theorem State.openCover_kept {a s : State} (h : Keeps a s) :
    Keeps a (s.openCover) := by
  unfold State.openCover
  split
  · exact h
  · next hs => exact State.expireGrace_kept (State.coverSet_kept (State.laterCause_kept _ h)) ((State.coverSet_state _).trans hs)
  all_goals exact State.coverSet_kept (State.report_kept _ h)

theorem State.setTrayEmpty_kept {a s : State} (t : Tray) (level : Bool) (h : Keeps a s) :
    Keeps a (s.setTrayEmpty t level) :=
  h.same (by simp) (by simp) (by simp) (by simp) (by simp)

theorem State.refillTray_kept {a s : State} (t : Tray) (h : Keeps a s) :
    Keeps a (s.refillTray t) := by
  unfold State.refillTray
  repeat' first | assumption | with_reducible apply State.setHolds_kept | with_reducible apply State.evaluate_kept

theorem State.stackerEmptied_kept {a s : State} (h : Keeps a s) :
    Keeps a (s.stackerEmptied) := by
  unfold State.stackerEmptied
  dsimp only
  repeat'
    first
    | assumption | with_reducible apply State.setHolds_kept | with_reducible apply State.evaluate_kept
    | with_reducible apply State.examineSet_kept | split

theorem State.stackerFilled_kept {a s : State} (h : Keeps a s) :
    Keeps a (s.stackerFilled) := by
  unfold State.stackerFilled
  repeat' first | assumption | with_reducible apply State.setHolds_kept | split

theorem State.purgeEmptied_kept {a s : State} (h : Keeps a s) :
    Keeps a (s.purgeEmptied) := by
  unfold State.purgeEmptied
  dsimp only
  repeat'
    first
    | assumption | with_reducible apply State.setHolds_kept | with_reducible apply State.evaluate_kept
    | with_reducible apply State.examineSet_kept | split

theorem State.closeEncoderWindow_kept {a s : State} (h : Keeps a s) : Keeps a s.closeEncoderWindow :=
  State.takeDriveReport_kept _ _ (h.driveTo _ (Drive.closeWindow_sound _ _ _))

theorem State.expirePick_kept {a s : State} (h1 : Handle) (due : Tick) (h : Keeps a s) :
    Keeps a (s.expirePick h1 due) := by
  unfold State.expirePick
  dsimp only
  repeat'
    first
    | assumption | with_reducible apply State.putTimers_kept | with_reducible apply State.trayFoundEmpty_kept
    | with_reducible apply State.pick_kept | split

theorem State.expireRelease_kept {a s : State} (h1 : Handle) (h : Keeps a s) :
    Keeps a (s.expireRelease h1) :=
  h.same (by simp) (by simp) (by simp) (by simp) (by simp)

theorem State.expireLate_kept {a s : State} (h1 : Handle) (h : Keeps a s) :
    Keeps a (s.expireLate h1) :=
  h.same (by simp) (by simp) (by simp) (by simp) (by simp)

theorem State.takeGrace_kept {a s : State} (h : Keeps a s) : Keeps a s.takeGrace := by
  unfold State.takeGrace
  split
  · next hs => exact State.expireGrace_kept h hs
  · exact h.runSame _ rfl

theorem State.writeWord_kept {a s : State} (a1 : Nat) (w : Word) (h : Keeps a s) :
    Keeps a (s.writeWord a1 w) :=
  h.same (by simp) (by simp) (by simp) (by simp) (by simp)

theorem State.countWritten_kept {a s : State} (b : LogBody) (h : Keeps a s) :
    Keeps a (s.countWritten b) := by
  unfold State.countWritten
  repeat' first | assumption | with_reducible apply Keeps.runSame | rfl | split

theorem State.releaseSlot_kept {a s : State} (b : LogBody) (h : Keeps a s) :
    Keeps a (s.releaseSlot b) := by
  unfold State.releaseSlot
  repeat' first | assumption | with_reducible apply State.ask_kept | split

theorem State.writeAccepted_kept {a s : State} (c : Configuration) (h : Keeps a s) :
    Keeps a (s.writeAccepted c) :=
  h.same (by simp) (by simp) (by simp) (by simp) (by simp)

theorem State.loadCommand_kept {a s : State} (c : Configuration) (code : Option CommandCode) (h : Keeps a s) :
    Keeps a (s.loadCommand c code) := h.runSame _ rfl rfl (by simp)

theorem State.refuseState_kept {a s : State} (h : Keeps a s) :
    Keeps a (s.refuseState) := by
  unfold State.refuseState
  repeat' first | assumption | with_reducible apply State.finish_kept

theorem State.refuseOperand_kept {a s : State} (h : Keeps a s) :
    Keeps a (s.refuseOperand) := by
  unfold State.refuseOperand
  repeat' first | assumption | with_reducible apply State.finish_kept

theorem State.redundant_kept {a s : State} (h : Keeps a s) :
    Keeps a (s.redundant) := by
  unfold State.redundant
  repeat' first | assumption | with_reducible apply State.finish_kept

theorem State.succeed_kept {a s : State} (h : Keeps a s) :
    Keeps a (s.succeed) := by
  unfold State.succeed
  repeat' first | assumption | with_reducible apply State.finish_kept

theorem State.runStop_kept {a s : State} (w : Word) (h : Keeps a s) : Keeps a (State.runStop w s) := by
  unfold State.runStop
  split
  · exact State.redundant_kept h
  · next hs => exact State.enterDraining_kept _ _ h (by simp [hs]) (by simp [hs]) (by simp [hs])
  · split
    · exact State.examineDrain_kept (State.endChange_kept _ h)
    · exact h
  all_goals exact State.refuseState_kept h

theorem State.runHalt_kept {a s : State} (w1 : Word) (h : Keeps a s) :
    Keeps a (State.runHalt w1 s) := by
  unfold State.runHalt
  repeat'
    first
    | assumption | with_reducible apply State.report_kept | with_reducible apply State.succeed_kept
    | with_reducible apply State.redundant_kept | split

theorem State.runPauseFeed_kept {a s : State} (w1 : Word) (h : Keeps a s) :
    Keeps a (State.runPauseFeed w1 s) := by
  unfold State.runPauseFeed
  repeat'
    first
    | assumption | with_reducible apply State.redundant_kept | with_reducible apply State.setHolds_kept
    | with_reducible apply State.succeed_kept | split

theorem State.runResumeFeed_kept {a s : State} (w1 : Word) (h : Keeps a s) :
    Keeps a (State.runResumeFeed w1 s) := by
  unfold State.runResumeFeed
  repeat'
    first
    | assumption | with_reducible apply State.setHolds_kept | with_reducible apply State.succeed_kept
    | with_reducible apply State.evaluate_kept | with_reducible apply State.redundant_kept | split

theorem State.runChangeSpeed_kept {a s : State} (operand : Word) (h : Keeps a s) :
    Keeps a (State.runChangeSpeed operand s) := by
  unfold State.runChangeSpeed
  split
  · exact State.refuseState_kept h
  · next hs =>
    have hr : s.run.state = .running := by simpa using hs
    split
    · exact State.refuseOperand_kept h
    · dsimp only
      split
      · exact State.redundant_kept h
      · exact State.succeed_kept (State.enterDraining_kept _ _ h (by simp [hr]) (by simp [hr]) (by simp [hr]))

theorem State.resumeRun_kept {a s : State} (h : Keeps a s) (h1 : s.run.state ≠ .inactive)
    (h2 : s.run.state ≠ .idle) (h3 : s.run.state ≠ .clearing) : Keeps a s.resumeRun :=
  State.examineSet_kept (State.evaluate_kept (State.succeed_kept ((State.endChange_kept _ h).runFrom _ (by simp) (by simpa [State.endChange])
    (by simpa [State.endChange]) (by simpa [State.endChange]))))

theorem State.commandBack_kept {a s : State} (h : Keeps a s) : Keeps a s.commandBack := by
  unfold State.commandBack
  exact (h.runSame { s.run with changeStatus := .returning } rfl).driveTo _ fun _ => Drive.relockTo_sound _ _ _ _

theorem State.runCancelSpeedChange_kept {a s : State} (w : Word) (h : Keeps a s) :
    Keeps a (State.runCancelSpeedChange w s) := by
  unfold State.runCancelSpeedChange
  split
  · exact State.refuseState_kept h
  · next hs =>
    have hr : s.run.state = .draining ∨ s.run.state = .respeed := by
      by_cases h1 : s.run.state = .draining
      · exact .inl h1
      · exact .inr (by_contra fun h2 => hs ⟨h1, h2⟩)
    split
    · exact State.resumeRun_kept h (by rcases hr with e | e <;> simp [e]) (by rcases hr with e | e <;> simp [e])
        (by rcases hr with e | e <;> simp [e])
    · exact State.commandBack_kept h
    all_goals exact State.finish_kept _ _ h

theorem State.runClear_kept {a s : State} (w : Word) (h : Keeps a s) : Keeps a (State.runClear w s) := by
  unfold State.runClear
  split
  · exact State.refuseState_kept h
  · next hc =>
    split
    · exact State.finish_kept _ _ h
    · exact State.carryOutClear_kept h (fun e => hc (by simp [State.clearAllowed, e]))

theorem State.runWithdraw_kept {a s : State} (operand : Word) (h : Keeps a s) :
    Keeps a (State.runWithdraw operand s) := by
  unfold State.runWithdraw
  dsimp only
  repeat'
    first
    | assumption | with_reducible apply State.refuseOperand_kept | with_reducible apply State.withdrawFrom_kept
    | with_reducible apply State.redundant_kept | with_reducible apply State.breakCopy_kept
    | with_reducible apply State.finish_kept | split

theorem State.runReleaseBuffer_kept {a s : State} (operand : Word) (h : Keeps a s) :
    Keeps a (State.runReleaseBuffer operand s) := by
  unfold State.runReleaseBuffer
  repeat'
    first
    | assumption | with_reducible apply State.refuseOperand_kept | with_reducible apply State.finish_kept
    | with_reducible apply State.freeBuffer_kept | with_reducible apply State.succeed_kept | split

theorem State.runReclaimBuffer_kept {a s : State} (operand : Word) (h : Keeps a s) :
    Keeps a (State.runReclaimBuffer operand s) := by
  unfold State.runReclaimBuffer
  repeat'
    first
    | assumption | with_reducible apply State.refuseOperand_kept | with_reducible apply State.freeBuffer_kept
    | with_reducible apply State.succeed_kept | with_reducible apply State.finish_kept | split

theorem State.runSelectStacker_kept {a s : State} (operand : Word) (h : Keeps a s) :
    Keeps a (State.runSelectStacker operand s) := by
  unfold State.runSelectStacker
  repeat'
    first
    | assumption | with_reducible apply State.setOutput_kept | with_reducible apply State.succeed_kept
    | with_reducible apply State.refuseOperand_kept | split

end Sys2Proof.Machine
end

