-- ==== Sys2Proof/Laws/Memory.lean ====
section
/-! SUPPORT. The laws of the statement memory: every write keeps the canonical form, a read after a write gives the byte
written, and every other address stands. -/

namespace Sys2Proof.Machine

/-- Below the addresses of a canonical memory every byte is blank. -/
theorem Memory.read_below {b a : Nat} {m : List Host.Cell} (h : Memory.wfAbove b m = true) (hab : a < b) :
    Memory.read m a = Memory.blank := by
  induction m generalizing b with
  | nil => rfl
  | cons c m ih =>
    obtain ⟨k, v⟩ := c
    simp only [Memory.wfAbove, Bool.and_eq_true, decide_eq_true_eq] at h
    simp only [Memory.read]
    rw [if_neg (by omega)]
    exact ih h.2 (by omega)

/-- A canonical memory above a bound is canonical above every lower one. -/
theorem Memory.wfAbove_mono {b b' : Nat} {m : List Host.Cell} (h : Memory.wfAbove b m = true) (hb : b' ≤ b) :
    Memory.wfAbove b' m = true := by
  cases m with
  | nil => rfl
  | cons c m =>
    obtain ⟨k, v⟩ := c
    simp only [Memory.wfAbove, Bool.and_eq_true, decide_eq_true_eq] at h ⊢
    exact ⟨⟨by omega, h.1.2⟩, h.2⟩

/-- A write of one byte keeps the canonical form. -/
theorem Memory.wfAbove_write {b a : Nat} {v : Byte} {m : List Host.Cell} (h : Memory.wfAbove b m = true)
    (hb : b ≤ a) : Memory.wfAbove b (Memory.write m a v) = true := by
  induction m generalizing b with
  | nil =>
    simp only [Memory.write]
    split
    · rfl
    · simp [Memory.wfAbove, *]
  | cons c m ih =>
    obtain ⟨k, w⟩ := c
    have h' := h
    simp only [Memory.wfAbove, Bool.and_eq_true, decide_eq_true_eq] at h
    obtain ⟨⟨hbk, hw⟩, hm⟩ := h
    simp only [Memory.write]
    split
    · split
      · exact h'
      · next hak hv =>
        simp only [Memory.wfAbove, Bool.and_eq_true, decide_eq_true_eq]
        exact ⟨⟨hb, hv⟩, ⟨by omega, hw⟩, hm⟩
    · split
      · subst_vars
        split
        · exact Memory.wfAbove_mono hm (by omega)
        · next hv =>
          simp only [Memory.wfAbove, Bool.and_eq_true, decide_eq_true_eq]
          exact ⟨⟨hbk, hv⟩, hm⟩
      · simp only [Memory.wfAbove, Bool.and_eq_true, decide_eq_true_eq]
        exact ⟨⟨hbk, hw⟩, ih hm (by omega)⟩

/-- What a byte reads as after a write of one byte. -/
theorem Memory.read_write_above {b a x : Nat} {v : Byte} {m : List Host.Cell} (h : Memory.wfAbove b m = true) :
    Memory.read (Memory.write m a v) x = if x = a then v else Memory.read m x := by
  induction m generalizing b with
  | nil =>
    simp only [Memory.write]
    by_cases hx : x = a
    · rw [if_pos hx]
      split
      · next hv => exact hv.symm
      · simp [Memory.read, hx]
    · rw [if_neg hx]
      split
      · rfl
      · simp [Memory.read, Ne.symm hx]
  | cons c m ih =>
    obtain ⟨k, w⟩ := c
    simp only [Memory.wfAbove, Bool.and_eq_true, decide_eq_true_eq] at h
    obtain ⟨⟨-, hw⟩, hm⟩ := h
    simp only [Memory.write]
    split
    · next hak =>
      have below : ∀ y, y < k → Memory.read ((k, w) :: m) y = Memory.blank := fun y hy => by
        simp only [Memory.read]
        rw [if_neg (by omega)]
        exact Memory.read_below hm (by omega)
      split
      · next hv =>
        by_cases hx : x = a
        · rw [if_pos hx, hx, below a hak, hv]
        · rw [if_neg hx]
      · by_cases hx : x = a
        · simp [Memory.read, hx]
        · rw [if_neg hx]
          show (if a = x then v else Memory.read ((k, w) :: m) x) = _
          rw [if_neg (Ne.symm hx)]
    · split
      · subst_vars
        by_cases hx : x = k
        · subst hx
          split
          · rw [if_pos rfl, Memory.read_below hm (by omega)]
            exact (by assumption : v = Memory.blank).symm
          · simp [Memory.read]
        · rw [if_neg hx]
          split
          · simp [Memory.read, Ne.symm hx]
          · simp [Memory.read, Ne.symm hx]
      · simp only [Memory.read]
        by_cases hk : k = x
        · simp only [hk, if_true]
          rw [if_neg (by omega)]
        · simp only [hk, if_false]
          exact ih hm

/-- A read after a write of a byte to the same address gives the byte, and every other address reads as before. -/
theorem Memory.read_write {m : List Host.Cell} (h : Memory.wf m = true) (a : Nat) (v : Byte) (x : Nat) :
    Memory.read (Memory.write m a v) x = if x = a then v else Memory.read m x :=
  Memory.read_write_above h

/-- A write of one byte keeps the canonical form. -/
theorem Memory.wf_write {m : List Host.Cell} (h : Memory.wf m = true) (a : Nat) (v : Byte) :
    Memory.wf (Memory.write m a v) = true :=
  Memory.wfAbove_write h (Nat.zero_le a)

/-- Writes of several bytes keep the canonical form. -/
theorem Memory.wf_writeAll {m : List Host.Cell} (h : Memory.wf m = true) (cs : List Host.Cell) :
    Memory.wf (Memory.writeAll m cs) = true := by
  induction cs generalizing m with
  | nil => exact h
  | cons c cs ih => exact ih (Memory.wf_write h c.1 c.2)

/-- A write of a word keeps the canonical form. -/
theorem Memory.wf_writeWord {m : List Host.Cell} (h : Memory.wf m = true) (a : Nat) (w : Word) :
    Memory.wf (Memory.writeWord m a w) = true := Memory.wf_writeAll h _

/-- An address that no written byte has reads as before. -/
theorem Memory.read_writeAll_other {m : List Host.Cell} (h : Memory.wf m = true) (cs : List Host.Cell) (x : Nat)
    (hx : ∀ c ∈ cs, c.1 ≠ x) : Memory.read (Memory.writeAll m cs) x = Memory.read m x := by
  induction cs generalizing m with
  | nil => rfl
  | cons c cs ih =>
    show Memory.read (Memory.writeAll (Memory.write m c.1 c.2) cs) x = _
    rw [ih (Memory.wf_write h _ _) (fun d hd => hx d (List.mem_cons_of_mem _ hd)), Memory.read_write h,
      if_neg (Ne.symm (hx c List.mem_cons_self))]

/-- Bytes laid out from an address up lie at that address and above. -/
theorem layOut_ge {a : Nat} {l : List Byte} {c : Host.Cell} (h : c ∈ layOut a l) :
    a ≤ c.1 ∧ c.1 < a + l.length := by
  induction l generalizing a with
  | nil => cases h
  | cons v vs ih =>
    simp only [layOut, List.mem_cons] at h
    rcases h with h | h
    · subst h
      simp
    · have := ih h
      simp only [List.length_cons]
      omega

/-- A byte of a list laid out from an address reads as written. -/
theorem Memory.read_layOut {m : List Host.Cell} (h : Memory.wf m = true) (a : Nat) (l : List Byte) (i : Nat)
    (hi : i < l.length) : Memory.read (Memory.writeAll m (layOut a l)) (a + i) = l[i] := by
  induction l generalizing m a i with
  | nil => cases hi
  | cons v vs ih =>
    show Memory.read (Memory.writeAll (Memory.write m a v) (layOut (a + 1) vs)) (a + i) = _
    cases i with
    | zero =>
      rw [Memory.read_writeAll_other (Memory.wf_write h a v) _ _ (fun c hc => by have := layOut_ge hc; omega),
        Memory.read_write h]
      simp
    | succ i =>
      have := ih (Memory.wf_write h a v) (a + 1) i (by simpa using hi)
      rw [show a + (i + 1) = a + 1 + i by omega, this]
      rfl

/-- A word write leaves every byte outside its four as it was. -/
theorem Memory.read_writeWord_other {m : List Host.Cell} (h : Memory.wf m = true) (a : Nat) (w : Word) (x : Nat)
    (hx : x < a ∨ a + 4 ≤ x) : Memory.read (Memory.writeWord m a w) x = Memory.read m x :=
  Memory.read_writeAll_other h _ _ (fun c hc => by
    have := layOut_ge hc
    simp only [toBytes, List.length_cons, List.length_nil] at this
    omega)

end Sys2Proof.Machine
end

