-- ==== Sys2Proof/Laws/Ops.lean ====
section
/-! SUPPORT. What the shared operations do, said once: frames, tables, placements, memory words, records,
    stops and the
read of a command. -/

namespace Sys2Proof.Machine
open Sys2Proof

/-! ## Frames -/

/-- Every part stands. -/
theorem KeepsBut.refl {L : List Block} {s : State} : KeepsBut L s s := by
  intro b hb
  cases b <;> rfl

/-- Frames compose. -/
theorem KeepsBut.trans {L : List Block} {s u v : State} (h : KeepsBut L s u) (k : KeepsBut L u v) :
    KeepsBut L s v := by
  intro b hb
  have h := h b hb
  have k := k b hb
  cases b <;> exact Eq.trans k h

/-- A frame holds with more parts allowed to change. -/
theorem KeepsBut.mono {L M : List Block} {s t : State} (h : KeepsBut L s t) (hL : ∀ b ∈ L, b ∈ M) : KeepsBut M s t :=
    fun b hb => h b (fun hh => hb (hL b hh))

/-- A grant of the M-port acts on the junction alone. -/
theorem KeepsBut.grant {L : List Block} {s v : State} (h : KeepsBut L s v) (hL : .junction ∈ L) :
    KeepsBut L s v.grant := by
  intro b hb
  have := h b hb
  cases b <;> first | exact absurd hL hb | exact this

/-! ## Tables -/

theorem put_same {α : Type} {n : Nat} (v : Vector α n) (i : Fin n) (x : α) : (put v i x)[i] = x := by simp [put]

theorem put_other {α : Type} {n : Nat} (v : Vector α n) (i j : Fin n) (x : α) (h : j ≠ i) :
    (put v i x)[j] = v[j] := by
  simp only [put, Fin.getElem_fin]
  rw [Vector.getElem_set_ne]
  intro e; exact h (Fin.ext e.symm)

theorem tabulate_get {α : Type} {n : Nat} (f : Fin n → α) (i : Fin n) : (tabulate n f)[i] = f i := by
  show (tabulate n f)[i.val] = f i
  simp only [tabulate, Vector.getElem_mk, List.getElem_toArray]
  induction n with
  | zero => exact i.elim0
  | succ n ih =>
    refine Fin.cases ?_ (fun j => ?_) i
    · simp [tabulateList]
    · simpa [tabulateList] using ih (fun i => f i.succ) j

theorem tabulateList_eq {α : Type} (n : Nat) (f : Fin n → α) : tabulateList n f = List.ofFn f := by
  induction n with
  | zero => rfl
  | succ n ih => simp [tabulateList, ih, List.ofFn_succ]

theorem put_put {α : Type} {n : Nat} (v : Vector α n) (i : Fin n) (a b : α) : put (put v i a) i b = put v i b := by
  simp [put]

/-! ## Sheets and sensors -/

theorem Sensor.index_ne {x y : Sensor} (h : x ≠ y) :
    x.index ≠ y.index := by cases x <;> cases y <;> first | exact absurd rfl h | decide

theorem State.sensor_putSensor (s : State) (x r) : (s.putSensor x r).sensor x = r := put_same _ _ _

theorem State.sensor_putSensor_other (s : State) (x y r) (h : y ≠ x) : (s.putSensor x r).sensor y = s.sensor y :=
    put_other _ _ _ _ (Sensor.index_ne h)

theorem State.putSensor_putSensor (s : State) (x a b) : (s.putSensor x a).putSensor x b = s.putSensor x b := by
  unfold State.putSensor State.setTracker
  simp [put_put]

theorem State.sensor_congr {s t : State} (h : t.tracker.sensors = s.tracker.sensors) (x) :
    t.sensor x = s.sensor x := by simp [State.sensor, h]

theorem State.sheet_putSheet (s : State) (h x) : (s.putSheet h x).sheet h = x := put_same _ _ _

theorem State.sheet_putSheet_other (s : State) (h k x) (hk : k ≠ h) : (s.putSheet h x).sheet k = s.sheet k :=
    put_other _ _ _ _ hk

theorem State.modifySheet_some (s : State) (h f sh) (hs : s.sheet h = some sh) :
    s.modifySheet h f = s.putSheet h (some (f sh)) := by
  unfold State.modifySheet; rw [hs]; rfl

theorem State.sheet_congr {s t : State} (h : t.tracker = s.tracker) (k : Handle) : t.sheet k = s.sheet k := by
  simp [State.sheet, h]

/-- What acts on the tracker alone and keeps the timing set and the pulses. -/
structure TrackOnly (s t : State) : Prop where
  keeps : KeepsBut [.tracker] s t
  fc : t.freeCount = s.freeCount
  timing : t.tracker.timing = s.tracker.timing

theorem TrackOnly.trans {s t u} (h : TrackOnly s t) (k : TrackOnly t u) : TrackOnly s u := ⟨KeepsBut.trans h.1 k.1,
    k.2.trans h.2, k.3.trans h.3⟩

theorem TrackOnly.refl (s) : TrackOnly s s := ⟨KeepsBut.refl, rfl, rfl⟩

theorem TrackOnly.sheet (s h x) : TrackOnly s (s.putSheet h x) := by
  refine ⟨?_, rfl, rfl⟩
  intro b hb
  cases b <;> first | (exfalso; simp at hb; done) | exact rfl

theorem TrackOnly.sensor (s h x) : TrackOnly s (s.putSensor h x) := by
  refine ⟨?_, rfl, rfl⟩
  intro b hb
  cases b <;> first | (exfalso; simp at hb; done) | exact rfl

/-- The placement of a sheet's next expectation (R8, R81): the sheet's stretch and reference,
    and one expectation more. -/
theorem State.place_spec (s : State) (h : Handle) (st : Stretch) (sh : Sheet) (t : TimingSet) (hs :
    s.sheet h = some sh) (ht : s.tracker.timing = some t) :
  TrackOnly s (s.place h st) ∧ (s.place h st).sheet h = some { sh with leg := some st, reference := s.tick } ∧ (∀ k, k ≠ h → (s.place h st).sheet k = s.sheet k)
  ∧ (s.place h st).sensor st.dest = { s.sensor st.dest with expectations := insertByOpen (expectationOf (.sheet h) (t.time st) (t.coverAt sh.plan.media st) s.tick) (s.sensor st.dest).expectations }
  ∧ (∀ y, y ≠ st.dest → (s.place h st).sensor y = s.sensor y) := by
  have e : s.place h st = (s.putSheet h (some { sh with leg := some st, reference := s.tick })).addExpectation st.dest
      (expectationOf (.sheet h) (t.time st) (t.coverAt sh.plan.media st) s.tick) := by
    unfold State.place; rw [hs, ht]; dsimp only; rw [State.modifySheet_some _ _ _ _ hs]
  rw [e]
  refine ⟨(TrackOnly.sheet _ _ _).trans (TrackOnly.sensor _ _ _), State.sheet_putSheet s _ _,
      fun k hk => State.sheet_putSheet_other s _ _ _ hk, State.sensor_putSensor _ _ _, fun y hy => ?_⟩
  exact State.sensor_putSensor_other _ _ _ _ hy

/-! ## Memory words -/

theorem littleEndian_toBytes (w : Word) : littleEndian (toBytes 4 w.toNat) = w.toNat := by
  have := w.isLt
  simp only [toBytes, littleEndian, BitVec.toNat_ofNat]
  omega

theorem Memory.bytes_of_read (m : List Host.Cell) (a : Nat) (l : List Byte) (h : ∀ i (hi : i < l.length),
    Memory.read m (a + i) = l[i]) : Memory.bytes m a l.length = l := by
  induction l generalizing a with
  | nil => rfl
  | cons v l ih =>
    show Memory.read m a :: Memory.bytes m (a + 1) l.length = _
    rw [ih (a+1) (fun i hi => by have := h (i+1) (by simpa using hi); rw [show a + (i+1) = a + 1 + i by omega] at this; simpa using this)]
    have := h 0 (by simp)
    simp at this; rw [this]

theorem Memory.word_writeWord {m : List Host.Cell} (h : Memory.wf m = true) (a : Nat) (w : Word) :
    Memory.word (Memory.writeWord m a w) a = w := by
  unfold Memory.word Memory.wordNat
  have := Memory.bytes_of_read (Memory.writeWord m a w) a (toBytes 4 w.toNat) (fun i hi => Memory.read_layOut h a _ i hi)
  rw [show (toBytes 4 w.toNat).length = 4 from rfl] at this
  rw [this, littleEndian_toBytes]
  simp

theorem Memory.word_congr {m n : List Host.Cell} {a : Nat} (h : ∀ x,
    a ≤ x → x < a + 4 → Memory.read n x = Memory.read m x) : Memory.word n a = Memory.word m a := by
  unfold Memory.word Memory.wordNat Memory.bytes Memory.bytes Memory.bytes Memory.bytes
  rw [h a (by omega) (by omega), h (a+1) (by omega) (by omega), h (a+1+1) (by omega) (by omega),
      h (a+1+1+1) (by omega) (by omega)]
  rfl

theorem Memory.writeWord_only {m : List Host.Cell} (h : Memory.wf m = true) (a : Nat) (w : Word) :
    OnlyWrites a (a + 4) m (Memory.writeWord m a w) := fun x hx => Memory.read_writeWord_other h a w x hx

/-! ## Records and admission -/

/-- With no write in flight the pending list holds the records that wait (R168). -/
theorem LogWriter.pendingList_none (l : LogWriter) (h : l.inFlight = none) : l.pendingList = l.waiting := by
  simp [LogWriter.pendingList, h]

/-- The record in flight is the first of the pending list (R168). -/
theorem LogWriter.pendingList_some (l : LogWriter) {i : Word} {r : LogRecord} (h : l.inFlight = some (i, r)) :
    l.pendingList = r :: l.waiting := by
  simp [LogWriter.pendingList, h]

/-- A record handed over while another is being written waits (R170). -/
theorem State.record_waits (s : State) (b) (hb : b.isEvent = false) (hf : s.log.inFlight.isSome = true) :
   s.record b = s.setLog { s.log with waiting := s.log.waiting ++ [⟨s.tick, b⟩] } := by
  unfold State.record State.handOver
  rw [hb]
  simp only [Bool.false_and, Bool.false_eq_true, if_false]
  unfold State.takeRecord
  cases h : s.log.inFlight with
  | none => rw [h] at hf; simp at hf
  | some x => simp

/-- Outside RUNNING an evaluation of admission gives NOT RUNNING (R65). -/
theorem State.evaluate_notRunning (s : State) (h : s.run.state ≠ .running) :
    s.evaluate = s.setWaitReason .notRunning := by
  unfold State.evaluate State.evaluateTimes State.evaluation
  split
  · next r heq =>
    split at heq
    · injection heq with heq; rw [heq]
    · rw [if_neg (by tauto)] at heq; injection heq with heq; rw [heq]
  · next heq =>
    split at heq
    · simp at heq
    · rw [if_neg (by tauto)] at heq; simp at heq

/-! ## Stops -/

/-- What the withdrawals and records of a stop leave alone. -/
structure StopKeeps (a s : State) : Prop where
  tracker : s.tracker = a.tracker
  set : s.output.set = a.output.set
  p : s.attention.p = a.attention.p
  lp : s.attention.lineP = a.attention.lineP
  fin : ∀ w, .commandFinish w ∈ s.junction.agentQueue → .commandFinish w ∈ a.junction.agentQueue
  run : s.run = a.run
  sched : s.scheduler = a.scheduler
  drive : s.drive = a.drive
  tick : s.tick = a.tick
  config : s.config = a.config
  lines : s.lines = a.lines
  mem : s.memory = a.memory
  pend : s.pending = a.pending
  latch : s.junction.rest = a.junction.rest

theorem StopKeeps.refl (a) : StopKeeps a a := ⟨rfl, rfl, rfl, rfl, fun _ => id, rfl, rfl, rfl, rfl, rfl, rfl, rfl,
    rfl, rfl⟩

theorem StopKeeps.trans {a b c} (h : StopKeeps a b) (k : StopKeeps b c) : StopKeeps a c :=
  ⟨k.1.trans h.1, k.2.trans h.2, k.3.trans h.3, k.4.trans h.4, fun w x => h.5 w (k.5 w x), k.6.trans h.6,
      k.7.trans h.7, k.8.trans h.8, k.9.trans h.9, k.10.trans h.10, k.11.trans h.11, k.12.trans h.12,
      k.13.trans h.13, k.14.trans h.14⟩

theorem StopKeeps.raiseE (s c) : StopKeeps s (s.raiseE c) := ⟨rfl, rfl, rfl, rfl, fun _ => id, rfl, rfl, rfl, rfl,
    rfl, rfl, rfl, rfl, rfl⟩

theorem StopKeeps.setLog (s c) : StopKeeps s (s.setLog c) := ⟨rfl, rfl, rfl, rfl, fun _ => id, rfl, rfl, rfl, rfl,
    rfl, rfl, rfl, rfl, rfl⟩

theorem StopKeeps.setPlan (s c) : StopKeeps s (s.setPlan c) := ⟨rfl, rfl, rfl, rfl, fun _ => id, rfl, rfl, rfl, rfl,
    rfl, rfl, rfl, rfl, rfl⟩

theorem StopKeeps.setBuffers (s c) : StopKeeps s (s.setBuffers c) := ⟨rfl, rfl, rfl, rfl, fun _ => id, rfl, rfl, rfl,
    rfl, rfl, rfl, rfl, rfl, rfl⟩

theorem StopKeeps.setOutput (s c) (h : c.set = s.output.set) : StopKeeps s (s.setOutput c) := ⟨rfl, h, rfl, rfl,
    fun _ => id, rfl, rfl, rfl, rfl, rfl, rfl, rfl, rfl, rfl⟩

theorem StopKeeps.setBroken (s : State) (l) : StopKeeps s (s.setOutput { s.output with broken := l }) := StopKeeps.setOutput _ _ rfl

theorem StopKeeps.ask (s i r) : StopKeeps s (s.ask (.logWrite i r)) := ⟨rfl, rfl, rfl, rfl,
    fun w h => by simpa [State.ask] using h, rfl, rfl, rfl, rfl, rfl, rfl, rfl, rfl, rfl⟩

theorem StopKeeps.discard (s : State) : StopKeeps s s.discardEvent := by
  unfold State.discardEvent; split
  · exact StopKeeps.refl _
  · exact (StopKeeps.setLog _ _).trans (StopKeeps.raiseE _ _)

theorem StopKeeps.take (s : State) : StopKeeps s s.takeRecord := by
  unfold State.takeRecord
  split
  · exact StopKeeps.refl _
  · dsimp only
    have h1 : ∀ (x : LogWriter) (b : Bool), StopKeeps s (if b then (s.setLog x).discardEvent else s.setLog x) := by
      intro x b; split
      · exact (StopKeeps.setLog _ _).trans (StopKeeps.discard _)
      · exact StopKeeps.setLog _ _
    split
    · exact h1 _ _
    · exact (h1 _ _).trans (StopKeeps.ask _ _ _)

theorem StopKeeps.hand (s : State) (t b) : StopKeeps s (s.handOver t b) := by
  unfold State.handOver
  split
  · exact StopKeeps.discard _
  · exact (StopKeeps.setLog _ _).trans (StopKeeps.take _)

theorem StopKeeps.record (s : State) (b) : StopKeeps s (s.record b) := StopKeeps.hand _ _ _

theorem StopKeeps.drop (s : State) (b) : StopKeeps s (s.dropReference false b) := by
  unfold State.dropReference
  split
  · exact StopKeeps.refl _
  · dsimp only; split
    · exact StopKeeps.setBuffers _ _
    · exact StopKeeps.refl _

theorem StopKeeps.disposeAll (s : State) (l) : StopKeeps s (s.disposeAll l) := by
  induction l generalizing s with
  | nil => exact StopKeeps.refl _
  | cons e es ih => exact (((StopKeeps.drop _ _).trans (StopKeeps.drop _ _)).trans (StopKeeps.record _ _)).trans (ih _)

theorem StopKeeps.withdrawCopy (s : State) (c) : StopKeeps s (s.withdrawCopy c) :=
    (StopKeeps.setPlan _ _).trans (StopKeeps.disposeAll _ _)

theorem StopKeeps.top (s : State) (c k) : StopKeeps s (s.topNotice c k) := by
  unfold State.topNotice
  split
  · split
    · exact (StopKeeps.record _ _).trans (StopKeeps.setOutput _ _ (by cases k <;> rfl))
    · exact StopKeeps.refl _
  · exact StopKeeps.refl _

theorem StopKeeps.examineCopy (s : State) (c) (hs : s.run.state = .stopping) : StopKeeps s (s.examineCopy c) := by
  unfold State.examineCopy
  split
  · exact StopKeeps.refl _
  · next r _ =>
    split
    · exact StopKeeps.refl _
    · refine StopKeeps.trans (b := s.setOutput { s.output with broken := s.output.broken.filter (fun x => !(x.copy == c)) }) (StopKeeps.setBroken s _) ?_
      unfold State.resolved
      split
      · unfold State.examineDump
        rw [if_neg]
        · exact StopKeeps.refl _
        · simp [State.mayDump, hs]
      · exact (StopKeeps.top _ _ _).trans (StopKeeps.top _ _ _)

theorem StopKeeps.withdrawBroken (s : State) (c) (hs : s.run.state = .stopping) :
    StopKeeps s (s.withdrawBroken c) := by
  unfold State.withdrawBroken
  have h1 := StopKeeps.withdrawCopy s c
  refine h1.trans ((StopKeeps.setBroken (s.withdrawCopy c) _).trans (StopKeeps.examineCopy _ _ ?_))
  show (s.withdrawCopy c).run.state = _
  rw [h1.run]; exact hs

theorem StopKeeps.rewithdrawAll (s : State) (l) (hs : s.run.state = .stopping) : StopKeeps s (s.rewithdrawAll l) := by
  induction l generalizing s with
  | nil => exact StopKeeps.refl _
  | cons e es ih =>
    have h1 : StopKeeps s (s.rewithdraw e.copy) := by
      unfold State.rewithdraw
      split
      · exact StopKeeps.refl _
      · exact (StopKeeps.setBroken s _).trans (StopKeeps.withdrawBroken _ _ hs)
    exact h1.trans (ih _ (by rw [h1.run]; exact hs))

/-- The SCHEDULED sheets of a list are State.freeScheduled_spec. -/
structure SheetsFreed (a s : State) (hs : List Handle) : Prop where
  sheets : ∀ h, s.sheet h = if h ∈ hs then none else a.sheet h
  sensors : s.tracker.sensors = a.tracker.sensors
  timing : s.tracker.timing = a.tracker.timing
  keeps : KeepsBut [.scheduler, .tracker] a s

theorem State.freeScheduled_spec (s : State) (l) : SheetsFreed s (s.freeScheduled l) l := by
  induction l generalizing s with
  | nil => exact ⟨by simp [State.freeScheduled], rfl, rfl, KeepsBut.refl⟩
  | cons h hs ih =>
    have k := ih ((s.putSheet h none).putTimers h SheetTimers.none)
    refine ⟨?_, k.sensors, k.timing, KeepsBut.trans ?_ k.keeps⟩
    · intro j
      rw [State.freeScheduled, k.sheets]
      by_cases hj : j = h
      · subst hj
        simp only [List.mem_cons, true_or, if_true]
        split
        · rfl
        · exact put_same _ _ _
      · simp only [List.mem_cons, hj, false_or]
        split
        · rfl
        · exact put_other _ _ _ _ hj
    · intro b hb; cases b <;> first | (simp at hb; done) | rfl

theorem State.mem_scheduled (s : State) (h : Handle) : h ∈ s.scheduled.map (fun p => p.1) ↔ ∃ sh, s.sheet h = some sh
    ∧ sh.state = .scheduled := by
  simp only [State.scheduled, List.mem_map, List.mem_filterMap, indices, tabulateList_eq]
  constructor
  · rintro ⟨⟨a, b⟩, ⟨c, _, hc⟩, rfl⟩
    split at hc
    · next sh hsh =>
      split at hc
      · next hst => cases hc; exact ⟨_, hsh, hst⟩
      · cases hc
    · cases hc
  · rintro ⟨sh, h1, h2⟩
    refine ⟨(h, sh), ⟨h, List.mem_ofFn.2 ⟨h, rfl⟩, ?_⟩, rfl⟩
    rw [h1]; simp [h2]

/-- A deschedule in STOPPING (R72). -/
structure Descheduling (a s : State) : Prop where
  sheets : ∀ h, s.sheet h = match a.sheet h with
        | some sh => if sh.state = .scheduled then none else some sh
        | none => none
  sensors : s.tracker.sensors = a.tracker.sensors
  timing : s.tracker.timing = a.tracker.timing
  set : s.output.set = a.output.set
  p : s.attention.p = a.attention.p
  lp : s.attention.lineP = a.attention.lineP
  fin : ∀ w, .commandFinish w ∈ s.junction.agentQueue → .commandFinish w ∈ a.junction.agentQueue
  run : s.run = a.run
  drive : s.drive = a.drive
  tick : s.tick = a.tick
  config : s.config = a.config
  lines : s.lines = a.lines
  mem : s.memory = a.memory
  pend : s.pending = a.pending
  rest : s.junction.rest = a.junction.rest

theorem State.deschedule_spec (s : State) (hs : s.run.state = .stopping) : Descheduling s s.deschedule := by
  unfold State.deschedule
  dsimp only
  have k := State.freeScheduled_spec s (s.scheduled.map (fun p => p.1))
  let f := s.freeScheduled (s.scheduled.map (fun p => p.1))
  have hr : f.run = s.run := k.keeps .run (by simp)
  have ho : f.output = s.output := k.keeps .output (by simp)
  have ha : f.attention = s.attention := k.keeps .attention (by simp)
  have hj : f.junction = s.junction := k.keeps .junction (by simp)
  have c := StopKeeps.rewithdrawAll ((f.setScheduler
    { f.scheduler with
      grid := f.scheduler.grid.map (fun g => g.release s.scheduled)
      admissionBounds := f.scheduler.pickBounds }).setPlan { f.plan with queue := returnEntries f.plan.queue (newestFirst (s.scheduled.map (fun p => p.2.plan))) }) (newestFirst (s.scheduled.map (fun p => p.2.plan))) (by show f.run.state = _; rw [hr]; exact hs)
  refine ⟨?_, ?_, ?_, ?_, ?_, ?_, ?_, ?_, ?_, ?_, ?_, ?_, ?_, ?_, ?_⟩
  · intro h
    have : State.sheet _ h = f.sheet h := congrArg (fun t : Tracker => t.sheets[h]) c.tracker
    refine this.trans ?_
    rw [k.sheets]
    by_cases hm : h ∈ s.scheduled.map (fun p => p.1)
    · rw [if_pos hm]
      obtain ⟨sh, e1, e2⟩ := (State.mem_scheduled s h).1 hm
      simp [e1, e2]
    · rw [if_neg hm]
      rw [State.mem_scheduled] at hm
      cases hsh : s.sheet h with
      | none => rfl
      | some sh =>
        have : sh.state ≠ .scheduled := fun e => hm ⟨sh, hsh, e⟩
        simp [this]
  · exact Eq.trans (congrArg Tracker.sensors c.tracker) k.sensors
  · exact Eq.trans (congrArg Tracker.timing c.tracker) k.timing
  · exact Eq.trans c.set (congrArg OutputUnit.set ho)
  · exact Eq.trans c.p (congrArg Attention.p ha)
  · exact Eq.trans c.lp (congrArg Attention.lineP ha)
  · intro w hw
    have := c.fin w hw
    have e : (f.junction).agentQueue = s.junction.agentQueue := congrArg Junction.agentQueue hj
    rw [← e]; exact this
  · exact Eq.trans c.run (hr)
  · exact Eq.trans c.drive (k.keeps .drive (by simp))
  · exact Eq.trans c.tick (k.keeps .tick (by simp))
  · exact Eq.trans c.config (k.keeps .config (by simp))
  · exact Eq.trans c.lines (k.keeps .lines (by simp))
  · exact Eq.trans c.mem (k.keeps .memory (by simp))
  · exact Eq.trans c.pend (k.keeps .pending (by simp))
  · exact Eq.trans c.latch (congrArg Junction.rest hj)

/-- What the finish of a waiting command leaves alone (R139). -/
structure FinishKeeps (a s : State) : Prop where
  state : s.run.state = a.run.state
  jam : s.run.jam = a.run.jam
  grace : s.run.graceDeadline = a.run.graceDeadline
  holds : s.run.holds = a.run.holds
  last : s.run.lastJam = a.run.lastJam
  out : s.run.outstanding = a.run.outstanding
  fin : a.run.running = none → (∀ w,
      .commandFinish w ∈ s.junction.agentQueue → .commandFinish w ∈ a.junction.agentQueue) ∧ s.run.running = none ∧
      s.run.command = a.run.command
  p : s.attention.p = a.attention.p
  lp : s.attention.lineP = a.attention.lineP
  rest : s.junction.rest = a.junction.rest
  keeps : KeepsBut [.run, .junction, .attention] a s

theorem FinishKeeps.refl (a) : FinishKeeps a a := ⟨rfl, rfl, rfl, rfl, rfl, rfl, fun h => ⟨fun _ => id, h, rfl⟩, rfl,
    rfl, rfl, KeepsBut.refl⟩

theorem FinishKeeps.trans {a b c} (h : FinishKeeps a b) (k : FinishKeeps b c) : FinishKeeps a c :=
  ⟨k.1.trans h.1, k.2.trans h.2, k.3.trans h.3, k.4.trans h.4, k.5.trans h.5, k.6.trans h.6,
   fun x => ⟨fun w y => (h.7 x).1 w ((k.7 (h.7 x).2.1).1 w y), (k.7 (h.7 x).2.1).2.1,
       (k.7 (h.7 x).2.1).2.2.trans (h.7 x).2.2⟩, k.8.trans h.8, k.9.trans h.9, k.10.trans h.10,
       KeepsBut.trans h.11 k.11⟩

theorem FinishKeeps.finishIf (s : State) (c r d) : FinishKeeps s (s.finishIf c r d) := by
  unfold State.finishIf
  split
  · unfold State.finish
    split
    · exact FinishKeeps.refl _
    · next r hr => exact ⟨rfl, rfl, rfl, rfl, rfl, rfl, fun h => by simp [h] at hr, rfl, rfl, rfl, by intro b hb; cases b <;> first | (simp at hb; done) | rfl⟩
  · exact FinishKeeps.refl _

theorem FinishKeeps.abort (s : State) (c) : FinishKeeps s (s.abortChange c) := by
  unfold State.abortChange
  split
  · exact ⟨rfl, rfl, rfl, rfl, rfl, rfl, fun h => ⟨fun _ => id, h, rfl⟩, rfl, rfl, rfl, by intro b hb; cases b <;> first | (simp at hb; done) | rfl⟩
  · exact FinishKeeps.refl _

/-- What the first stop cause taken leaves of the set, the sensors, the P summary and the commands. -/
structure StopTaken (u t : State) : Prop where
  set : t.output.set = u.output.set
  sensors : t.tracker.sensors = u.tracker.sensors
  p : t.attention.p = u.attention.p
  lp : t.attention.lineP = u.attention.lineP
  fin : u.run.running = none → ∀ w,
      .commandFinish w ∈ t.junction.agentQueue → .commandFinish w ∈ u.junction.agentQueue
  runn : u.run.running = none → t.run.running = none ∧ t.run.command = u.run.command
  rest : t.junction.rest = u.junction.rest

/-- The entry of a stop (R139). -/
theorem State.enterStop_spec (s : State) (r : Report) : StopTaken s (s.enterStop r) := by
  unfold State.enterStop
  dsimp only
  let s0 := s.setRun { s.run with state := .stopping, jam := some (r.jam s.tick), graceDeadline := some (s.graceFor r.cause) }
  have d := State.deschedule_spec s0.coast rfl
  let s1 := s0.coast.deschedule.discardGrid
  have e1 : s1 = (s0.coast.deschedule).discardGrid := rfl
  have f : FinishKeeps s1 ((s1.abortChange s.run.changing).failWaiting r.cause) :=
    (FinishKeeps.abort _ _).trans (((FinishKeeps.finishIf _ _ _ _).trans (FinishKeeps.finishIf _ _ _ _)).trans (FinishKeeps.finishIf _ _ _ _))
  have hrun : s1.run = s0.run := by show (s0.coast.deschedule).run = _; rw [d.run]; rfl
  have K : ∀ b, b ∉ [Block.run, .junction,
      .attention] → Block.same s1 ((s1.abortChange s.run.changing).failWaiting r.cause) b := f.keeps
  have htr : ((s1.abortChange s.run.changing).failWaiting r.cause).tracker = s0.coast.deschedule.tracker := K .tracker (by simp)
  constructor
  · have : ((s1.abortChange s.run.changing).failWaiting r.cause).output = s1.output := K .output (by simp)
    rw [this]; exact d.set
  · rw [htr]; exact d.sensors
  · rw [f.p]; exact d.p
  · rw [f.lp]; exact d.lp
  · intro h w hw
    have h1 : s1.run.running = none := by rw [hrun]; exact h
    exact d.fin w ((f.fin h1).1 w hw)
  · intro h
    have h1 : s1.run.running = none := by rw [hrun]; exact h
    refine ⟨(f.fin h1).2.1, ?_⟩
    rw [(f.fin h1).2.2, hrun]; rfl
  · rw [f.rest]; exact d.rest

/-- A stop cause in a run (R138). -/
theorem State.report_runs (s : State) (r : Report) (h : s.run.state.runs = true) : s.report r = s.enterStop r := by
  unfold State.report
  cases hs : s.run.state <;> simp [hs, RunState.runs] at h ⊢

theorem State.report_first (s : State) (r : Report) (h : s.run.state.runs = true) : StopTaken s (s.report r) := by
  rw [State.report_runs s r h]; exact State.enterStop_spec _ _

/-- A stop cause in STOPPING (R141). -/
theorem State.report_later (s : State) (r : Report) (h : s.run.state = .stopping) :
    s.report r = s.setRun (s.run.afterLater s.tick r) := by
  unfold State.report; rw [h]; rfl

/-- A stop cause in any other state has no effect (R138). -/
theorem State.report_none (s : State) (r : Report) (h : s.run.state ≠ .stopping) (h2 : s.run.state.runs = false) :
    s.report r = s := by
  unfold State.report
  cases hs : s.run.state <;> simp [hs, RunState.runs] at h h2 ⊢

/-! ## Commands -/

theorem Junction.answered_nil (j : Junction) : j.answered [] = { j with holder := none, agentQueue := j.agentQueue.tail } := by
  unfold Junction.answered; rw [List.append_nil]

theorem State.begin_inProgress {s : State} {op} (h : s.inProgress = some op) : s.begin.inProgress = some op := h

/-- The state in which a command that was read is carried out (R154). -/
def State.commandTaken (s : State) (c : Configuration) (code : Option CommandCode) : State := ((s.begin.writeAccepted c).releasePort).loadCommand c code

theorem State.writeAccepted_memory (s : State) (c : Configuration) :
    (s.begin.writeAccepted c).memory = Memory.writeWord (Memory.writeWord s.memory (commandBlock c + 12) 1)
    (commandBlock c + 16) 0 := rfl

theorem State.writeAccepted_word {s : State} (hw : Memory.wf s.memory = true) (c : Configuration) (a : Nat) (h :
    a + 4 ≤ commandBlock c + 12) : Memory.word (s.begin.writeAccepted c).memory a = Memory.word s.memory a := by
  rw [State.writeAccepted_memory]
  apply Memory.word_congr
  intro x h1 h2
  rw [Memory.writeWord_only (Memory.wf_writeWord hw _ _) _ _ x (by omega), Memory.writeWord_only hw _ _ x (by omega)]

theorem State.commandTaken_memory (s : State) (c code) :
    (State.commandTaken s c code).memory = (s.begin.writeAccepted c).memory := rfl

theorem State.commandTaken_writes {s : State} (hw : Memory.wf s.memory = true) (c : Configuration) (u : State) (h :
    u.memory = (s.begin.writeAccepted c).memory) : WritesAccepted s c u := by
  unfold WritesAccepted
  rw [h, State.writeAccepted_memory]
  have hw2 := Memory.wf_writeWord hw (commandBlock c + 12) 1
  refine ⟨?_, Memory.word_writeWord hw2 _ _, ?_⟩
  · rw [Memory.word_congr (fun x h1 h2 => Memory.writeWord_only hw2 (commandBlock c + 16) 0 x (by omega)),
      Memory.word_writeWord hw]
  · intro x hx
    rw [Memory.writeWord_only hw2 _ _ x (by omega), Memory.writeWord_only hw _ _ x (by omega)]

theorem State.commandTaken_run {s : State} (hw : Memory.wf s.memory = true) (c : Configuration) (code) (k) (hk :
    s.run.running = some k) : (State.commandTaken s c code).run = s.run.running' s c code k := by
  show ({ s.run with running := s.run.running.map _ } : RunControl) = _
  rw [hk]
  have e : ∀ n, n + 4 ≤ 12 → Memory.word (s.begin.writeAccepted c).releasePort.memory (commandBlock c + n) = Memory.word s.memory (commandBlock c + n) := fun n h => State.writeAccepted_word hw c _ (by omega)
  unfold RunControl.running'
  simp only [Option.map_some]
  rw [e 0 (by omega), e 4 (by omega), e 8 (by omega)]
  rfl

theorem State.commandTaken_junction (s : State) (c code) :
    (State.commandTaken s c code).junction = s.junction.answered [] := by rw [Junction.answered_nil]; rfl

theorem State.writeAccepted_keepsBut (s : State) (c) : KeepsBut [.memory, .pulses] s (s.begin.writeAccepted c) := by
  unfold State.writeAccepted State.writeWord
  generalize Memory.writeWord s.begin.memory (commandBlock c + 12) 1 = m
  intro b hb; cases b <;> first | (exfalso; simp at hb; done) | exact rfl

theorem State.commandTaken_keepsBut (s : State) (c code) : KeepsBut [.memory, .run, .junction,
    .pulses] s (State.commandTaken s c code) := by
  unfold State.commandTaken
  have := State.writeAccepted_keepsBut s c
  generalize s.begin.writeAccepted c = v at *
  intro b hb
  have := this b (by intro h; apply hb; simp at h ⊢; tauto)
  cases b <;> first | (exfalso; simp at hb; done) | exact this

/-- A command operation's read carries the command out in the state it leaves (R154). -/
theorem State.takeCommand_read {s : State} {c code k} (h : CommandRead s c code k) (eff : Word → State → State) :
    s.begin.takeCommand code eff = eff (operand1 s c) (State.commandTaken s c code) := by
  obtain ⟨h1, h2, h3, h4⟩ := h
  unfold State.takeCommand
  rw [State.begin_inProgress h2, show s.begin.config = some c from h1]
  dsimp only
  rw [if_pos (by exact h4), if_neg (by simp)]
  rfl

/-- The finish of the command being run (R156). -/
theorem State.finish_running (u : State) (k) (h : u.run.running = some k) (r d) :
    u.finish r d = (u.setRun u.run.finished).ask (finishOp k r d) := by
  unfold State.finish; rw [h]; rfl

/-- A command that does nothing but finish. -/
theorem State.finish_only {s : State} (hw : Memory.wf s.memory = true) {c code k} (h : CommandRead s c code k)
    (r d) : OnlyFinishes s c k r d ((State.commandTaken s c code).finish r d).grant := by
  have hr := State.commandTaken_run hw c code k h.2.2.1
  obtain ⟨u, hu⟩ : ∃ u, u = State.commandTaken s c code := ⟨_, rfl⟩
  have hm : u.memory = (s.begin.writeAccepted c).memory := by rw [hu]; rfl
  have hj : u.junction = s.junction.answered [] := by rw [hu]; exact State.commandTaken_junction s c _
  have hp : u.pulses = [] := by rw [hu]; rfl
  have hk : KeepsBut [.memory, .run, .junction, .pulses] s u := by rw [hu]; exact State.commandTaken_keepsBut s c _
  rw [← hu] at hr ⊢
  clear hu
  rw [State.finish_running u _ (by rw [hr]; rfl)]
  refine ⟨?_, ?_, ?_, hp, ?_⟩
  · exact State.commandTaken_writes hw c _ hm
  · show u.run.finished = _; rw [hr]; rfl
  · show ({ u.junction with agentQueue := u.junction.agentQueue ++ _ } : Junction).grant = _
    rw [hj]
    unfold Junction.answered; simp; rfl
  · refine KeepsBut.grant ?_ (by simp)
    intro b hb
    have := hk b hb
    cases b <;> first | (exfalso; simp at hb; done) | exact this

end Sys2Proof.Machine
end

