-- ==== Sys2Proof/Laws/Effects.lean ====
section
/-! SUPPORT. What the shared operations do, each said once as a relation of Safety between the state before and the
state after. -/

open Sys2Proof

namespace Sys2Proof.Machine

/-- An event record is one with no disposition. -/
theorem isEvent_iff (b : LogBody) : b.isEvent = true ↔ b.disposition = none := by
  unfold LogBody.isEvent; cases b.disposition <;> simp

/-- The log ring is full exactly when no entry is free (R171). -/
theorem full_iff (s : State) : (∀ c, s.config = some c
    → c.logEntries ≤ (s.log.producer - s.log.consumer).toNat) ↔ s.logFree = 0 := by
  unfold State.logFree State.logEntries State.logUsed
  cases s.config with
  | none => simp
  | some c => simp; omega

/-- What a discarded event record leaves (R171). -/
theorem discard_spec (s : State) : s.discardEvent.log = { s.log with overrun := true }
    ∧ s.discardEvent.junction = s.junction
    ∧ s.discardEvent.attention = (if s.log.overrun then s.attention else s.attention.withE .logOverrun)
        ∧ KeepsBut [.log, .attention] s s.discardEvent := by
  unfold State.discardEvent
  by_cases h : s.log.overrun = true
  · rw [if_pos h, if_pos h]
    refine ⟨?_, rfl, rfl, KeepsBut.refl⟩
    cases hl : s.log; rw [hl] at h; simp at h; simp [h]
  · rw [if_neg h, if_neg h]
    exact ⟨rfl, rfl, rfl, by intro b hb; cases b <;> first | (exfalso; simp at hb; done) | exact rfl⟩

theorem take_val (w : State) (a b c) (hf : w.log.inFlight = none) (hl : takeFrom w.logFree w.log.waiting = (a, b,
    c)) :
    w.takeRecord = (let s1 := w.setLog { w.log with waiting := a, inFlight := b.map (fun r => (w.log.producer, r)) }
      let s2 := if c then s1.discardEvent else s1
      match (generalizing := false) b with | none => s2 | some r => s2.ask (.logWrite w.log.producer r)) := by
  unfold State.takeRecord
  rw [hf]
  dsimp only
  generalize takeFrom w.logFree w.log.waiting = p at hl ⊢
  subst hl
  rfl

theorem takeFrom_full (l : List LogRecord) : ∃ lost left, l = lost ++ left ∧ (∀ y ∈ lost, y.body.disposition = none)
    ∧ (∀ y, left.head? = some y → y.body.disposition ≠ none) ∧ takeFrom 0 l = (left, none, !lost.isEmpty) := by
  induction l with
  | nil => exact ⟨[], [], rfl, by simp, by simp, rfl⟩
  | cons r rs ih =>
    obtain ⟨lost, left, h1, h2, h3, h4⟩ := ih
    by_cases h : r.body.isEvent = true
    · refine ⟨r :: lost, left, by rw [h1]; rfl, ?_, h3, ?_⟩
      · intro y hy
        rcases List.mem_cons.1 hy with rfl | hy
        · exact (isEvent_iff _).1 h
        · exact h2 y hy
      · simp [takeFrom, h, h4]
    · refine ⟨[], r :: rs, rfl, by simp, ?_, ?_⟩
      · intro y hy; simp at hy; subst hy; exact fun e => h ((isEvent_iff _).2 e)
      · simp [takeFrom, h]

/-- What `State.takeRecord` does (R170, R171). -/
theorem takesNext (w : State) : TakesNext w w.takeRecord := by
  have k : KeepsBut [.junction, .log, .attention] w w.takeRecord := by
    have k := State.takeRecord_keeps w
    intro b hb
    cases b <;> first | (exfalso; simp at hb; done) | (simp only [Block.same, k])
  unfold TakesNext
  dsimp only
  refine ⟨?_, ?_, ?_, k⟩
  · intro h
    have : w.takeRecord = w := by
      unfold State.takeRecord
      cases hh : w.log.inFlight with
      | some _ => rfl
      | none => exact absurd hh h
    rw [this]; exact KeepsBut.refl
  · intro hf hq
    have e := take_val w [] none false hf (by rw [hq]; rfl)
    dsimp only [Option.map_none] at e
    rw [if_neg (by simp)] at e
    rw [e]
    have : ({ w.log with waiting := [], inFlight := none } : LogWriter) = w.log := by
      cases hl : w.log; rw [hl] at hf hq; simp at hf hq; simp [hf, hq]
    intro b _
    cases b <;> first | exact this | exact rfl
  · intro x rest hf hq
    refine ⟨?_, ?_⟩
    · intro hfull
      rw [full_iff] at hfull
      have e := take_val w rest (some x) false hf (by rw [hq]; simp [takeFrom, Nat.one_le_iff_ne_zero.2 hfull])
      dsimp only [Option.map_some] at e
      rw [if_neg (by simp)] at e
      rw [e]
      exact ⟨rfl, rfl, rfl⟩
    · intro hfull
      rw [full_iff] at hfull
      obtain ⟨lost, left, h1, h2, h3, h4⟩ := takeFrom_full w.log.waiting
      refine ⟨lost, left, h1, h2, h3, ?_⟩
      have e := take_val w left none (!lost.isEmpty) hf (by rw [hfull]; exact h4)
      dsimp only [Option.map_none] at e
      rw [e]
      cases hlost : lost with
      | nil =>
        rw [if_neg (by simp)]
        rw [hlost] at h1
        have : ({ w.log with waiting := left, inFlight := none } : LogWriter) = w.log := by
          rw [← hf, show left = w.log.waiting from h1.symm]
        exact ⟨rfl, fun _ => ⟨this, rfl⟩, fun h => absurd rfl h⟩
      | cons a as =>
        rw [if_pos (by simp)]
        have d := discard_spec (w.setLog { w.log with waiting := left, inFlight := none })
        refine ⟨d.2.1, fun h => absurd h (by simp), fun _ => ⟨?_, d.2.2.1⟩⟩
        rw [d.1]
        show ({ producer := _, consumer := _, waiting := left, inFlight := none, overrun := true } : LogWriter) = _
        rw [← hf]; rfl

/-- What `State.handOver` does (R170, R171). -/
theorem handsOver (s : State) (b : LogBody) (tm : Tick) : HandsOver ⟨tm, b⟩ s (s.handOver tm b) := by
  have hcr : (b.isEvent && decide (32 ≤ s.log.eventsPending)) = true ↔ (b.disposition = none
      ∧ 32 ≤ (((s.log.inFlight.map (fun x => x.2)).toList ++ s.log.waiting).filter
        (fun x => x.body.disposition.isNone)).length) := by
    rw [Bool.and_eq_true, isEvent_iff, decide_eq_true_eq]; rfl
  unfold HandsOver
  dsimp only
  rw [← hcr]
  unfold State.handOver
  by_cases hc : (b.isEvent && decide (32 ≤ s.log.eventsPending)) = true
  · rw [if_pos hc]
    have d := discard_spec s
    exact ⟨fun _ => ⟨d.1, d.2.1, d.2.2.1⟩, fun h => absurd hc h, d.2.2.2.mono (by simp)⟩
  · rw [if_neg hc]
    have k := (takesNext (s.setLog { s.log with waiting := s.log.waiting ++ [⟨tm, b⟩] })).2.2.2
    refine ⟨fun h => absurd h hc, fun _ => ⟨s.setLog { s.log with waiting := s.log.waiting ++ [⟨tm, b⟩] }, rfl, ?_,
        takesNext _⟩, ?_⟩
    · intro b hb; cases b <;> first | (exfalso; simp at hb; done) | exact rfl
    · refine KeepsBut.trans ?_ k
      intro b hb; cases b <;> first | (exfalso; simp at hb; done) | exact rfl

theorem candidate_aux (o : OutputUnit) (full : Stacker → Bool) (flag : Bool) (first : Stacker × SwitchReason)
    (h1 : ∀ j, o.selection = some j → first.1 = j ∧ first.2 = .selected)
    (h2 : o.selection = none ∧ flag = true ∧ full o.active.other = false → first.1 = o.active.other
        ∧ first.2 = .breakFlag)
    (h3 : o.selection = none → ¬ (o.selection = none ∧ flag = true ∧ full o.active.other = false)
        → first.1 = o.active) :
    Candidate o full flag (if full first.1 && !full first.1.other then (first.1.other,
        SwitchReason.full) else first).1
      (if full first.1 && !full first.1.other then (first.1.other, SwitchReason.full) else first).2 := by
  refine ⟨first.1, first.2, h1, h2, h3, ?_, ?_⟩
  · rintro ⟨h1, h2⟩; rw [if_pos (by simp [h1, h2])]; exact ⟨rfl, rfl⟩
  · intro h; rw [if_neg (by simpa using h)]; exact ⟨rfl, rfl⟩

/-- What `boundaryCandidate` answers (R105). -/
theorem candidate (o : OutputUnit) (full : Stacker
    → Bool) (flag : Bool) : Candidate o full flag (boundaryCandidate o.active o.selection full flag).1 (boundaryCandidate o.active o.selection full flag).2 := by
  refine candidate_aux o full flag _ ?_ ?_ ?_
  · intro j hj; rw [hj]; exact ⟨rfl, rfl⟩
  · rintro ⟨h1, h2, h3⟩; rw [h1]; simp [h2, h3]
  · intro h1 h2
    rw [h1]
    rw [if_neg (by simp only [Bool.and_eq_true, Bool.not_eq_true']; exact fun h => h2 ⟨h1, h.1, h.2⟩)]

/-- What `State.settleBoundary` does (R105). -/
theorem settles (s : State) (c : Stacker × SwitchReason) : Settles c.1 c.2 s (s.settleBoundary c) := by
  unfold Settles State.settleBoundary
  dsimp only
  refine ⟨?_, ?_⟩
  · intro h; rw [if_pos h]; exact KeepsBut.refl
  · intro h; rw [if_neg h]; exact handsOver _ _ _

/-- What `State.decideBoundary` does (R105). -/
theorem boundary (s : State) (flag : Bool) : DecidesBoundary flag s (s.decideBoundary flag) :=
  ⟨_, _, candidate _ _ _, settles _ _⟩

/-- `longestOf` answers a class of the greatest length in the list or its default (R6). -/
theorem longest_spec (c : Configuration) (l : List MediaClass) : ∀ d, (longestOf c d l = d ∨ longestOf c d l ∈ l)
    ∧ c.mediaLength[d] ≤ c.mediaLength[longestOf c d l] ∧ ∀ m ∈ l,
    c.mediaLength[m] ≤ c.mediaLength[longestOf c d l] := by
  induction l with
  | nil => intro d; exact ⟨.inl rfl, Nat.le_refl _, by simp⟩
  | cons a l ih =>
    intro d
    by_cases h : c.mediaLength[d] < c.mediaLength[a]
    · have e : longestOf c d (a :: l) = longestOf c a l := by rw [longestOf, if_pos h]
      simp only [e]
      obtain ⟨h1, h2, h3⟩ := ih a
      refine ⟨?_, by omega, ?_⟩
      · rcases h1 with h1 | h1
        · right; rw [h1]; simp
        · right; simp [h1]
      · intro m hm; rcases List.mem_cons.1 hm with rfl | hm
        · exact h2
        · exact h3 m hm
    · have e : longestOf c d (a :: l) = longestOf c d l := by rw [longestOf, if_neg h]
      simp only [e]
      obtain ⟨h1, h2, h3⟩ := ih d
      refine ⟨?_, h2, ?_⟩
      · rcases h1 with h1 | h1
        · left; exact h1
        · right; simp [h1]
      · intro m hm; rcases List.mem_cons.1 hm with rfl | hm
        · omega
        · exact h3 m hm

/-- What `State.launch` does (R82, R89). -/
theorem launched (s : State) (c timing d l) (hl : l ≠ []) (hc : s.config = some c) (ht : s.tracker.timing = some timing) :
    Launched c timing d l s (s.launch d l) := by
  obtain ⟨w, hw⟩ : ∃ w, w = (s.modifySet (fun r => { r with state := if d = .purge then .dumping else .ejecting, destination := some d, arrived := false })) := ⟨_, rfl⟩
  have wk : KeepsBut [.output] s w := by rw [hw]; intro b hb; cases b <;> first | (exfalso; simp at hb; done) | exact rfl
  have wt : w.tracker = s.tracker := wk .tracker (by simp)
  have wtk : w.tick = s.tick := wk .tick (by simp)
  have hm : ∃ m : MediaClass, s.longestMember l = m ∧ (∃ y ∈ l, y.media = m) ∧ (∀ y ∈ l,
      c.mediaLength[y.media] ≤ c.mediaLength[m]) := by
    refine ⟨_, rfl, ?_⟩
    unfold State.longestMember
    rw [hc]
    cases l with
    | nil => exact absurd rfl hl
    | cons a l =>
      show (∃ y ∈ a :: l, y.media = longestOf c a.media (l.map (fun m => m.media)))
          ∧ ∀ y ∈ a :: l, c.mediaLength[y.media] ≤ c.mediaLength[longestOf c a.media (l.map (fun m => m.media))]
      obtain ⟨h1, h2, h3⟩ := longest_spec c (l.map (fun m => m.media)) a.media
      refine ⟨?_, ?_⟩
      · rcases h1 with h1 | h1
        · exact ⟨a, by simp, h1.symm⟩
        · obtain ⟨y, hy, hy2⟩ := List.mem_map.1 h1
          exact ⟨y, by simp [hy], hy2⟩
      · intro y hy
        rcases List.mem_cons.1 hy with rfl | hy
        · exact h2
        · exact h3 _ (List.mem_map.2 ⟨y, hy, rfl⟩)
  obtain ⟨m, m1, m2, m3⟩ := hm
  have wl : w.longestMember l = m := by rw [← m1]; unfold State.longestMember; rw [show w.config = s.config
      from wk .config (by simp)]
  have e : s.launch d l = (w.pulse (.eject d)).addExpectation d.sensor (expectationOf .set (timing.time (.leg d.leg)) (timing.coverAt m (.leg d.leg)) s.tick) := by
    unfold State.launch
    dsimp only
    rw [← hw, wl]
    unfold State.placeSet
    rw [show (w.pulse (.eject d)).tracker.timing = some timing by show w.tracker.timing = _; rw [wt]; exact ht]
    dsimp only
    rw [show (w.pulse (.eject d)).tick = s.tick from wtk]
  have us : ∀ y, (w.pulse (.eject d)).sensor y = s.sensor y := by intro y; unfold State.sensor; show w.tracker.sensors[y.index] = _; rw [wt]
  rw [e]
  obtain ⟨q,
      hq⟩ : ∃ q, q = (w.pulse (.eject d)).addExpectation d.sensor (expectationOf .set (timing.time (.leg d.leg)) (timing.coverAt m (.leg d.leg)) s.tick) := ⟨_, rfl⟩
  rw [← hq]
  have key : q.pulses = s.pulses ++ [.eject d]
    ∧ q.output = { s.output with set := { s.output.set with
        state := if d = .purge then .dumping else .ejecting, destination := some d, arrived := false } }
    ∧ (∃ m : MediaClass, (∃ y ∈ l, y.media = m) ∧ (∀ y ∈ l, c.mediaLength[y.media] ≤ c.mediaLength[m])
        ∧ q.sensor d.sensor = { s.sensor d.sensor with expectations := insertByOpen ⟨.set,
            s.tick + BitVec.ofNat 32 (max 1 (timing.legs[d.leg].nominal - timing.legs[d.leg].early)),
            s.tick + BitVec.ofNat 32 (timing.legs[d.leg].nominal + timing.legs[d.leg].late),
            timing.cover[m][d.leg].min, timing.cover[m][d.leg].max, true⟩ (s.sensor d.sensor).expectations })
    ∧ (∀ y, y ≠ d.sensor → q.sensor y = s.sensor y) ∧ q.tracker.sheets = s.tracker.sheets
    ∧ q.tracker.timing = s.tracker.timing ∧ KeepsBut [.pulses, .tracker, .output] s q := by
    rw [hq]
    refine ⟨?_, ?_, ⟨m, m2, m3, ?_⟩, ?_, ?_, ?_, ?_⟩
    · show w.pulses ++ _ = _; rw [show w.pulses = s.pulses from wk .pulses (by simp)]
    · show w.output = _; rw [hw]; rfl
    · unfold State.addExpectation; rw [State.sensor_putSensor, us]; rfl
    · intro y hy; unfold State.addExpectation; rw [State.sensor_putSensor_other _ _ _ _ hy, us]
    · show w.tracker.sheets = _; rw [wt]
    · show w.tracker.timing = _; rw [wt]
    · intro b hb
      have := wk b
      cases b <;> first | (exfalso; simp at hb; done) | exact this (by simp)
  cases d <;> exact key

theorem TakesNext.setP {u v : State} (h : TakesNext u v) (b : Residency) (p : PSummary) (l : Bool) :
    TakesNext ((u.setBuffers b).setAttention { u.attention with p := p, lineP := l })
      ((v.setBuffers b).setAttention { v.attention with p := p, lineP := l }) := by
  obtain ⟨h1, h2, h3, h4⟩ := h
  have a0 : v.attention = u.attention →
      ({ v.attention with p := p, lineP := l } : Attention) = { u.attention with p := p, lineP := l } := by
    intro hb; rw [hb]
  have a : ∀ b : Bool, v.attention = (if b then u.attention else u.attention.withE .logOverrun) →
      ({ v.attention with p := p, lineP := l } : Attention)
        = (if b then { u.attention with p := p, lineP := l }
            else ({ u.attention with p := p, lineP := l } : Attention).withE .logOverrun) := by
    intro b hb; rw [hb]; cases b <;> rfl
  have kb : ∀ {u v : State}, KeepsBut [] u v →
      KeepsBut [] ((u.setBuffers b).setAttention { u.attention with p := p, lineP := l })
        ((v.setBuffers b).setAttention { v.attention with p := p, lineP := l }) := by
    intro u v k x _
    have e : v.attention = u.attention := k .attention (by simp)
    have := k x (by simp)
    cases x <;> first | exact this | exact rfl | exact (by rw [e] : ({ v.attention with p := p, lineP := l } : Attention) = { u.attention with p := p, lineP := l })
  refine ⟨fun x => kb (h1 x), fun x y => kb (h2 x y), fun x rest f q => ⟨fun nf => ?_, fun fl => ?_⟩, ?_⟩
  · obtain ⟨i, j, k⟩ := (h3 x rest f q).1 nf; exact ⟨i, a0 j, k⟩
  · obtain ⟨lost, left, e1, e2, e3, e4, e5, e6⟩ := (h3 x rest f q).2 fl
    exact ⟨lost, left, e1, e2, e3, e4, fun z => ⟨(e5 z).1, a0 (e5 z).2⟩, fun z => ⟨(e6 z).1, a _ (e6 z).2⟩⟩
  · intro x hx
    have := h4 x hx
    cases x <;> first | exact this | (exfalso; simp at hx; done) | exact rfl

/-- The buffers and the P summary are beside what a record's handover acts on. -/
theorem HandsOver.setP {r : LogRecord} {u v : State} (h : HandsOver r u v) (b : Residency) (p : PSummary) (l : Bool) :
    HandsOver r ((u.setBuffers b).setAttention { u.attention with p := p, lineP := l })
      ((v.setBuffers b).setAttention { v.attention with p := p, lineP := l }) := by
  obtain ⟨h1, h2, h3⟩ := h
  have a : ∀ b : Bool, v.attention = (if b then u.attention else u.attention.withE .logOverrun) →
      ({ v.attention with p := p, lineP := l } : Attention)
        = (if b then { u.attention with p := p, lineP := l }
            else ({ u.attention with p := p, lineP := l } : Attention).withE .logOverrun) := by
    intro b hb; rw [hb]; cases b <;> rfl
  refine ⟨fun x => ⟨(h1 x).1, (h1 x).2.1, a _ (h1 x).2.2⟩, fun x => ?_, ?_⟩
  · obtain ⟨w, e1, e2, e3⟩ := h2 x
    refine ⟨_, ?_, ?_, e3.setP b p l⟩
    · exact e1
    · have e : w.attention = u.attention := e2 .attention (by simp)
      intro x hx
      have := e2 x hx
      cases x <;> first | (exfalso; simp at hx; done) | exact this | exact rfl | exact (by rw [e] : ({ w.attention with p := p, lineP := l } : Attention) = { u.attention with p := p, lineP := l })
  · intro x hx
    have := h3 x hx
    cases x <;> first | exact this | (exfalso; simp at hx; done) | exact rfl

theorem HandsOver.setBuffers {r : LogRecord} {u v : State} (h : HandsOver r u v)
    (hp : v.attention.p = u.attention.p ∧ v.attention.lineP = u.attention.lineP) (b : Residency) :
    HandsOver r (u.setBuffers b) (v.setBuffers b) := by
  have k := h.setP b u.attention.p u.attention.lineP
  have e : (v.setBuffers b).setAttention { v.attention with p := u.attention.p, lineP := u.attention.lineP } = v.setBuffers b := by
    rw [← hp.1, ← hp.2]; rfl
  rw [e] at k
  exact k

theorem kb0 {s t : State} (h : KeepsBut [] s t) : t.tick = s.tick ∧ t.config = s.config ∧ t.lines = s.lines
    ∧ t.memory = s.memory ∧ t.junction = s.junction ∧ t.plan = s.plan ∧ t.buffers = s.buffers
    ∧ t.scheduler = s.scheduler ∧ t.tracker = s.tracker ∧ t.output = s.output ∧ t.drive = s.drive ∧ t.run = s.run
    ∧ t.log = s.log ∧ t.attention = s.attention ∧ t.pulses = s.pulses ∧ t.pending = s.pending :=
  ⟨h .tick (by simp), h .config (by simp), h .lines (by simp), h .memory (by simp), h .junction (by simp),
      h .plan (by simp), h .buffers (by simp), h .scheduler (by simp), h .tracker (by simp), h .output (by simp),
      h .drive (by simp), h .run (by simp), h .log (by simp), h .attention (by simp), h .pulses (by simp),
      h .pending (by simp)⟩

theorem HandsOver.from0 {r : LogRecord} {u u' t : State} (h : HandsOver r u' t) (k : KeepsBut [] u u') : HandsOver r u t := by
  unfold HandsOver at h ⊢
  have e := kb0 k
  rw [e.2.2.2.2.2.2.2.2.2.2.2.2.1, e.2.2.2.2.1, e.2.2.2.2.2.2.2.2.2.2.2.2.2.1] at h
  refine ⟨h.1, fun x => ?_, (k.mono (by simp)).trans h.2.2⟩
  obtain ⟨v, e1, e2, e3⟩ := h.2.1 x
  exact ⟨v, e1, (k.mono (by simp)).trans e2, e3⟩

theorem each_from {rs : List LogRecord} {u u' t : State} (h : Each HandsOver rs u' t) (k : KeepsBut [] u u') : Each HandsOver rs u t := by
  cases rs with
  | nil => exact k.trans h
  | cons r rs => obtain ⟨v, a, b⟩ := h; exact ⟨v, HandsOver.from0 a k, b⟩

theorem each_to {α} {R : α → State → State → Prop} (hR : ∀ x u v w, R x u v → KeepsBut [] v w
    → R x u w) {rs : List α} {u t t' : State} (h : Each R rs u t) (k : KeepsBut [] t t') : Each R rs u t' := by
  induction rs generalizing u with
  | nil => exact KeepsBut.trans h k
  | cons r rs ih => obtain ⟨v, a, b⟩ := h; exact ⟨v, a, ih b⟩

/-- A buffer after `n` references to it were dropped not delivered (R50). -/
def afterLost (x : Buffer) (n : Nat) : Buffer := if x.state = .held
    ∧ n ≠ 0 then { x with count := x.count - n, replay := true } else x

theorem afterLost_add (x : Buffer) (m n : Nat) : afterLost (afterLost x m) n = afterLost x (m + n) := by
  unfold afterLost
  by_cases h : x.state = .held
  · by_cases hm : m = 0
    · simp [hm]
    · by_cases hn : n = 0
      · simp [h, hm, hn]
      · simp [h, hm, hn, Nat.sub_sub]
  · simp [h]

theorem dropRef_f (s : State) (o : Option BufferNo) : (∀ b,
    (s.dropReference false o).buffer b = afterLost (s.buffer b) (if o = some b then 1 else 0))
    ∧ (s.dropReference false o).buffers.claimWaiting = s.buffers.claimWaiting
    ∧ KeepsBut [.buffers] s (s.dropReference false o) := by
  cases o with
  | none => exact ⟨fun b => by simp [State.dropReference, afterLost], rfl, KeepsBut.refl⟩
  | some x =>
    unfold State.dropReference
    dsimp only
    by_cases h : (s.buffer x).state = .held
    · rw [if_pos h, if_neg (by simp)]
      refine ⟨?_, rfl, ?_⟩
      · intro b
        by_cases hb : x = b
        · subst hb
          refine (put_same _ _ _).trans ?_
          unfold afterLost; rw [if_pos rfl, if_pos ⟨h, by simp⟩]
        · refine (put_other _ _ _ _ (fun e => hb e.symm)).trans ?_
          rw [if_neg (by simpa using hb)]; unfold afterLost; simp; rfl
      · intro b hb; cases b <;> first | (exfalso; simp at hb; done) | exact rfl
    · rw [if_neg h]
      refine ⟨?_, rfl, KeepsBut.refl⟩
      intro b
      by_cases hb : x = b
      · subst hb; unfold afterLost; rw [if_neg (fun hh => h hh.1)]
      · rw [if_neg (by simpa using hb)]; unfold afterLost; simp

/-- What `State.dropSides` does for sides not delivered (R50). -/
theorem dropsLost1 (s : State) (f b : Option BufferNo) : DropsLost (usesOf [(f, b)]) s (s.dropSides false f b) := by
  have h1 := dropRef_f s f
  have h2 := dropRef_f (s.dropReference false f) b
  refine ⟨?_, h2.2.1.trans h1.2.1, h1.2.2.trans h2.2.2⟩
  intro x
  show ((s.dropReference false f).dropReference false b).buffer x = _
  rw [h2.1, h1.1, afterLost_add]
  simp [afterLost, usesOf]

theorem DropsLost.trans' {m n : BufferNo → Nat} {u v t : State} (h : DropsLost m u v) (k : DropsLost n v t) : DropsLost (fun b => m b + n b) u t := by
  refine ⟨?_, k.2.1.trans h.2.1, h.2.2.trans k.2.2⟩
  intro b
  have a := h.1 b; have c := k.1 b
  have := afterLost_add (u.buffer b) (m b) (n b)
  unfold afterLost at this
  rw [c, a]; exact this

theorem DropsLost.congr {m n : BufferNo → Nat} {u t : State} (h : DropsLost m u t) (e : ∀ b,
    m b = n b) : DropsLost n u t := by
  have : m = n := funext e
  rw [← this]; exact h

theorem usesOf_cons (x l b) : usesOf (x :: l) b = usesOf [x] b + usesOf l b := by simp [usesOf]

theorem record_p (s : State) (tm b) : (s.handOver tm b).attention.p = s.attention.p
    ∧ (s.handOver tm b).attention.lineP = s.attention.lineP := by
  have hd : ∀ s : State, s.discardEvent.attention.p = s.attention.p
      ∧ s.discardEvent.attention.lineP = s.attention.lineP := by
    intro s; unfold State.discardEvent; split <;> exact ⟨rfl, rfl⟩
  unfold State.handOver
  split
  · exact hd s
  · unfold State.takeRecord
    split
    · exact ⟨rfl, rfl⟩
    · dsimp only
      generalize takeFrom _ _ = p
      obtain ⟨a, b, c⟩ := p
      cases b <;> cases c
      · exact ⟨rfl, rfl⟩
      · exact hd (((s.setLog _).setLog _))
      · exact ⟨rfl, rfl⟩
      · exact hd (((s.setLog _).setLog _))

/-- What `State.disposeAll` does (R35, R37). -/
theorem disposeAll_rel (l : List PlanEntry) : ∀ s : State, ∃ w, DropsLost (usesOf (l.map (fun e => (e.front,
    e.back)))) s w
    ∧ Each HandsOver (l.map (fun e => ⟨s.tick, .withdrawn ⟨e.sequence, e.statement, e.k,
        e.slot⟩⟩)) w (s.disposeAll l) ∧ w = s.setBuffers (s.disposeAll l).buffers := by
  induction l with
  | nil => intro s; exact ⟨s, ⟨fun b => by simp [usesOf], rfl, KeepsBut.refl⟩, KeepsBut.refl, rfl⟩
  | cons e l ih =>
    intro s
    obtain ⟨v, hv⟩ : ∃ v, v = s.dropSides false e.front e.back := ⟨_, rfl⟩
    have d1 := dropsLost1 s e.front e.back
    rw [← hv] at d1
    have hr := handsOver v (.withdrawn e.disposition) v.tick
    obtain ⟨x, hx⟩ : ∃ x, x = v.record (.withdrawn e.disposition) := ⟨_, rfl⟩
    have hs : s.disposeAll (e :: l) = x.disposeAll l := by rw [State.disposeAll, hx, hv]; rfl
    rw [hs]
    obtain ⟨w, a, b, c⟩ := ih x
    have hr : HandsOver ⟨v.tick, .withdrawn e.disposition⟩ v x := by rw [hx]; exact hr
    have hp : x.attention.p = v.attention.p ∧ x.attention.lineP = v.attention.lineP := by rw [hx]; exact record_p _ _ _
    have xb : x.buffers = v.buffers := hr.2.2 .buffers (by simp)
    have xt : x.tick = v.tick := hr.2.2 .tick (by simp)
    have vt : v.tick = s.tick := d1.2.2 .tick (by simp)
    refine ⟨s.setBuffers (x.disposeAll l).buffers, ?_, ?_, rfl⟩
    · have xb2 : ∀ b, x.buffer b = v.buffer b := by intro b; unfold State.buffer; rw [xb]
      have a' : DropsLost (usesOf (l.map (fun e => (e.front,
          e.back)))) v (v.setBuffers (x.disposeAll l).buffers) := by
        refine ⟨?_, ?_, ?_⟩
        · intro b; have := a.1 b; rw [xb2] at this; rw [c] at this; exact this
        · have := a.2.1; rw [c, xb] at this; exact this
        · intro b hb; cases b <;> first | (exfalso; simp at hb; done) | exact rfl
      have e3 := DropsLost.trans' d1 a'
      refine ⟨?_, e3.2.1, ?_⟩
      · intro b
        have := e3.1 b
        rw [List.map_cons, usesOf_cons]
        exact this
      · intro b hb; cases b <;> first | (exfalso; simp at hb; done) | exact rfl
    · refine ⟨w, ?_, ?_⟩
      · have := hr.setBuffers hp (x.disposeAll l).buffers
        rw [← c] at this
        rw [vt] at this
        refine HandsOver.from0 this ?_
        intro b hb
        have := d1.2.2 b
        cases b <;> first | exact this (by simp) | rfl
      · rw [xt, vt] at b; exact b

/-- A withdrawal of listed entries (R35, R37). -/
theorem withdraws (s : State) (gone queue : List PlanEntry) (tail : Option Tail) : Withdraws gone queue tail s ((s.setPlan { s.plan with queue := queue, tail := tail }).disposeAll gone) := by
  obtain ⟨w, a, b, -⟩ := disposeAll_rel gone (s.setPlan { s.plan with queue := queue, tail := tail })
  exact ⟨_, w, rfl, by intro b hb; cases b <;> first | (exfalso; simp at hb; done) | exact rfl, a, b⟩

/-- What `State.withdrawCopy` does (R37). -/
theorem withdrawsCopy (s : State) (c : Copy) : WithdrawsCopy c s (s.withdrawCopy c) := by
  unfold WithdrawsCopy State.withdrawCopy
  dsimp only
  have : (if tailNames s.plan.tail c then none else s.plan.tail) = (match s.plan.tail with
      | some p => if p.statement = c.statement ∧ p.opening = c.opening then none else some p
      | none => none) := by
    cases s.plan.tail with
    | none => simp [tailNames]
    | some p => simp [tailNames]
  rw [this]
  exact withdraws _ _ _ _

/-- What `State.finishIf` does (R156). -/
theorem finishes (s : State) (c r d) : FinishesIf c r d s (s.finishIf c r d) := by
  unfold FinishesIf State.finishIf State.runs State.finish
  cases h : s.run.running with
  | none => exact ⟨by simp, fun _ => by simp only [h]; exact KeepsBut.refl⟩
  | some k =>
    simp only [h]
    refine ⟨?_, ?_⟩
    · intro k' hk hc
      obtain rfl : k = k' := by simpa using hk
      rw [hc]; simp only [beq_self_eq_true, if_true]
      exact ⟨rfl, rfl, by intro b hb; cases b <;> first | (exfalso; simp at hb; done) | exact rfl⟩
    · intro hn
      rw [if_neg (by simpa using hn k rfl)]; exact KeepsBut.refl

/-- What `State.beginEject` does (R111). -/
theorem ejectBegun (s : State) : EjectBegun s s.beginEject := by
  intro c timing hc ht hm
  refine ⟨?_, ?_⟩
  · intro a k h1 h2
    unfold State.beginEject
    rw [h2]; dsimp only; rw [if_pos h1]
    exact launched _ c timing _ _ hm hc ht
  · intro hno
    have : s.beginEject = (s.decideBoundary s.output.set.breakFlag).launch (s.decideBoundary s.output.set.breakFlag).output.active.destination s.output.set.members := by
      unfold State.beginEject
      dsimp only
      cases hcm : s.output.committed with
      | none => rfl
      | some x => 
        obtain ⟨d, k⟩ := x
        dsimp only
        rw [if_neg (hno d k hcm)]
    rw [this]
    refine ⟨_, boundary _ _, launched _ c timing _ _ hm ?_ ?_⟩
    · simp only [State.decideBoundary_keeps]; exact hc
    · rw [show (s.decideBoundary s.output.set.breakFlag).tracker = s.tracker by simp only [State.decideBoundary_keeps]]; exact ht

/-- What `State.beginDump` does (R112). -/
theorem dumpBegun (s : State) : DumpBegun s s.beginDump := by
  intro c timing hc ht hm
  unfold State.beginDump
  dsimp only
  have e : (s.dropCommitted s.output.set.copy).modifySet (fun r => { r with condition := .sound }) = s.setOutput { s.output with
        committed := match s.output.committed with
          | some (a, k) => if s.output.set.copy = some a then none else some (a, k)
          | none => none
        set := { s.output.set with condition := .sound } } := by
    unfold State.dropCommitted OutputUnit.committedFor
    cases hcp : s.output.set.copy with
    | none => 
      cases hcm : s.output.committed with
      | none => simp only [State.modifySet]; rw [← hcm]
      | some x => obtain ⟨a, k⟩ := x; simp only [State.modifySet]; simp; rw [← hcm]
    | some d =>
      cases hcm : s.output.committed with
      | none => simp only [State.modifySet]; rw [← hcm]; rfl
      | some x =>
        obtain ⟨a, k⟩ := x
        dsimp only
        by_cases h : a = d
        · rw [if_pos (by simp [h]), if_pos (by rw [h])]; rfl
        · rw [if_neg (by simpa using h), if_neg (by simpa using fun e => h e.symm)]; simp only [State.modifySet]; rw [← hcm]
  rw [e]
  exact launched _ c timing _ _ hm hc ht

/-- What `State.examineEject` does (R111). -/
theorem ejectExamined (s : State) : EjectExamined s s.examineEject := by
  unfold EjectExamined State.examineEject
  dsimp only
  have hme : s.mayEject = true ↔ (s.output.set.state = .complete ∧ s.output.set.condition = .sound
    ∧ (s.run.state = .running ∨ s.run.state = .draining ∨ s.run.state = .idle)
    ∧ ¬ (s.lines.stackerFull1 = true ∧ s.lines.stackerFull2 = true)) := by
    unfold State.mayEject Lines.bothFull
    simp only [Bool.and_eq_true, beq_iff_eq, Bool.or_eq_true, Bool.not_eq_true', Bool.and_eq_false_iff, and_assoc,
        or_assoc]
    cases s.lines.stackerFull1 <;> cases s.lines.stackerFull2 <;> simp
  rw [← hme]
  refine ⟨fun h => ?_, fun h => ?_⟩
  · rw [if_pos h]; exact ejectBegun s
  · rw [if_neg h]; exact KeepsBut.refl

/-- What `State.examineDump` does (R112). -/
theorem dumpExamined (s : State) : DumpExamined s s.examineDump := by
  unfold DumpExamined State.examineDump
  dsimp only
  have hme : s.mayDump = true ↔ (((s.output.set.state = .collecting ∧ s.output.set.broken = true
      ∧ s.output.set.condition = .sound)
      ∨ (s.output.set.condition = .disturbed ∧ s.run.clearanceMark = false))
    ∧ (∀ c, s.output.set.copy = some c → s.output.brokenRecord c = none) ∧ s.lines.purgeFull = false
    ∧ (s.run.state = .running ∨ s.run.state = .draining ∨ s.run.state = .idle ∨ s.run.state = .clearing)) := by
    have ha : (!s.setAwaited) = true ↔ ∀ c, s.output.set.copy = some c → s.output.brokenRecord c = none := by
      unfold State.setAwaited
      cases s.output.set.copy with
      | none => simp
      | some c => simp
    unfold State.mayDump
    simp only [Bool.and_eq_true, beq_iff_eq, Bool.or_eq_true, ha, and_assoc, or_assoc, Bool.not_eq_true']
  rw [← hme]
  refine ⟨fun h => ?_, fun h => ?_⟩
  · rw [if_pos h]; exact dumpBegun s
  · rw [if_neg h]; exact KeepsBut.refl

/-- What `State.examineSet` does (R111, R112). -/
theorem setExamined (s : State) : SetExamined s s.examineSet := ⟨_, ejectExamined s, dumpExamined _⟩

/-- What `State.topNotice` does (R119). -/
theorem noticeGiven (s : State) (c k) : NoticeGiven c k s (s.topNotice c k) := by
  unfold NoticeGiven State.topNotice
  refine ⟨?_, ?_⟩
  · intro n hn
    simp only [hn, if_true]
    refine ⟨_, handsOver s (.topNotice c.statement k n) s.tick, ?_, ?_, ?_, ?_⟩
    · cases k <;> rfl
    · cases k <;> rfl
    · cases k <;> rfl
    · intro b hb; cases b <;> first | (exfalso; simp at hb; done) | exact rfl
  · intro hno
    cases h : s.output.top k with
    | none => exact KeepsBut.refl
    | some x =>
      obtain ⟨d, n⟩ := x
      dsimp only
      rw [if_neg (by rintro rfl; exact hno n h)]; exact KeepsBut.refl

theorem find_filter_ne (l : List BrokenCopy) (c d : Copy) (h : d ≠ c) : (l.filter (fun x => !(x.copy == c))).find? (fun r => r.copy == d) = l.find? (fun r => r.copy == d) := by
  induction l with
  | nil => rfl
  | cons a l ih =>
    by_cases ha : a.copy = c
    · rw [List.filter_cons_of_neg (by simp [ha]), List.find?_cons_of_neg (by rw [ha]; simpa using fun e => h e.symm), ih]
    · rw [List.filter_cons_of_pos (by simp [ha])]
      by_cases hb : a.copy = d
      · rw [List.find?_cons_of_pos (by simp [hb]), List.find?_cons_of_pos (by simp [hb])]
      · rw [List.find?_cons_of_neg (by simp [hb]), List.find?_cons_of_neg (by simp [hb]), ih]

theorem find_filter_eq (l : List BrokenCopy) (c : Copy) : (l.filter (fun x => !(x.copy == c))).find? (fun r => r.copy == c) = none := by
  rw [List.find?_eq_none]
  intro x hx
  have := (List.mem_filter.1 hx).2
  simpa using this

theorem copyLive_iff (s : State) (c : Copy) : s.copyLive c = true ↔ ∃ h sh, s.sheet h = some sh
    ∧ sh.plan.copy = c := by
  unfold State.copyLive State.anySheet
  rw [List.any_eq_true]
  constructor
  · rintro ⟨x, hx, h⟩
    obtain ⟨i, hi, e⟩ := List.mem_iff_getElem.1 hx
    cases x with
    | none => simp at h
    | some sh =>
      refine ⟨⟨i, by simpa using hi⟩, sh, ?_, by simpa using h⟩
      show s.tracker.sheets[i]'(by simpa using hi) = _
      simpa using e
  · rintro ⟨h, sh, h1, h2⟩
    refine ⟨some sh, ?_, by simpa using h2⟩
    rw [← h1]
    unfold State.sheet
    simp

/-- What `State.examineCopy` does (R118). -/
theorem copyExamined (s : State) (c) : CopyExamined c s (s.examineCopy c) := by
  unfold CopyExamined
  dsimp only
  unfold State.examineCopy
  refine ⟨?_, ?_⟩
  · intro h; rw [h]; exact KeepsBut.refl
  · intro r h
    rw [h]
    dsimp only
    refine ⟨?_, ?_⟩
    · intro hh
      rw [if_pos (by rw [Bool.or_eq_true, copyLive_iff]; exact hh)]; exact KeepsBut.refl
    · intro h1 h2
      rw [if_neg (by
        rw [Bool.or_eq_true, copyLive_iff]
        rintro (h3 | h3)
        · rw [h1] at h3; exact absurd h3 (by simp)
        · exact h2 h3)]
      refine ⟨s.setOutput { s.output with broken := s.output.broken.filter (fun x => !(x.copy == c)) },
        find_filter_eq _ _, fun d hd => find_filter_ne _ _ _ hd, rfl, ?_, ?_, ?_⟩
      · intro b hb; cases b <;> first | (exfalso; simp at hb; done) | exact rfl
      · intro hm; unfold State.resolved; rw [hm]; exact dumpExamined _
      · intro hm; unfold State.resolved; rw [hm]; exact ⟨_, noticeGiven _ _ _, noticeGiven _ _ _⟩

theorem note_find (c : Copy) (m) (l : List BrokenCopy) : (noteWithdrawn c (noteBroken c m l)).find? (fun r => r.copy == c) = some ⟨c, (match l.find? (fun r => r.copy == c) with | some r => r.mode | none => m), false⟩
    ∧ ∀ d, d ≠ c
        → (noteWithdrawn c (noteBroken c m l)).find? (fun r => r.copy == d) = l.find? (fun r => r.copy == d) := by
  induction l with
  | nil => 
    refine ⟨by simp [noteBroken, noteWithdrawn], fun d hd => ?_⟩
    have hcd : ¬ c = d := fun e => hd e.symm
    simp [noteBroken, noteWithdrawn, hcd]
  | cons a l ih =>
    by_cases ha : a.copy = c
    · simp only [noteBroken, ha, if_true, noteWithdrawn, List.map_cons]
      refine ⟨by simp [List.find?_cons, ha], fun d hd => ?_⟩
      have hcd : ¬ c = d := fun e => hd e.symm
      rw [List.find?_cons_of_neg (by simpa using hcd), List.find?_cons_of_neg (by simpa [ha] using hcd)]
      clear ih
      induction l with
      | nil => rfl
      | cons b l ih =>
        rw [List.map_cons]
        by_cases hb : b.copy = d
        · have hbc : ¬ b.copy = c := by rw [hb]; exact hd
          rw [if_neg hbc, List.find?_cons_of_pos (by simp [hb]), List.find?_cons_of_pos (by simp [hb])]
        · have hn : ¬ ((if b.copy = c then (⟨b.copy, b.mode, false⟩ : BrokenCopy) else b).copy == d) = true := by
            split
            · simpa using hb
            · simpa using hb
          rw [List.find?_cons_of_neg (p := fun r : BrokenCopy => r.copy == d) hn,
              List.find?_cons_of_neg (by simp [hb]), ih]
    · simp only [noteBroken, ha, if_false]
      have e : noteWithdrawn c (a :: noteBroken c m l) = a :: noteWithdrawn c (noteBroken c m l) :=
          by simp [noteWithdrawn, ha]
      rw [e]
      refine ⟨?_, fun d hd => ?_⟩
      · rw [List.find?_cons_of_neg (by simpa using ha), List.find?_cons_of_neg (by simpa using ha)]; exact ih.1
      · by_cases hb : a.copy = d
        · rw [List.find?_cons_of_pos (by simp [hb]), List.find?_cons_of_pos (by simp [hb])]
        · rw [List.find?_cons_of_neg (by simp [hb]), List.find?_cons_of_neg (by simp [hb])]; exact ih.2 d hd

theorem setBroken_disposeAll (gone : List PlanEntry) (b : List BrokenCopy) : ∀ s : State,
    ((s.setOutput { s.output with broken := b }).disposeAll gone) = (s.disposeAll gone).setOutput { (s.disposeAll gone).output with broken := b } ∧ (s.disposeAll gone).output = s.output := by
  have hd : ∀ (s : State) (o : OutputUnit) (x) , (s.setOutput o).dropReference false x = (s.dropReference false x).setOutput o ∧ (s.dropReference false x).output = s.output := by
    intro s o x
    unfold State.dropReference
    cases x with
    | none => exact ⟨rfl, rfl⟩
    | some y =>
      dsimp only
      rw [show (s.setOutput o).buffer y = s.buffer y from rfl]
      by_cases h : (s.buffer y).state = .held
      · rw [if_pos h, if_pos h, if_neg (by simp), if_neg (by simp)]; exact ⟨rfl, rfl⟩
      · rw [if_neg h, if_neg h]; exact ⟨rfl, rfl⟩
  have hdi : ∀ (s : State) (o : OutputUnit), (s.setOutput o).discardEvent = s.discardEvent.setOutput o
      ∧ s.discardEvent.output = s.output := by
    intro s o; unfold State.discardEvent
    rw [show (s.setOutput o).log = s.log from rfl]
    split <;> exact ⟨rfl, rfl⟩
  have ht : ∀ (s : State) (o : OutputUnit), (s.setOutput o).takeRecord = s.takeRecord.setOutput o
      ∧ s.takeRecord.output = s.output := by
    intro s o
    refine ⟨?_, by simp only [State.takeRecord_keeps]⟩
    unfold State.takeRecord
    rw [show (s.setOutput o).log = s.log from rfl, show (s.setOutput o).logFree = s.logFree from rfl]
    split
    · rfl
    · dsimp only
      generalize takeFrom s.logFree s.log.waiting = p
      obtain ⟨a, b, c⟩ := p
      cases b <;> cases c
      · rfl
      · exact (hdi (s.setLog { s.log with waiting := a, inFlight := none }) o).1
      · rfl
      · dsimp only
        rw [if_pos rfl, if_pos rfl]
        rename_i r
        exact congrArg (fun x => State.ask x (.logWrite s.log.producer r)) (hdi (s.setLog { s.log with waiting := a, inFlight := some (s.log.producer, r) }) o).1
  have hr : ∀ (s : State) (o : OutputUnit) (x), (s.setOutput o).record x = (s.record x).setOutput o := by
    intro s o x
    unfold State.record State.handOver
    rw [show (s.setOutput o).log = s.log from rfl]
    split
    · exact (hdi s o).1
    · exact (ht (s.setLog { s.log with waiting := s.log.waiting ++ [⟨s.tick, x⟩] }) o).1
  have key : ∀ (gone : List PlanEntry) (s : State) (o : OutputUnit), (s.setOutput o).disposeAll gone = (s.disposeAll gone).setOutput o ∧ (s.disposeAll gone).output = s.output := by
    intro gone
    induction gone with
    | nil => intro s o; exact ⟨rfl, rfl⟩
    | cons e l ih =>
      intro s o
      simp only [State.disposeAll]
      have e1 : ∀ o, (s.setOutput o).disposeWithdrawn e = (s.disposeWithdrawn e).setOutput o := by
        intro o
        unfold State.disposeWithdrawn State.dropSides
        rw [(hd s o e.front).1, (hd _ o e.back).1, hr]
      rw [e1, (ih _ o).1]
      refine ⟨rfl, ?_⟩
      rw [(ih (s.disposeWithdrawn e) o).2]
      unfold State.disposeWithdrawn State.dropSides
      rw [show ∀ (s : State) x, (s.record x).output = s.output from fun s x => by simp only [State.record_keeps]]
      rw [(hd _ o e.back).2, (hd s o e.front).2]
  intro s
  refine ⟨?_, (key gone s s.output).2⟩
  rw [(key gone s _).1, (key gone s s.output).2]

/-- The withdrawal by copy of a broken copy (R118). -/
theorem withdrawsBroken (s : State) (c : Copy) (m) : WithdrawsBroken c m s ((s.setOutput { s.output with broken := noteBroken c m s.output.broken }).withdrawBroken c) := by
  obtain ⟨v,
      hv⟩ : ∃ v, v = s.setOutput { s.output with broken := noteWithdrawn c (noteBroken c m s.output.broken) } :=
      ⟨_, rfl⟩
  have e : (s.setOutput { s.output with broken := noteBroken c m s.output.broken }).withdrawBroken c = (v.withdrawCopy c).examineCopy c := by
    have h1 : ∀ b, (s.setOutput { s.output with broken := b }).withdrawCopy c = (s.withdrawCopy c).setOutput { (s.withdrawCopy c).output with broken := b } := by
      intro b
      unfold State.withdrawCopy
      dsimp only
      exact (setBroken_disposeAll _ b (s.setPlan _)).1
    unfold State.withdrawBroken
    dsimp only
    rw [hv, h1, h1]
    rfl
  rw [e]
  have nf := note_find c m s.output.broken
  refine ⟨v, v.withdrawCopy c, ?_, ?_, ?_, ?_, withdrawsCopy v c, copyExamined _ _⟩
  · rw [hv]; rfl
  · rw [hv]; intro b hb; cases b <;> first | (exfalso; simp at hb; done) | exact rfl
  · rw [hv]; exact nf.1
  · rw [hv]; exact nf.2

/-- What `State.breakCopy` does (R117). -/
theorem breaksCopy (s : State) (c : Copy) (m) : BreaksCopy c m s (s.breakCopy c m) := by
  unfold BreaksCopy State.breakCopy
  dsimp only
  refine ⟨_, ?_, ?_, ?_, ?_, ?_, withdrawsBroken _ c m⟩
  · intro h; exact tabulate_get _ _
  · rfl
  · rfl
  · show ({ s.output with set := s.output.set.breakFor c } : OutputUnit) = _
    unfold SetRecord.breakFor; rfl
  · intro b hb; cases b <;> first | (exfalso; simp at hb; done) | exact rfl

theorem kb_only (L : List Block) (s t : State) (h : ∀ b, b ∈ L ∨ b.same s t) : KeepsBut L s t :=
    fun b hb => (h b).resolve_left hb

theorem pending_iff (s : State) : s.setIsPending = true ↔ (s.output.set.state ≠ .empty ∨ ∃ h sh,
    s.sheet h = some sh ∧ sh.route = some .accumulate) := by
  unfold State.setIsPending State.anySheet
  rw [Bool.or_eq_true, List.any_eq_true]
  have : (∃ x ∈ s.tracker.sheets.toList,
      (match x with | some sh => sh.route == some Route.accumulate | none => false) = true) ↔ ∃ h sh, s.sheet h = some sh ∧ sh.route = some .accumulate := by
    constructor
    · rintro ⟨x, hx, h⟩
      obtain ⟨i, hi, e⟩ := List.mem_iff_getElem.1 hx
      cases x with
      | none => simp at h
      | some sh =>
        refine ⟨⟨i, by simpa using hi⟩, sh, ?_, by simpa using h⟩
        show s.tracker.sheets[i]'(by simpa using hi) = _
        simpa using e
    · rintro ⟨h, sh, h1, h2⟩
      refine ⟨some sh, ?_, by simpa using h2⟩
      rw [← h1]
      unfold State.sheet
      simp
  exact or_congr (by simp) this

/-- What `State.decideDirect` does (R106). -/
theorem decidesDirect (s : State) (flag : Bool) : DecidesDirect flag s (s.decideDirect flag) := by
  unfold DecidesDirect State.decideDirect
  dsimp only
  refine ⟨s.commitSet, ?_, ?_, _, _, candidate _ _ _, ?_, ?_⟩
  · intro c f hl hp hc
    refine ⟨_, boundary s f, ?_, ?_⟩
    · unfold State.commitSet
      rw [hl]
      dsimp only
      rw [if_pos]
      · rfl
      · rw [(pending_iff s).2 hp]
        unfold OutputUnit.committedFor
        cases h : s.output.committed with
        | none => rfl
        | some x =>
          obtain ⟨d, k⟩ := x
          have : d ≠ c := by rintro rfl; exact hc k h
          simpa using this
    · unfold State.commitSet
      rw [hl]
      dsimp only
      rw [if_pos]
      · intro b hb; cases b <;> first | (exfalso; simp at hb; done) | exact rfl
      · rw [(pending_iff s).2 hp]
        unfold OutputUnit.committedFor
        cases h : s.output.committed with
        | none => rfl
        | some x =>
          obtain ⟨d, k⟩ := x
          have : d ≠ c := by rintro rfl; exact hc k h
          simpa using this
  · intro h
    unfold State.commitSet
    cases hl : s.output.latest with
    | none => exact KeepsBut.refl
    | some x =>
      obtain ⟨c, f⟩ := x
      dsimp only
      rw [if_neg]
      · exact KeepsBut.refl
      · rw [Bool.and_eq_true, pending_iff]
        rintro ⟨h1, h2⟩
        rcases h with h | h | ⟨c', f', k, h3, h4⟩
        · rw [hl] at h; cases h
        · exact h h1
        · rw [hl] at h3; cases h3
          unfold OutputUnit.committedFor at h2
          rw [h4] at h2; simp at h2
  · rintro ⟨⟨c, hc⟩, hf⟩
    have : avoidCommitted s.commitSet.output.committed s.commitSet.lines.stackerFull (boundaryCandidate s.commitSet.output.active s.commitSet.output.selection s.commitSet.lines.stackerFull flag) = ((boundaryCandidate s.commitSet.output.active s.commitSet.output.selection s.commitSet.lines.stackerFull flag).1.other, .setPending) := by
      unfold avoidCommitted
      rw [hc]; dsimp only; rw [if_pos ⟨rfl, hf⟩]
    rw [this]
    exact settles s.commitSet ((boundaryCandidate s.commitSet.output.active s.commitSet.output.selection s.commitSet.lines.stackerFull flag).1.other, .setPending)
  · intro h
    have : avoidCommitted s.commitSet.output.committed s.commitSet.lines.stackerFull (boundaryCandidate s.commitSet.output.active s.commitSet.output.selection s.commitSet.lines.stackerFull flag) = boundaryCandidate s.commitSet.output.active s.commitSet.output.selection s.commitSet.lines.stackerFull flag := by
      unfold avoidCommitted
      cases hc : s.commitSet.output.committed with
      | none => rfl
      | some x =>
        obtain ⟨c, k⟩ := x
        dsimp only
        rw [if_neg]
        rintro ⟨rfl, h2⟩
        exact h ⟨⟨c, hc⟩, h2⟩
    rw [this]
    exact settles _ _

/-- What `State.doubt` does (R114, R143). -/
theorem doubts (s : State) (x c) : Doubts x c s (s.doubt x c) := by
  refine ⟨((s.setOutput { s.output with set := { s.output.set with condition := x } }).setRun { s.run with clearanceMark := true }), rfl, rfl, ?_, ?_, ?_⟩
  · intro b hb; cases b <;> first | (exfalso; simp at hb; done) | exact rfl
  · intro h
    have : s.doubt x c = ((s.setOutput { s.output with set := { s.output.set with condition := x } }).setRun { s.run with clearanceMark := true }).finishIf .clear .failed c.detail := if_pos h
    rw [this]; exact finishes _ _ _ _
  · intro h
    have : s.doubt x c = ((s.setOutput { s.output with set := { s.output.set with condition := x } }).setRun { s.run with clearanceMark := true }) := if_neg h
    rw [this]; exact KeepsBut.refl

/-- What `State.disturb` does (R114). -/
theorem disturbs (s : State) (c) : Disturbs False c s (s.disturb c) := by
  refine ⟨fun h => h.elim, fun h => h.elim, fun _ h => ?_, fun _ h => ?_⟩
  · rw [State.disturb, if_pos h]; exact doubts _ _ _
  · rw [State.disturb, if_neg h]; exact KeepsBut.refl

/-- What `State.scatter` does (R114). -/
theorem scatters (s : State) (c) : Disturbs True c s (s.scatter c) := by
  refine ⟨fun _ h => ?_, fun _ h => ?_, fun h => absurd trivial h, fun h => absurd trivial h⟩
  · rw [State.scatter, if_neg h]; exact doubts _ _ _
  · rw [State.scatter, if_pos h]; exact KeepsBut.refl

theorem flies_iff (r : SetRecord) : r.inFlight = true ↔ r.flies := by
  unfold SetRecord.inFlight SetRecord.flies; simp

/-- What `State.coverSet` does (R114, R149). -/
theorem coversSet (s : State) : CoversSet s s.coverSet := by
  have cut : s.output.set.flies → ∃ v, (∀ x, v.sensor x = { s.sensor x with
        expectations := (s.sensor x).expectations.filter (fun e => e.item != .set)
        occupant := if (s.sensor x).occupant = .set then .untracked else (s.sensor x).occupant
        coverTimer := if (s.sensor x).occupant = .set then none else (s.sensor x).coverTimer })
      ∧ v.tracker.sheets = s.tracker.sheets ∧ v.tracker.timing = s.tracker.timing ∧ KeepsBut [.tracker] s v
      ∧ Disturbs True .coverOpen v (s.cutSetOff.scatter .coverOpen) := by
    intro _
    refine ⟨s.cutSetOff, ?_, rfl, rfl, ?_, scatters _ _⟩
    · intro x
      show (tabulate 15 _)[x.index] = _
      rw [tabulate_get]
      by_cases h : (s.sensor x).occupant = .set
      · rw [if_pos h, if_pos h]; exact if_pos h
      · rw [if_neg h, if_neg h]; exact if_neg h
    · intro b hb; cases b <;> first | (exfalso; simp at hb; done) | exact rfl
  refine ⟨fun h => ?_, fun h h2 => ?_, fun h => ?_⟩
  · have : s.coverSet = s.cutSetOff.scatter .coverOpen := by
      unfold State.coverSet; rcases h with h | h <;> rw [h]
    rw [this]; exact cut h
  · have : s.coverSet = s.disturb .coverOpen := by
      unfold State.coverSet
      unfold SetRecord.flies at h
      cases hs : s.output.set.state <;> simp [hs] at h h2 ⊢
    rw [this]; exact disturbs _ _
  · have : s.coverSet = s := by unfold State.coverSet; rw [h]
    rw [this]; exact KeepsBut.refl

/-- What `State.rewithdraw` does (R118). -/
theorem rewithdraws (s : State) (e : PlanEntry) : Rewithdraws e s (s.rewithdraw e.copy) := by
  unfold State.rewithdraw
  refine ⟨fun h => ?_, fun r h => ?_⟩
  · rw [h]; exact KeepsBut.refl
  · rw [h]; exact withdrawsBroken _ _ _

theorem rewithdrawsAll (l : List PlanEntry) : ∀ s : State, Each Rewithdraws l s (s.rewithdrawAll l) := by
  induction l with
  | nil => intro s; exact KeepsBut.refl
  | cons e l ih => intro s; exact ⟨_, rewithdraws s e, ih _⟩

/-- What `State.discardGrid` does (R57). -/
theorem gridDiscarded (s : State) : GridDiscarded s s.discardGrid := by
  refine ⟨rfl, rfl, rfl, rfl, ?_, ?_⟩
  · intro h; exact tabulate_get _ _
  · intro b hb; cases b <;> first | (exfalso; simp at hb; done) | exact rfl

theorem finishIf_running (s : State) (c r d) (h : s.run.running = none) : s.finishIf c r d = s := by
  unfold State.finishIf State.runs; rw [h]; simp

theorem failWaiting_rel (s : State) (c : Cause) :
   (∀ k, s.run.running = some k →
          k.code = some .start ∨ k.code = some .stop ∨ k.code = some .cancelSpeedChange →
          (s.failWaiting c).run = s.run.finished
              ∧ (s.failWaiting c).junction = s.junction.asked [finishOp k .failed (0x100 + c.code)]
            ∧ KeepsBut [.run, .junction] s (s.failWaiting c))
      ∧ ((∀ k, s.run.running = some k →
          k.code ≠ some .start ∧ k.code ≠ some .stop ∧ k.code ≠ some .cancelSpeedChange)
              → KeepsBut [] s (s.failWaiting c)) := by
  unfold State.failWaiting
  cases hr : s.run.running with
  | none =>
    refine ⟨by simp, fun _ => ?_⟩
    rw [finishIf_running s _ _ _ hr, finishIf_running s _ _ _ hr, finishIf_running s _ _ _ hr]; exact KeepsBut.refl
  | some k =>
    have hit : ∀ code d, k.code = some code
        → s.finishIf code .failed d = (s.setRun s.run.finished).ask (finishOp k .failed d) := by
      intro code d h
      have he : s.runs code = true := by unfold State.runs; rw [hr]; simp [h]
      unfold State.finishIf; rw [if_pos he]; exact State.finish_running s k hr _ _
    have miss : ∀ code d, k.code ≠ some code → s.finishIf code .failed d = s := by
      intro code d h
      unfold State.finishIf State.runs; rw [hr]; dsimp only; rw [if_neg (by simpa using h)]
    have done : ∀ code d x, ((s.setRun s.run.finished).ask x).finishIf code .failed d = (s.setRun s.run.finished).ask x := fun code d x => finishIf_running _ _ _ _ rfl
    have fin : ∀ t, t = (s.setRun s.run.finished).ask (finishOp k .failed c.detail) → t.run = s.run.finished
        ∧ t.junction = s.junction.asked [finishOp k .failed (0x100 + c.code)] ∧ KeepsBut [.run, .junction] s t := by
      intro t ht; rw [ht]; exact ⟨rfl, rfl,
          by intro b hb; cases b <;> first | (exfalso; simp at hb; done) | exact rfl⟩
    refine ⟨?_, ?_⟩
    · intro k' hk h
      obtain rfl : k = k' := by simpa using hk
      apply fin
      rcases h with h | h | h
      · rw [hit _ _ h, done, done]
      · rw [miss .start _ (by rw [h]; simp), hit _ _ h, done]
      · rw [miss .start _ (by rw [h]; simp), miss .stop _ (by rw [h]; simp), hit _ _ h]
    · intro h
      obtain ⟨h1, h2, h3⟩ := h k rfl
      rw [miss _ _ h1, miss _ _ h2, miss _ _ h3]; exact KeepsBut.refl

theorem returnEntries_eq (q l : List PlanEntry) : returnEntries q l = l.reverse ++ q := by
  induction l generalizing q with
  | nil => rfl
  | cons a l ih => rw [returnEntries, ih]; simp

theorem mem_insertNewest (x : PlanEntry) (l) (e) : e ∈ insertNewest x l ↔ e = x ∨ e ∈ l := by
  induction l with
  | nil => simp [insertNewest]
  | cons y l ih =>
    unfold insertNewest; split
    · simp
    · simp [ih]; tauto
theorem mem_newestFirst (l) (e : PlanEntry) : e ∈ newestFirst l ↔ e ∈ l := by
  induction l with
  | nil => rfl
  | cons y l ih => simp [newestFirst, mem_insertNewest, ih]
theorem insertNewest_perm (x : PlanEntry) (l) : (insertNewest x l).Perm (x :: l) := by
  induction l with
  | nil => exact .refl _
  | cons y l ih =>
    unfold insertNewest; split
    · exact .refl _
    · exact (ih.cons y).trans (.swap x y l)
theorem newestFirst_perm (l) : (newestFirst l).Perm l := by
  induction l with
  | nil => exact .refl _
  | cons y l ih => exact (insertNewest_perm y _).trans (ih.cons y)
theorem insertNewest_sorted (x : PlanEntry) (l) (h : l.Pairwise (fun a b => b.sequence ≤ a.sequence)) : (insertNewest x l).Pairwise (fun a b => b.sequence ≤ a.sequence) := by
  induction l with
  | nil => simp [insertNewest]
  | cons y l ih =>
    rw [List.pairwise_cons] at h
    unfold insertNewest; split
    · next hlt =>
      rw [List.pairwise_cons, List.pairwise_cons]
      refine ⟨?_, h.1, h.2⟩
      intro e he
      rcases List.mem_cons.1 he with rfl | he
      · omega
      · have := h.1 e he; omega
    · next hlt =>
      rw [List.pairwise_cons]
      refine ⟨?_, ih h.2⟩
      intro e he
      rcases (mem_insertNewest _ _ _).1 he with rfl | he
      · omega
      · exact h.1 e he
theorem newestFirst_sorted (l) : (newestFirst l).Pairwise (fun a b => b.sequence ≤ a.sequence) := by
  induction l with
  | nil => simp [newestFirst]
  | cons y l ih => exact insertNewest_sorted _ _ ih

theorem scheduled_pair (s : State) (h : Handle) (sh : Sheet) : (h, sh) ∈ s.scheduled ↔ s.sheet h = some sh
    ∧ sh.state = .scheduled := by
  simp only [State.scheduled, List.mem_filterMap, indices, tabulateList_eq]
  constructor
  · rintro ⟨c, _, hc⟩
    split at hc
    · next sh' hsh =>
      split at hc
      · next hst => cases hc; exact ⟨hsh, hst⟩
      · cases hc
    · cases hc
  · rintro ⟨h1, h2⟩
    refine ⟨h, List.mem_ofFn.2 ⟨h, rfl⟩, ?_⟩
    rw [h1]; simp [h2]

theorem scheduled_plans (s : State) : s.scheduled.map (fun p => p.2.plan) = s.scheduledPlans := by
  have hi : indices 16 = List.finRange 16 := by rw [indices, tabulateList_eq]; rfl
  rw [State.scheduled, State.scheduledPlans, hi, List.map_filterMap]
  congr 1
  funext h
  cases s.sheet h with
  | none => rfl
  | some sh => by_cases e : sh.state = .scheduled <;> simp [Option.filter, e]

theorem freeScheduled_timers (l : List Handle) : ∀ s : State, (∀ h,
    (s.freeScheduled l).timers h = if h ∈ l then SheetTimers.none else s.timers h)
    ∧ (s.freeScheduled l).scheduler = { s.scheduler with timers := (s.freeScheduled l).scheduler.timers } := by
  induction l with
  | nil => intro s; exact ⟨by simp [State.freeScheduled], rfl⟩
  | cons a l ih =>
    intro s
    obtain ⟨i1, i2⟩ := ih ((s.putSheet a none).putTimers a SheetTimers.none)
    refine ⟨?_, ?_⟩
    · intro h
      rw [State.freeScheduled, i1]
      by_cases hj : h = a
      · subst hj
        simp only [List.mem_cons, true_or, if_true]
        split
        · rfl
        · exact put_same _ _ _
      · simp only [List.mem_cons, hj, false_or]
        split
        · rfl
        · exact put_other _ _ _ _ hj
    · rw [State.freeScheduled]; rw [i2]; rfl

theorem ownedBy_iff (n : Nat) (p : Handle × Sheet) (e : RingEntry) : e.ownedBy n p = true ↔ ((e = .front p.1
    ∧ p.2.frontSlot = n) ∨ (e = .back p.1 ∧ p.2.backSlot = some n)) := by
  cases e with
  | free => simp [RingEntry.ownedBy]
  | front h => simp only [RingEntry.ownedBy, Bool.and_eq_true, beq_iff_eq, RingEntry.front.injEq, reduceCtorEq,
      false_and, or_false]; exact and_congr_right fun _ => eq_comm
  | back h => simp only [RingEntry.ownedBy, Bool.and_eq_true, beq_iff_eq, RingEntry.back.injEq, reduceCtorEq,
      false_and, false_or]; exact and_congr_right fun _ => eq_comm

/-- What `State.deschedule` does (R72). -/
theorem deschedules (s : State) : Deschedules s s.deschedule := by
  unfold State.deschedule
  dsimp only
  have k := State.freeScheduled_spec s (s.scheduled.map (fun p => p.1))
  obtain ⟨t1, t2⟩ := freeScheduled_timers (s.scheduled.map (fun p => p.1)) s
  obtain ⟨f, hf⟩ : ∃ f, f = s.freeScheduled (s.scheduled.map (fun p => p.1)) := ⟨_, rfl⟩
  rw [← hf] at k t1 t2 ⊢
  have fg : f.scheduler.grid = s.scheduler.grid := by rw [t2]
  have fp : f.scheduler.pickBounds = s.scheduler.pickBounds := by rw [t2]
  have fw : f.scheduler.waitReason = s.scheduler.waitReason := by rw [t2]
  have hp : f.plan = s.plan := k.keeps .plan (by simp)
  obtain ⟨y, hy⟩ : ∃ y, y = (f.setScheduler { f.scheduler with
      grid := f.scheduler.grid.map (fun g => g.release s.scheduled), admissionBounds :=
          f.scheduler.pickBounds }).setPlan
        { f.plan with queue := returnEntries f.plan.queue (newestFirst (s.scheduled.map (fun p => p.2.plan))) } :=
            ⟨_, rfl⟩
  refine ⟨newestFirst (s.scheduled.map (fun p => p.2.plan)), y, newestFirst_sorted _, ?_, ?_, ?_, ?_, ?_, ?_, ?_,
      ?_, ?_, ?_, ?_, ?_, ?_⟩
  · exact scheduled_plans s ▸ newestFirst_perm _
  · rw [hy]; show ({ f.plan with queue := returnEntries f.plan.queue _ } : PlanIntake) = _
    rw [returnEntries_eq, hp]
  · intro h
    refine (show y.sheet h = f.sheet h by rw [hy]; rfl).trans ?_
    rw [k.sheets]
    by_cases hm : h ∈ s.scheduled.map (fun p => p.1)
    · rw [if_pos hm]
      obtain ⟨sh, e1, e2⟩ := (State.mem_scheduled s h).1 hm
      simp [e1, e2]
    · rw [if_neg hm]
      rw [State.mem_scheduled] at hm
      cases hsh : s.sheet h with
      | none => rfl
      | some sh =>
        have : sh.state ≠ .scheduled := fun e => hm ⟨sh, hsh, e⟩
        simp [this]
  · rw [hy]; exact k.sensors
  · rw [hy]; exact k.timing
  · intro h
    refine (show y.timers h = f.timers h by rw [hy]; rfl).trans ?_
    rw [t1]
    by_cases hm : h ∈ s.scheduled.map (fun p => p.1)
    · rw [if_pos hm]
      obtain ⟨sh, e1, e2⟩ := (State.mem_scheduled s h).1 hm
      simp [e1, e2]; rfl
    · rw [if_neg hm]
      rw [State.mem_scheduled] at hm
      cases hsh : s.sheet h with
      | none => rfl
      | some sh =>
        have : sh.state ≠ .scheduled := fun e => hm ⟨sh, hsh, e⟩
        simp [this]
  · intro hg
    rw [hy]
    show f.scheduler.grid.map _ = none
    rw [fg, hg]; rfl
  · intro g hg
    refine ⟨(g.release s.scheduled).ring, ?_, ?_, ?_⟩
    · rw [hy]; show f.scheduler.grid.map _ = _
      rw [fg, hg]; rfl
    · unfold Grid.release; simp
    · intro i e he
      have hx : (g.release s.scheduled).ring[i]? = some (if s.scheduled.any (fun p => e.ownedBy (g.current + i) p) then .free else e) := by
        unfold Grid.release; simp [he]
      have hiff : s.scheduled.any (fun p => e.ownedBy (g.current + i) p) = true ↔ ∃ h sh, s.sheet h = some sh
          ∧ sh.state = .scheduled
              ∧ ((e = .front h ∧ sh.frontSlot = g.current + i) ∨ (e = .back h
                  ∧ sh.backSlot = some (g.current + i))) := by
        rw [List.any_eq_true]
        constructor
        · rintro ⟨⟨h, sh⟩, h1, h2⟩
          obtain ⟨h3, h4⟩ := (scheduled_pair s h sh).1 h1
          exact ⟨h, sh, h3, h4, (ownedBy_iff _ _ _).1 h2⟩
        · rintro ⟨h, sh, h3, h4, h2⟩
          exact ⟨(h, sh), (scheduled_pair s h sh).2 ⟨h3, h4⟩, (ownedBy_iff _ (h, sh) _).2 h2⟩
      dsimp only
      rw [← hiff, hx]
      refine ⟨fun h => ?_, fun h => ?_⟩
      · rw [if_pos h]
      · rw [if_neg h]
  · rw [hy]; exact fp
  · rw [hy]; exact fp
  · rw [hy]; exact fw
  · rw [hy]; intro b hb
    have := k.keeps b
    cases b <;> first | (exfalso; simp at hb; done) | exact this (by simp)
  · rw [hy]; exact rewithdrawsAll _ _

/-- What `State.enterStop` does (R135, R139). -/
theorem stopsFor (s : State) (r : Report) : StopsFor r s (s.enterStop r) := by
  obtain ⟨v,
      hv⟩ : ∃ v, v = (s.setRun { s.run with state := .stopping, jam := some (r.jam s.tick), graceDeadline := some (s.graceFor r.cause) }).coast := ⟨_, rfl⟩
  have e : s.enterStop r = ((v.deschedule.discardGrid).abortChange s.run.changing).failWaiting r.cause :=
      by rw [hv]; rfl
  rw [e]
  have hc : s.run.changing = true ↔ (s.run.state = .respeed ∨ (s.run.state = .draining
      ∧ s.run.drainTarget ≠ none)) := by
    unfold RunControl.changing
    cases s.run.drainTarget <;> simp; exact or_comm
  obtain ⟨f1, f2⟩ := failWaiting_rel ((v.deschedule.discardGrid).abortChange s.run.changing) r.cause
  refine ⟨v, v.deschedule, v.deschedule.discardGrid, (v.deschedule.discardGrid).abortChange s.run.changing, ?_, ?_,
      ?_, deschedules _, gridDiscarded _, ?_, ?_, f1, f2⟩
  · have hg : s.graceFor r.cause = (match s.config with
          | some c => if r.cause = .coverOpen then s.tick else s.tick + BitVec.ofNat 32 c.stopGrace
          | none => s.tick) := by
      unfold State.graceFor State.stopGrace
      cases s.config with
      | some c => rfl
      | none => simp [after]
    rw [hv]; show ({ s.run with state := .stopping, jam := some (r.jam s.tick), graceDeadline := some (s.graceFor r.cause) } : RunControl) = _
    rw [hg]; rfl
  · rw [hv]; rfl
  · rw [hv]; intro b hb; cases b <;> first | (exfalso; simp at hb; done) | exact rfl
  · intro h
    rw [(hc.2 h : s.run.changing = true)]
    exact ⟨rfl, rfl, by intro b hb; cases b <;> first | (exfalso; simp at hb; done) | exact rfl⟩
  · intro h
    rw [show s.run.changing = false by rw [← Bool.not_eq_true, hc]; exact h]
    exact KeepsBut.refl

/-- What `State.report` does (R138, R141). -/
theorem reported (s : State) (r : Report) : Reported r s (s.report r) := by
  refine ⟨?_, ?_, ?_⟩
  · intro h
    have k := State.report_first s r h
    refine ⟨?_, k.set, k.sensors⟩
    rw [State.report_runs s r h]; exact stopsFor _ _
  · intro h
    rw [State.report_later s r h]
    exact ⟨rfl, by intro b hb; cases b <;> first | (exfalso; simp at hb; done) | exact rfl⟩
  · intro h h2
    rw [State.report_none s r h2 h]; exact KeepsBut.refl

/-- What `State.setFailure` does (R150). -/
theorem setFails (s : State) (r : Report) : SetFails r s (s.setFailure r) := by
  refine ⟨s.setRun { s.run with lastJam := some (r.jam s.tick) }, _, rfl, ?_, handsOver _ _ _, rfl, ?_⟩
  · intro b hb; cases b <;> first | (exfalso; simp at hb; done) | exact rfl
  · intro b hb; cases b <;> first | (exfalso; simp at hb; done) | exact rfl

/-- What `State.fault` does (R97, R150). -/
theorem faults (s : State) (c x i) : Faults (s.reportOf c x i) s (s.fault c x i) := by
  unfold Faults State.fault
  refine ⟨fun h => ?_, fun h => ?_⟩
  · rw [if_pos h]; exact reported _ _
  · rw [if_neg (by rw [h]; simp)]; exact setFails _ _

theorem liveCount_zero (s : State) : s.liveCount = 0 ↔ ∀ h, s.sheet h = none := by
  unfold State.liveCount
  rw [List.length_eq_zero_iff, List.filter_eq_nil_iff]
  constructor
  · intro h i
    have := h (s.tracker.sheets[i]) (by simp)
    unfold State.sheet
    cases hh : s.tracker.sheets[i] with
    | none => rfl
    | some _ => rw [hh] at this; simp at this
  · intro h x hx
    obtain ⟨i, hi, e⟩ := List.mem_iff_getElem.1 hx
    have := h ⟨i, by simpa using hi⟩
    have e2 : s.tracker.sheets[i]'(by simpa using hi) = x := by simpa using e
    have e3 : s.tracker.sheets[i]'(by simpa using hi) = none := this
    rw [e3] at e2
    rw [← e2]; simp

/-- What `State.examineDrain` does (R142). -/
theorem drainExamined (s : State) : DrainExamined s s.examineDrain := by
  have hd : s.drained = true ↔ (s.run.state = .draining ∧ (∀ h, s.sheet h = none) ∧ ¬ s.output.set.flies) := by
    unfold State.drained
    rw [← flies_iff, ← liveCount_zero]
    simp [and_assoc]
  unfold DrainExamined
  dsimp only
  rw [← hd]
  refine ⟨fun h => ?_, fun h => ?_⟩
  · unfold State.examineDrain; rw [if_neg h]; exact KeepsBut.refl
  · refine ⟨s.discardGrid, gridDiscarded s, ?_, ?_⟩
    · intro ht
      rw [show s.examineDrain = (((s.discardGrid.coast).enter .idle).finishIf .stop .done 0).examineSet by
        unfold State.examineDrain; rw [if_pos h, ht]]
      refine ⟨(s.discardGrid.coast).enter .idle, _, rfl, rfl, ?_, finishes _ _ _ _, setExamined _⟩
      intro b hb; cases b <;> first | (exfalso; simp at hb; done) | exact rfl
    · intro code c ht hc
      rw [show s.examineDrain = (s.discardGrid.setRun { s.run with state := .respeed, changeStatus := .relocking }).withDrive
          (fun d => d.relockTo s.tick code s.lockTimeoutTicks) by
        unfold State.examineDrain; rw [if_pos h, ht]; rfl]
      refine ⟨?_, rfl, ?_⟩
      · show s.drive.relockTo s.tick code s.lockTimeoutTicks = _
        unfold State.lockTimeoutTicks; rw [hc]
      · intro b hb; cases b <;> first | (exfalso; simp at hb; done) | exact rfl

/-- What `State.examineClearance` does (R147). -/
theorem clearanceExamined (s : State) : ClearanceExamined s s.examineClearance := by
  have hd : s.cleared = true ↔ (s.run.state = .clearing ∧ s.run.outstanding = 0 ∧ s.run.clearanceMark = false
    ∧ (s.output.set.state = .empty ∨ (s.output.set.condition = .sound ∧ s.output.set.broken = false))) := by
    unfold State.cleared SetRecord.settled
    simp; tauto
  unfold ClearanceExamined
  dsimp only
  rw [← hd]
  unfold State.examineClearance
  refine ⟨fun h => ?_, fun h => ?_⟩
  · rw [if_neg h]; exact KeepsBut.refl
  · rw [if_pos h]
    refine ⟨s.enter .idle, _, rfl, ?_, finishes _ _ _ _, setExamined _⟩
    intro b hb; cases b <;> first | (exfalso; simp at hb; done) | exact rfl

/-- What `State.expireGrace` does (R99, R140). -/
theorem graceEnds (s : State) : GraceEnds s s.expireGrace := by
  unfold State.expireGrace
  dsimp only
  obtain ⟨w, hw⟩ : ∃ w, w = (if s.strand.output.set.inFlight then s.strand.scatter .late else s.strand) := ⟨_, rfl⟩
  rw [← hw]
  have wr : w.run.jam = s.run.jam := by
    rw [hw]; split
    · unfold State.scatter State.doubt; split
      · rfl
      · dsimp only; split
        · rw [State.finishIf]; split
          · unfold State.finish; split <;> rfl
          · rfl
        · rfl
    · rfl
  refine ⟨s.strand, w, w.setRun { w.run with lastJam := s.run.jam, jam := none }, w.completeJam, ?_, ?_, rfl, ?_,
      ?_, ?_, ?_, ?_, ?_, rfl, ?_⟩
  · intro h; exact tabulate_get _ _
  · intro p
    show (tabulate 15 _)[p.index] = _
    rw [tabulate_get]
    have o : ∀ o : Occupant, (match o with | .none => Occupant.none | .untracked => .untracked | .sheet _ => .untracked | .set => .untracked) = o.stranded := by intro o; cases o <;> rfl
    exact congrArg (fun o => ({ s.sensor p with expectations := [], coverTimer := none, occupant := o } : SensorRecord)) (o (s.sensor p).occupant)
  · intro b hb; cases b <;> first | (exfalso; simp at hb; done) | exact rfl
  · intro h; rw [hw, if_pos ((flies_iff s.strand.output.set).2 h)]; exact scatters _ _
  · intro h; rw [hw, if_neg (fun h2 => h ((flies_iff s.strand.output.set).1 h2))]; exact KeepsBut.refl
  · intro h; unfold State.completeJam; rw [wr, h]; exact KeepsBut.refl
  · intro j h
    refine ⟨by rw [h]; rfl, ?_, ?_⟩
    · intro b hb; cases b <;> first | (exfalso; simp at hb; done) | exact rfl
    · unfold State.completeJam; rw [wr, h]
      exact handsOver _ _ _
  · rfl
  · intro b hb; cases b <;> first | (exfalso; simp at hb; done) | exact rfl

theorem bufferAvailable_rel (s : State) : (s.bufferAvailable).buffers.table = s.buffers.table
    ∧ (s.buffers.claimWaiting = true → s.bufferAvailable.buffers.claimWaiting = false
        ∧ s.bufferAvailable.attention = { s.attention with p := s.attention.p.add .bufferAvailable, lineP := true })
    ∧ (s.buffers.claimWaiting = false → s.bufferAvailable.buffers.claimWaiting = false
        ∧ s.bufferAvailable.attention = s.attention)
    ∧ KeepsBut [.buffers, .attention] s s.bufferAvailable := by
  unfold State.bufferAvailable
  cases h : s.buffers.claimWaiting
  · exact ⟨rfl, by simp, fun _ => ⟨h, rfl⟩, KeepsBut.refl⟩
  · refine ⟨rfl, fun _ => ⟨rfl, rfl⟩, by simp, ?_⟩
    intro b hb; cases b <;> first | (exfalso; simp at hb; done) | exact rfl

theorem dropDelivered0 (s : State) : DropsDelivered (fun _ => 0) s s :=
  ⟨fun b h => absurd rfl h.2.1, fun b _ _ => rfl, fun b _ => rfl, fun _ ⟨b, h⟩ => absurd rfl h.2.1, fun _ => ⟨rfl,
      rfl⟩, KeepsBut.refl⟩

/-- Dropping `n` references for delivery frees the buffer (R49). -/
abbrev Freed (x : Buffer) (n : Nat) : Prop := x.state = .held ∧ n ≠ 0 ∧ x.count ≤ n ∧ x.persistent = false

/-- A buffer after `n` references to it were dropped for delivery (R49). -/
def afterDelivered (x : Buffer) (n : Nat) : Buffer :=
  if Freed x n then ⟨.free, none, 0, false, false⟩ else if x.state = .held then { x with count := x.count - n } else x

theorem dd_iff (m : BufferNo → Nat) (u t : State) : DropsDelivered m u t ↔
   (∀ b, t.buffer b = afterDelivered (u.buffer b) (m b))
    ∧ (u.buffers.claimWaiting = true → (∃ b, Freed (u.buffer b) (m b)) → t.buffers.claimWaiting = false
        ∧ t.attention = { u.attention with p := u.attention.p.add .bufferAvailable, lineP := true })
    ∧ (u.buffers.claimWaiting = false ∨ (∀ b, ¬ Freed (u.buffer b) (m b))
        → t.buffers.claimWaiting = u.buffers.claimWaiting
        ∧ t.attention = u.attention)
    ∧ KeepsBut [.buffers, .attention] u t := by
  constructor
  · rintro ⟨h1, h2, h3, h4, h5, h6⟩
    refine ⟨?_, h4, h5, h6⟩
    intro b
    unfold afterDelivered
    by_cases hf : Freed (u.buffer b) (m b)
    · rw [if_pos hf]; exact h1 b hf
    · rw [if_neg hf]
      by_cases hh : (u.buffer b).state = .held
      · rw [if_pos hh]; exact h2 b hf hh
      · rw [if_neg hh]; exact h3 b hh
  · rintro ⟨h1, h4, h5, h6⟩
    refine ⟨?_, ?_, ?_, h4, h5, h6⟩
    · intro b (hf : Freed _ _); rw [h1, afterDelivered, if_pos hf]
    · intro b (hf : ¬ Freed _ _) hh; rw [h1, afterDelivered, if_neg hf, if_pos hh]
    · intro b hh; rw [h1, afterDelivered, if_neg (fun hf => hh hf.1), if_neg hh]

theorem not_freed0 (x : Buffer) : ¬ Freed x 0 := fun h => h.2.1 rfl
theorem afterDelivered_zero (x : Buffer) : afterDelivered x 0 = x := by
  rw [afterDelivered, if_neg (not_freed0 x)]; split <;> rfl

theorem freed_free (n : Nat) : ¬ Freed ⟨.free, none, 0, false, false⟩ n := by rintro ⟨h, -⟩; cases h

theorem freed_add (x : Buffer) (m n : Nat) : Freed x (m + n) ↔ Freed x m ∨ Freed (afterDelivered x m) n := by
  by_cases h : Freed x m
  · refine ⟨fun _ => .inl h, fun _ => ⟨h.1, by have := h.2.1; omega, by have := h.2.2.1; omega, h.2.2.2⟩⟩
  · rw [afterDelivered, if_neg h]
    by_cases hh : x.state = .held
    · rw [if_pos hh]
      unfold Freed at h ⊢
      simp only [hh, true_and] at h ⊢
      cases hp : x.persistent <;> simp [hp] at h ⊢
      omega
    · rw [if_neg hh]
      unfold Freed
      simp [hh]

theorem afterDelivered_add (x : Buffer) (m n : Nat) : afterDelivered (afterDelivered x m) n = afterDelivered x (m + n) := by
  by_cases h : Freed x m
  · have h2 : Freed x (m + n) := (freed_add x m n).2 (.inl h)
    rw [afterDelivered, afterDelivered, if_pos h, afterDelivered, if_pos h2, if_neg (freed_free n)]; rfl
  · by_cases h3 : Freed (afterDelivered x m) n
    · have h2 : Freed x (m + n) := (freed_add x m n).2 (.inr h3)
      rw [afterDelivered, if_pos h3, afterDelivered, if_pos h2]
    · have h2 : ¬ Freed x (m + n) := fun e => ((freed_add x m n).1 e).elim h h3
      rw [afterDelivered, if_neg h3]
      have hd : afterDelivered x m = if x.state = .held then { x with count := x.count - m } else x :=
          by rw [afterDelivered, if_neg h]
      rw [hd]
      rw [afterDelivered, if_neg h2]
      by_cases hh : x.state = .held
      · simp [hh, Nat.sub_sub]
      · simp [hh]

theorem DropsDelivered.congr {m n : BufferNo → Nat} {u t : State} (h : DropsDelivered m u t) (e : ∀ b,
    m b = n b) : DropsDelivered n u t := by
  have : m = n := funext e
  rw [← this]; exact h

theorem DropsDelivered.trans' {m n : BufferNo → Nat} {u v t : State} (h : DropsDelivered m u v) (k : DropsDelivered n v t) : DropsDelivered (fun b => m b + n b) u t := by
  rw [dd_iff] at h k ⊢
  obtain ⟨h1, h2, h3, h4⟩ := h
  obtain ⟨k1, k2, k3, k4⟩ := k
  have hf : ∀ b, Freed (u.buffer b) (m b + n b) ↔ Freed (u.buffer b) (m b) ∨ Freed (v.buffer b) (n b) := by
    intro b; rw [freed_add, h1]
  refine ⟨?_, ?_, ?_, h4.trans k4⟩
  · intro b; rw [k1, h1, afterDelivered_add]
  · rintro hc ⟨b, hb⟩
    by_cases e : ∃ b, Freed (u.buffer b) (m b)
    · obtain ⟨h5, h6⟩ := h2 hc e
      obtain ⟨k5, k6⟩ := k3 (.inl h5)
      exact ⟨k5.trans h5, k6.trans h6⟩
    · have hb2 : Freed (v.buffer b) (n b) := ((hf b).1 hb).resolve_left (fun x => e ⟨b, x⟩)
      obtain ⟨h5, h6⟩ := h3 (.inr (fun b x => e ⟨b, x⟩))
      obtain ⟨k5, k6⟩ := k2 (h5.trans hc) ⟨b, hb2⟩
      exact ⟨k5, by rw [k6, h6]⟩
  · intro hc
    have hc1 : u.buffers.claimWaiting = false ∨ ∀ b, ¬ Freed (u.buffer b) (m b) :=
        hc.imp id (fun x b y => x b ((hf b).2 (.inl y)))
    obtain ⟨h5, h6⟩ := h3 hc1
    have hc2 : v.buffers.claimWaiting = false ∨ ∀ b, ¬ Freed (v.buffer b) (n b) :=
        hc.imp (fun x => h5.trans x) (fun x b y => x b ((hf b).2 (.inr y)))
    obtain ⟨k5, k6⟩ := k3 hc2
    exact ⟨k5.trans h5, k6.trans h6⟩

theorem dropDelivered1 (s : State) (o : Option BufferNo) : DropsDelivered (fun b => if o = some b then 1 else 0) s (s.dropReference true o) := by
  rw [dd_iff]
  have none_case : ∀ (hn : ∀ b, (s.buffer b).state = .held
      → (if o = some b then 1 else 0) = 0), s.dropReference true o = s → 
      (∀ b, (s.dropReference true o).buffer b = afterDelivered (s.buffer b) (if o = some b then 1 else 0))
    ∧ (s.buffers.claimWaiting = true → (∃ b, Freed (s.buffer b) (if o = some b then 1 else 0))
        → (s.dropReference true o).buffers.claimWaiting = false
        ∧ (s.dropReference true o).attention = { s.attention with p := s.attention.p.add .bufferAvailable, lineP := true })
    ∧ (s.buffers.claimWaiting = false ∨ (∀ b, ¬ Freed (s.buffer b) (if o = some b then 1 else 0))
        → (s.dropReference true o).buffers.claimWaiting = s.buffers.claimWaiting
        ∧ (s.dropReference true o).attention = s.attention)
    ∧ KeepsBut [.buffers, .attention] s (s.dropReference true o) := by
    intro hn he
    rw [he]
    refine ⟨?_, ?_, fun _ => ⟨rfl, rfl⟩, KeepsBut.refl⟩
    · intro b
      by_cases hh : (s.buffer b).state = .held
      · rw [hn b hh, afterDelivered_zero]
      · rw [afterDelivered, if_neg (fun x => hh x.1), if_neg hh]
    · rintro _ ⟨b, hb⟩
      exact absurd (hn b hb.1) hb.2.1
  cases o with
  | none => exact none_case (by simp) rfl
  | some x =>
    by_cases h : (s.buffer x).state = .held
    · by_cases hf : (s.buffer x).count - 1 = 0 ∧ (s.buffer x).persistent = false
      · have e : s.dropReference true (some x) = (s.putBuffer x Buffer.free).bufferAvailable := by
          unfold State.dropReference; dsimp only; rw [if_pos h, if_pos rfl, if_pos hf]; rfl
        rw [e]
        obtain ⟨a1, a2, a3, a4⟩ := bufferAvailable_rel (s.putBuffer x Buffer.free)
        have hfr : Freed (s.buffer x) 1 := ⟨h, by simp, by have := hf.1; omega, hf.2⟩
        refine ⟨?_, ?_, ?_, ?_⟩
        · intro b
          have : ((s.putBuffer x Buffer.free).bufferAvailable).buffer b = (s.putBuffer x Buffer.free).buffer b :=
              by unfold State.buffer; rw [a1]
          rw [this]
          by_cases hb : x = b
          · subst hb
            refine (put_same _ _ _).trans ?_
            rw [if_pos rfl, afterDelivered, if_pos hfr]; rfl
          · refine (put_other _ _ _ _ (fun e => hb e.symm)).trans ?_
            rw [if_neg (by simpa using hb), afterDelivered_zero]; rfl
        · intro hc _; exact a2 hc
        · intro hc
          refine hc.elim (fun hc => ?_) (fun hn => absurd (by simpa using hfr) (hn x))
          obtain ⟨b1, b2⟩ := a3 hc
          exact ⟨b1.trans hc.symm, b2⟩
        · refine KeepsBut.trans ?_ a4
          intro b hb; cases b <;> first | (exfalso; simp at hb; done) | exact rfl
      · have e : s.dropReference true (some x) = s.putBuffer x { s.buffer x with count := (s.buffer x).count - 1 } := by
          unfold State.dropReference; dsimp only; rw [if_pos h, if_pos rfl, if_neg hf]
        rw [e]
        have hnf : ∀ b, ¬ Freed (s.buffer b) (if some x = some b then 1 else 0) := by
          intro b
          by_cases hb : x = b
          · subst hb; rw [if_pos rfl]; rintro ⟨-, -, h3, h4⟩; exact hf ⟨by omega, h4⟩
          · rw [if_neg (by simpa using hb)]; exact not_freed0 _
        refine ⟨?_, ?_, fun _ => ⟨rfl, rfl⟩, ?_⟩
        · intro b
          rw [afterDelivered, if_neg (hnf b)]
          by_cases hb : x = b
          · subst hb
            refine (put_same _ _ _).trans ?_
            rw [if_pos h, if_pos rfl]
          · refine (put_other _ _ _ _ (fun e => hb e.symm)).trans ?_
            rw [if_neg (c := some x = some b) (by simpa using hb)]
            split <;> rfl
        · rintro _ ⟨b, hb⟩; exact absurd hb (hnf b)
        · intro b hb; cases b <;> first | (exfalso; simp at hb; done) | exact rfl
    · refine none_case ?_ ?_
      · intro b hb; rw [if_neg]; rintro ⟨rfl⟩; exact h hb
      · unfold State.dropReference; dsimp only; rw [if_neg h]

/-- What `State.dropSides` does for sides delivered (R49). -/
theorem dropsDelivered (s : State) (f b : Option BufferNo) : DropsDelivered (usesOf [(f,
    b)]) s (s.dropSides true f b) :=
  DropsDelivered.congr (DropsDelivered.trans' (dropDelivered1 s f) (dropDelivered1 _ b)) (by intro x; simp [usesOf])

theorem TakesNext.to0 {u t t' : State} (h : TakesNext u t) (k : KeepsBut [] t t') : TakesNext u t' := by
  obtain ⟨h1, h2, h3, h4⟩ := h
  have e := kb0 k
  rw [← e.2.2.2.2.2.2.2.2.2.2.2.2.1, ← e.2.2.2.2.1, ← e.2.2.2.2.2.2.2.2.2.2.2.2.2.1] at h3
  exact ⟨fun x => (h1 x).trans k, fun x y => (h2 x y).trans k, h3, h4.trans (k.mono (by simp))⟩

theorem HandsOver.to0 {r : LogRecord} {u t t' : State} (h : HandsOver r u t) (k : KeepsBut [] t t') : HandsOver r u t' := by
  unfold HandsOver at h ⊢
  have e := kb0 k
  rw [← e.2.2.2.2.2.2.2.2.2.2.2.2.1, ← e.2.2.2.2.1, ← e.2.2.2.2.2.2.2.2.2.2.2.2.2.1] at h
  refine ⟨h.1, fun x => ?_, h.2.2.trans (k.mono (by simp))⟩
  obtain ⟨v, e1, e2, e3⟩ := h.2.1 x
  exact ⟨v, e1, e2, e3.to0 k⟩

/-- A drop after a record stands as well before it. -/
theorem drop_record {r : LogRecord} {n : BufferNo → Nat} {u v t : State} (h : HandsOver r u v)
    (vp : v.attention.p = u.attention.p ∧ v.attention.lineP = u.attention.lineP) (k : DropsDelivered n v t) :
    ∃ w, DropsDelivered n u w ∧ HandsOver r w t := by
  have vb : v.buffers = u.buffers := h.2.2 .buffers (by simp)
  have vbb : ∀ b, v.buffer b = u.buffer b := fun b => by unfold State.buffer; rw [vb]
  have k' := k
  rw [dd_iff] at k
  obtain ⟨k1, k2, k3, k4⟩ := k
  have split : (v.buffers.claimWaiting = true ∧ ∃ b,
      Freed (v.buffer b) (n b)) ∨ (v.buffers.claimWaiting = false ∨ ∀ b, ¬ Freed (v.buffer b) (n b)) := by
    by_cases h1 : v.buffers.claimWaiting = true
    · by_cases h2 : ∃ b, Freed (v.buffer b) (n b)
      · exact .inl ⟨h1, h2⟩
      · exact .inr (.inr (fun b hb => h2 ⟨b, hb⟩))
    · exact .inr (.inl (by simpa using h1))
  have tE : t.attention = { v.attention with p := t.attention.p, lineP := t.attention.lineP } := by
    rcases split with hc | hc
    · rw [(k2 hc.1 hc.2).2]
    · rw [(k3 hc).2]
  refine ⟨(u.setBuffers t.buffers).setAttention { u.attention with p := t.attention.p, lineP := t.attention.lineP }, ?_, ?_⟩
  · rw [dd_iff]
    refine ⟨?_, ?_, ?_, ?_⟩
    · intro b; rw [← vbb]; exact k1 b
    · intro hc ⟨b, hb⟩
      rw [← vb] at hc; rw [← vbb] at hb
      obtain ⟨e1, e2⟩ := k2 hc ⟨b, hb⟩
      refine ⟨e1, ?_⟩
      show ({ u.attention with p := t.attention.p, lineP := t.attention.lineP } : Attention) = _
      rw [e2, ← vp.1]
    · intro hc
      rw [← vb] at hc; simp only [← vbb] at hc
      obtain ⟨e1, e2⟩ := k3 hc
      refine ⟨e1.trans (by rw [vb]), ?_⟩
      show ({ u.attention with p := t.attention.p, lineP := t.attention.lineP } : Attention) = _
      rw [e2, vp.1, vp.2]
    · intro b hb; cases b <;> first | (exfalso; simp at hb; done) | exact rfl
  · refine HandsOver.to0 (h.setP t.buffers t.attention.p t.attention.lineP) ?_
    intro b _
    have := k4 b
    cases b <;> first | exact this (by simp) | exact rfl | exact tE

/-- The body of a member's record. -/
def memberBody (d : Destination) (m : Member) : LogBody := match d with
      | .k1 => .delivered m.disposition .k1
      | .k2 => .delivered m.disposition .k2
      | .purge => .dumped m.disposition

/-- The members of an ejected set leave (R113). -/
theorem disposeMembers_rel (d : Destination) (hd : d ≠ .purge) (l : List Member) : ∀ s : State, ∃ w,
    DropsDelivered (usesOf (l.map (fun m => (m.front, m.back)))) s w
    ∧ Each HandsOver (l.map (fun m => ⟨s.tick, memberBody d m⟩)) w (s.disposeMembers d l) := by
  induction l with
  | nil => intro s; exact ⟨s, DropsDelivered.congr (dropDelivered0 s) (fun b => by simp [usesOf]), KeepsBut.refl⟩
  | cons m l ih =>
    intro s
    obtain ⟨v, hv⟩ : ∃ v, v = s.dropSides true m.front m.back := ⟨_, rfl⟩
    have d1 := dropsDelivered s m.front m.back
    rw [← hv] at d1
    obtain ⟨x, hx⟩ : ∃ x, x = v.record (memberBody d m) := ⟨_, rfl⟩
    have hr : HandsOver ⟨v.tick, memberBody d m⟩ v x := by rw [hx]; exact handsOver _ _ _
    have hp : x.attention.p = v.attention.p ∧ x.attention.lineP = v.attention.lineP := by rw [hx]; exact record_p _ _ _
    have hs : s.disposeMembers d (m :: l) = x.disposeMembers d l := by
      rw [hx, hv]
      cases d <;> first | rfl | exact absurd rfl hd
    rw [hs]
    obtain ⟨w, a, b⟩ := ih x
    have xt : x.tick = s.tick := (hr.2.2 .tick (by simp)).trans (d1.2.2.2.2.2 .tick (by simp))
    have vt : v.tick = s.tick := d1.2.2.2.2.2 .tick (by simp)
    obtain ⟨w2, a2, b2⟩ := drop_record hr hp a
    refine ⟨w2, DropsDelivered.congr (DropsDelivered.trans' d1 a2) (fun b => (usesOf_cons (m.front,
        m.back) (l.map (fun m => (m.front, m.back))) b).symm), w, ?_, ?_⟩
    · rw [← vt]; exact b2
    · rw [← xt]; exact b

/-- The members of a dumped set leave (R113). -/
theorem disposePurged_rel (l : List Member) : ∀ s : State, ∃ w, DropsLost (usesOf (l.map (fun m => (m.front,
    m.back)))) s w
    ∧ Each HandsOver (l.map (fun m => ⟨s.tick, .dumped m.disposition⟩)) w (s.disposeMembers .purge l)
        ∧ w = s.setBuffers (s.disposeMembers .purge l).buffers := by
  induction l with
  | nil => intro s; exact ⟨s, ⟨fun b => by simp [usesOf], rfl, KeepsBut.refl⟩, KeepsBut.refl, rfl⟩
  | cons e l ih =>
    intro s
    obtain ⟨v, hv⟩ : ∃ v, v = s.dropSides false e.front e.back := ⟨_, rfl⟩
    have d1 := dropsLost1 s e.front e.back
    rw [← hv] at d1
    have hr := handsOver v (.dumped e.disposition) v.tick
    obtain ⟨x, hx⟩ : ∃ x, x = v.record (.dumped e.disposition) := ⟨_, rfl⟩
    have hs : s.disposeMembers .purge (e :: l) = x.disposeMembers .purge l := by rw [State.disposeMembers, hx, hv]; rfl
    rw [hs]
    obtain ⟨w, a, b, c⟩ := ih x
    have hr : HandsOver ⟨v.tick, .dumped e.disposition⟩ v x := by rw [hx]; exact hr
    have hp : x.attention.p = v.attention.p ∧ x.attention.lineP = v.attention.lineP := by rw [hx]; exact record_p _ _ _
    have xb : x.buffers = v.buffers := hr.2.2 .buffers (by simp)
    have xt : x.tick = v.tick := hr.2.2 .tick (by simp)
    have vt : v.tick = s.tick := d1.2.2 .tick (by simp)
    refine ⟨s.setBuffers (x.disposeMembers .purge l).buffers, ?_, ?_, rfl⟩
    · have xb2 : ∀ b, x.buffer b = v.buffer b := by intro b; unfold State.buffer; rw [xb]
      have a' : DropsLost (usesOf (l.map (fun e => (e.front,
          e.back)))) v (v.setBuffers (x.disposeMembers .purge l).buffers) := by
        refine ⟨?_, ?_, ?_⟩
        · intro b; have := a.1 b; rw [xb2] at this; rw [c] at this; exact this
        · have := a.2.1; rw [c, xb] at this; exact this
        · intro b hb; cases b <;> first | (exfalso; simp at hb; done) | exact rfl
      have e3 := DropsLost.trans' d1 a'
      refine ⟨?_, e3.2.1, ?_⟩
      · intro b
        have := e3.1 b
        rw [List.map_cons, usesOf_cons]
        exact this
      · intro b hb; cases b <;> first | (exfalso; simp at hb; done) | exact rfl
    · refine ⟨w, ?_, ?_⟩
      · have := hr.setBuffers hp (x.disposeMembers .purge l).buffers
        rw [← c] at this
        rw [vt] at this
        refine HandsOver.from0 this ?_
        intro b hb
        have := d1.2.2 b
        cases b <;> first | exact this (by simp) | rfl
      · rw [xt, vt] at b; exact b




/-- What `State.evaluate` is, as a relation (R61). -/
theorem evaluates (s : State) : Evaluates s s.evaluate :=
  ⟨rfl, rfl, rfl, by intro b hb; cases b <;> first | (exfalso; simp at hb; done) | simp only [Block.same,
      State.evaluate_keeps]⟩

/-- What `State.begin` does. -/
theorem begun (s : State) : Begun s s.begin :=
  ⟨rfl, by intro b hb; cases b <;> first | (exfalso; simp at hb; done) | exact rfl⟩

/-- What `State.grant` does (R178). -/
theorem granted (s : State) : Granted s s.grant :=
  ⟨rfl, by intro b hb; cases b <;> first | (exfalso; simp at hb; done) | exact rfl⟩

/-- What `State.putSheet` does. -/
theorem sheetBecomes (s : State) (h : Handle) (x : Sheet) : SheetBecomes h x s (s.putSheet h (some x)) := by
  refine ⟨put_same _ _ _, fun k hk => put_other _ _ _ _ hk, rfl, rfl, ?_⟩
  intro b hb; cases b <;> first | (exfalso; simp at hb; done) | exact rfl

theorem modifySheet_some (s : State) (h : Handle) (f : Sheet → Sheet) (sh : Sheet) (hs : s.sheet h = some sh) :
    s.modifySheet h f = s.putSheet h (some (f sh)) := by
  unfold State.modifySheet; rw [hs]; rfl

/-- What `State.place` does for a leg (R81, R82). -/
theorem places (s : State) (h : Handle) (l : Leg) : Places h l s (s.place h (.leg l)) := by
  intro sh timing hs ht
  have e : s.place h (.leg l) = (s.putSheet h (some { sh with leg := some (.leg l), reference := s.tick })).addExpectation (legTo l)
      (s.expects timing h sh (.leg l)) := by
    unfold State.place
    rw [hs, ht]
    dsimp only
    rw [modifySheet_some _ _ _ _ hs]; rfl
  rw [e]
  refine ⟨put_same _ _ _, fun k hk => put_other _ _ _ _ hk, ?_, ?_, rfl, ?_⟩
  · unfold State.addExpectation; rw [State.sensor_putSensor]; rfl
  · intro y hy; unfold State.addExpectation; rw [State.sensor_putSensor_other _ _ _ _ hy]; rfl
  · intro b hb; cases b <;> first | (exfalso; simp at hb; done) | exact rfl

/-- What `State.markImageFault` does (R96). -/
theorem sideFaulted (s : State) (h : Handle) (sh : Sheet) (hs : s.sheet h = some sh) : SideFaulted h sh s (s.markImageFault h) := by
  refine ⟨s.putSheet h (some sh.markFaulted), sheetBecomes _ _ _, ?_, ?_⟩
  all_goals
    intro hf
    unfold State.markImageFault
    rw [hs]
    dsimp only
    rw [modifySheet_some _ _ _ _ hs]
  · rw [if_neg (show ¬ sh.sideFaulted = true by unfold Sheet.sideFaulted; rw [hf]; simp)]; exact breaksCopy _ _ _
  · rw [if_pos (show sh.sideFaulted = true by unfold Sheet.sideFaulted; simpa using hf)]; exact KeepsBut.refl

/-- What `Gate.clearedBy` does (R104). -/
theorem gate_cleared {α : Type} (g : Gate α) (h : Handle) : g.Cleared h (g.clearedBy h) := by
  unfold Gate.Cleared Gate.clearedBy
  refine ⟨fun hn => by rw [if_neg hn], fun hh => ⟨fun p k hp => by rw [if_pos hh, hp], fun hp => by rw [if_pos hh,
      hp]⟩⟩

/-- What `State.gatePassed` does (R95, R104). -/
theorem gateTold (s : State) (x : Sensor) (h : Handle) : GateTold x h s (s.gatePassed x h) := by
  refine ⟨?_, ?_, ?_⟩
  · rintro rfl
    exact ⟨gate_cleared _ _, rfl, by intro b hb; cases b <;> first | (exfalso; simp at hb; done) | exact rfl⟩
  · rintro rfl
    exact ⟨gate_cleared _ _, rfl, by intro b hb; cases b <;> first | (exfalso; simp at hb; done) | exact rfl⟩
  · intro h1 h2
    have : s.gatePassed x h = s := by unfold State.gatePassed; cases x <;> first | rfl | exact absurd rfl h1 | exact absurd rfl h2
    rw [this]; exact KeepsBut.refl

/-- A sheet leaves its entry (R78). -/
theorem handleFreed (s : State) (h : Handle) : HandleFreed h s ((s.putSheet h none).putTimers h SheetTimers.none) := by
  refine ⟨put_same _ _ _, fun k hk => put_other _ _ _ _ hk, rfl, rfl, put_same _ _ _,
      fun k hk => put_other _ _ _ _ hk, rfl, ?_⟩
  intro b hb; cases b <;> first | (exfalso; simp at hb; done) | exact rfl

/-- What follows a sheet leaving the table (R78). -/
theorem followsLeaving (s : State) (c : Copy) : FollowsLeaving c s ((s.examineCopy c).examineDrain.evaluate) :=
  ⟨_, _, copyExamined _ _, drainExamined _, evaluates _⟩

/-- What `State.modifySet` does. -/
theorem setBecomes (s : State) (f : SetRecord → SetRecord) : SetBecomes (f s.output.set) s (s.modifySet f) :=
  ⟨rfl, by intro b hb; cases b <;> first | (exfalso; simp at hb; done) | exact rfl⟩

/-- What `State.overrun` does (R110). -/
theorem overruns (s : State) (sh : Sheet) : Overruns sh s (s.overrun sh) := by
  obtain ⟨v, hv⟩ : ∃ v, v = s.modifySet (fun r => { r with overruns := r.overruns ++ [sh.member] }) := ⟨_, rfl⟩
  obtain ⟨w,
      hw⟩ : ∃ w, w = (if v.output.set.inFlight then v.scatter .accumulatorCollision else v.disturb .accumulatorCollision) := ⟨_, rfl⟩
  have e : s.overrun sh = (if s.output.set.copy == some sh.plan.copy then w else w.breakCopy sh.plan.copy sh.plan.mode).report
      ⟨.accumulatorCollision, some .AC, some sh.plan.sequence, false⟩ := by
    unfold State.overrun; dsimp only; rw [hw, hv]
  rw [e]
  have vf : v.output.set.inFlight = s.output.set.inFlight := by rw [hv]; rfl
  refine ⟨v, w, _, ?_, ?_, ?_, ?_, reported _ _⟩
  · rw [hv]; exact setBecomes _ _
  · by_cases hf : s.output.set.flies
    · rw [hw, vf, if_pos ((flies_iff _).2 hf)]
      rw [show s.output.set.flies = True from eq_true hf]; exact scatters _ _
    · rw [hw, vf, if_neg (fun h => hf ((flies_iff _).1 h))]
      rw [show s.output.set.flies = False from eq_false hf]; exact disturbs _ _
  · intro h
    rw [if_pos (by simpa using h)]; exact KeepsBut.refl
  · intro h
    rw [if_neg (by simpa using h)]; exact breaksCopy _ _ _

/-- What `State.completeEject` does (R113). -/
theorem setCompletes (s : State) : SetCompletes s s.completeEject := by
  unfold SetCompletes
  dsimp only
  refine ⟨?_, ?_⟩
  · intro hf hc d c hd hcp
    have e : s.completeEject = (let s1 := s.disposeMembers d (s.output.set.members ++ s.output.set.overruns)
      (match d with
      | .k1 => s1.stackSet .k1
      | .k2 => s1.stackSet .k2
      | .purge => s1).forgetLatest.emptySet) := by
      unfold State.completeEject
      dsimp only
      rw [if_pos (by rw [(flies_iff _).2 hf]; simpa using hc), hd]
      all_goals rfl
    rw [e]
    dsimp only
    obtain ⟨w, hw⟩ : ∃ w, w = s.disposeMembers d (s.output.set.members ++ s.output.set.overruns) := ⟨_, rfl⟩
    rw [← hw]
    have wo : w.output = s.output := by rw [hw]; simp only [State.disposeMembers_keeps]
    have fin : ∀ (x : State) (o : OutputUnit), x.output = { o with set := s.output.set } → KeepsBut [.output] w x →
        (x.forgetLatest.emptySet).output = { o with
          latest := (match o.latest with
            | some (a, f) => if a = c then none else some (a, f)
            | none => none),
          set := ⟨.empty, none, 0, false, [], [], false, .sound, none,
              false⟩ } ∧ KeepsBut [.output] w (x.forgetLatest.emptySet) := by
      intro x o hx kx
      have k2 : KeepsBut [.output] x x.forgetLatest.emptySet := by
        intro b hb; cases b <;> first | (exfalso; simp at hb; done) | simp only [Block.same, State.emptySet_keeps,
            State.forgetLatest_keeps]
      refine ⟨?_, kx.trans k2⟩
      have h1 : x.output.latest = o.latest := by rw [hx]
      have h2 : x.output.set.copy = some c := by rw [hx]; exact hcp
      have : x.forgetLatest.output = { x.output with latest := (match o.latest with
            | some (a, f) => if a = c then none else some (a, f)
            | none => none) } := by
        unfold State.forgetLatest
        rw [h1, h2]
        cases hl : o.latest with
        | none => dsimp only; rw [hl] at h1; rw [← h1]
        | some y =>
          obtain ⟨a, f⟩ := y
          rw [hl] at h1
          dsimp only
          split
          · rfl
          · rw [← h1]
      show ({ x.forgetLatest.output with set := SetRecord.empty } : OutputUnit) = _
      rw [this, hx]; rfl
    cases d with
    | purge =>
      obtain ⟨v, a1, a2, -⟩ := disposePurged_rel (s.output.set.members ++ s.output.set.overruns) s
      rw [← hw] at a2
      obtain ⟨f1, f2⟩ := fin w w.output (by rw [wo]) KeepsBut.refl
      exact ⟨v, w, fun h => absurd rfl h, fun _ => a1, a2, f1, f2⟩
    | k1 =>
      obtain ⟨v, a1, a2⟩ := disposeMembers_rel .k1 (by simp) (s.output.set.members ++ s.output.set.overruns) s
      rw [← hw] at a2
      have e2 : w.stackSet .k1 = w.setOutput ((w.output.setTop .k1 (some (c, w.output.set.n))).jog .k1) := by
        unfold State.stackSet; rw [show w.output.set.copy = some c by rw [wo]; exact hcp]
      obtain ⟨f1, f2⟩ :=
          fin (w.stackSet .k1) { w.output with top1 := some (c, s.output.set.n), jog1 := w.output.jog1.toggle } (by rw [e2, wo]; rfl)
        (by rw [e2]; intro b hb; cases b <;> first | (exfalso; simp at hb; done) | exact rfl)
      exact ⟨v, w, fun _ => a1, fun h => absurd h (by simp), a2, f1, f2⟩
    | k2 =>
      obtain ⟨v, a1, a2⟩ := disposeMembers_rel .k2 (by simp) (s.output.set.members ++ s.output.set.overruns) s
      rw [← hw] at a2
      have e2 : w.stackSet .k2 = w.setOutput ((w.output.setTop .k2 (some (c, w.output.set.n))).jog .k2) := by
        unfold State.stackSet; rw [show w.output.set.copy = some c by rw [wo]; exact hcp]
      obtain ⟨f1, f2⟩ :=
          fin (w.stackSet .k2) { w.output with top2 := some (c, s.output.set.n), jog2 := w.output.jog2.toggle } (by rw [e2, wo]; rfl)
        (by rw [e2]; intro b hb; cases b <;> first | (exfalso; simp at hb; done) | exact rfl)
      exact ⟨v, w, fun _ => a1, fun h => absurd h (by simp), a2, f1, f2⟩
  · intro h
    have : s.completeEject = s := by
      unfold State.completeEject
      dsimp only
      rw [if_neg]
      rw [Bool.and_eq_true, flies_iff]
      rintro ⟨h1, h2⟩
      rcases h with h | h
      · exact h h1
      · rw [h] at h2; simp at h2
    rw [this]; exact KeepsBut.refl

/-- What a trailing edge does at its sensor (R91). -/
theorem vacated (s : State) (x : Sensor) : Vacated x s ((s.begin.cover x false).vacate x) := by
  obtain ⟨w,
      hw⟩ : ∃ w, w = (s.begin.cover x false).putSensor x { s.sensor x with covered := false, occupant := .none, coverTimer := none } := ⟨_, rfl⟩
  have ex : (s.begin.cover x false).sensor x = { s.sensor x with covered := false } := by
    unfold State.cover; rw [State.sensor_putSensor]; rfl
  have wx : w.sensor x = { s.sensor x with covered := false, occupant := .none, coverTimer := none } := by rw [hw,
      State.sensor_putSensor]
  have wy : ∀ y, y ≠ x → w.sensor y = s.sensor y := by
    intro y hy; rw [hw, State.sensor_putSensor_other _ _ _ _ hy]; unfold State.cover; rw [State.sensor_putSensor_other _ _ _ _ hy]; rfl
  have wk : KeepsBut [.tracker, .pulses] s w := by rw [hw]; intro b hb; cases b <;> first | (exfalso; simp at hb; done) | exact rfl
  have occ : ∀ h, w.occupies h = (s.putSensor x { s.sensor x with covered := false, occupant := .none, coverTimer := none }).occupies h := by
    intro h
    have : w.tracker.sensors = (s.putSensor x { s.sensor x with covered := false, occupant := .none, coverTimer := none }).tracker.sensors := by
      rw [hw]
      show put (put s.tracker.sensors x.index _) x.index _ = put s.tracker.sensors x.index _
      ext i hi
      unfold put; simp
    unfold State.occupies
    rw [this]
  have e : (s.begin.cover x false).vacate x = (match (s.sensor x).occupant with
      | .sheet h => w.modifySheet h (fun sh => { sh with covering := w.occupies h })
      | .set => w | .untracked => w | .none => w) := by
    unfold State.vacate
    rw [ex]
    dsimp only
    rw [← hw]
    all_goals rfl
  have e1 : ∀ h, (s.sensor x).occupant = .sheet h
      → (s.begin.cover x false).vacate x = w.modifySheet h (fun sh => { sh with covering := w.occupies h }) := by
    intro h ho; rw [e, ho]
  have e2 : (∀ h, (s.sensor x).occupant ≠ .sheet h) → (s.begin.cover x false).vacate x = w := by
    intro hn; rw [e]; cases ho : (s.sensor x).occupant <;> first | rfl | exact absurd ho (hn _)
  clear e
  unfold Vacated
  dsimp only
  have still : ∀ t, t = w → (∀ h, (s.sensor x).occupant ≠ .sheet h)
      → t.sensor x = { s.sensor x with covered := false, occupant := .none, coverTimer := none } ∧ (∀ y, y ≠ x
      → t.sensor y = s.sensor y)
    ∧ (∀ h, t.sheet h = (s.sheet h).map (fun sh =>
        if (s.sensor x).occupant = .sheet h then { sh with covering := (s.putSensor x { s.sensor x with covered := false, occupant := .none, coverTimer := none }).occupies h } else sh))
    ∧ t.tracker.timing = s.tracker.timing ∧ t.pulses = [] ∧ KeepsBut [.tracker, .pulses] s t := by
    rintro t rfl hn
    refine ⟨wx, wy, fun h => ?_, by rw [hw]; rfl, by rw [hw]; rfl, wk⟩
    rw [show t.sheet h = s.sheet h by rw [hw]; rfl]
    cases s.sheet h with
    | none => rfl
    | some sh => rw [Option.map_some, if_neg (hn h)]
  by_cases hh : ∃ h, (s.sensor x).occupant = .sheet h
  · obtain ⟨h, ho⟩ := hh
    rw [e1 h ho]
    refine ⟨wx, wy, ?_, by rw [hw]; rfl, by rw [hw]; rfl, ?_⟩
    · intro k
      by_cases hk : k = h
      · subst hk
        refine (put_same _ _ _).trans ?_
        rw [show w.sheet k = s.sheet k by rw [hw]; rfl, occ]
        simp only [ho, if_true]
      · have : ¬ (s.sensor x).occupant = Occupant.sheet k := by rw [ho]; simpa using fun e : h = k => hk e.symm
        simp only [if_neg this]
        refine (put_other _ _ _ _ hk).trans ?_
        rw [show w.tracker.sheets[k] = s.sheet k by rw [hw]; rfl]
        cases s.sheet k <;> rfl
    · refine wk.trans ?_
      intro b hb; cases b <;> first | (exfalso; simp at hb; done) | exact rfl
  · have hn : ∀ h, (s.sensor x).occupant ≠ .sheet h := fun h ho => hh ⟨h, ho⟩
    rw [e2 hn]
    exact still _ rfl hn

end Sys2Proof.Machine
end

