-- ==== Sys2Proof/Laws/PerInstr.lean ====
section
/-! SUPPORT. What well-formedness says of every command: the access it carries, if any, has the form of R177. -/

namespace Sys2Proof.Laws.CommandShape

open Sys2Proof.Machine

/-- The access a command carries. -/
def carried : Instr → Option Access
  | .powerReset => none
  | .engineReset => none
  | .coverOpen => none
  | .leadingEdge _ => none
  | .trailingEdge _ => none
  | .imageFault => none
  | .trayEmptyDeasserted _ => none
  | .stackerFull _ _ => none
  | .purgeFull _ => none
  | .encoder => none
  | .encoderWindowClose => none
  | .lockTimeout => none
  | .slotPasses => none
  | .pickDue _ => none
  | .releaseDue _ => none
  | .lateRelease _ => none
  | .windowExpiry _ _ => none
  | .stall _ => none
  | .graceExpiry => none
  | .upstreamAccess _ a => some a
  | .accessComplete => none
  | .droppedWrite _ a => some a
  | .commitEvent _ => none
  | .tagCommitEvent _ => none
  | .codeEvent => none
  | .consumerWrite _ _ => none
  | .anchorEvent _ => none
  | .claim a => some a
  | .claimInspection a => some a
  | .abandon a => some a
  | .summaryRead _ a => some a
  | .captureRearm _ a => some a
  | .planFetchComplete => none
  | .planCommitWordWritten => none
  | .tagFetchComplete => none
  | .tagCommitWordWritten => none
  | .unknownCommandCode => none
  | .start => none
  | .stop => none
  | .pauseFeed => none
  | .resumeFeed => none
  | .changeSpeed => none
  | .cancelSpeedChange => none
  | .halt => none
  | .clear => none
  | .withdraw => none
  | .releaseBuffer => none
  | .reclaimBuffer => none
  | .guardOn => none
  | .guardOff => none
  | .selectStacker => none
  | .commandFinishWritten => none
  | .logRecordWritten => none
  | .configReadComplete => none
  | .anchorResultWritten => none
  | .trayEmptyAsserted _ => none
  | .coverOpenDeasserted => none
  | .imageFaultDeasserted => none
  | .anchorReadComplete => none

/-- An access that a well-formed command carries is naturally aligned and, when it is a write, carries exactly as many
bytes as its size (R177). -/
def Statement (i : Instr) : Prop :=
  i.wf = true → ∀ a, carried i = some a → a.addr.toNat % a.size.bytes = 0 ∧ (a.write = true → a.data.length = a.size.bytes)

/-- The form of an access, as R177 has it. -/
theorem form_of_wf {a : Access} (h : a.wf = true) :
    a.addr.toNat % a.size.bytes = 0 ∧ (a.write = true → a.data.length = a.size.bytes) := by
  simp only [Access.wf, Access.aligned, Access.dataFits, Bool.and_eq_true, beq_iff_eq] at h
  exact ⟨h.1, fun w => by simpa [w] using h.2⟩

theorem powerReset : Statement .powerReset := fun _ _ h => nomatch h

theorem engineReset : Statement .engineReset := fun _ _ h => nomatch h

theorem coverOpen : Statement .coverOpen := fun _ _ h => nomatch h

theorem leadingEdge (x : Sensor) : Statement (.leadingEdge x) := fun _ _ h => nomatch h

theorem trailingEdge (x : Sensor) : Statement (.trailingEdge x) := fun _ _ h => nomatch h

theorem imageFault : Statement .imageFault := fun _ _ h => nomatch h

theorem trayEmptyDeasserted (t : Tray) : Statement (.trayEmptyDeasserted t) := fun _ _ h => nomatch h

theorem stackerFull (k : Stacker) (level : Bool) : Statement (.stackerFull k level) := fun _ _ h => nomatch h

theorem purgeFull (level : Bool) : Statement (.purgeFull level) := fun _ _ h => nomatch h

theorem encoder : Statement .encoder := fun _ _ h => nomatch h

theorem encoderWindowClose : Statement .encoderWindowClose := fun _ _ h => nomatch h

theorem lockTimeout : Statement .lockTimeout := fun _ _ h => nomatch h

theorem slotPasses : Statement .slotPasses := fun _ _ h => nomatch h

theorem pickDue (h : Handle) : Statement (.pickDue h) := fun _ _ h => nomatch h

theorem releaseDue (h : Handle) : Statement (.releaseDue h) := fun _ _ h => nomatch h

theorem lateRelease (h : Handle) : Statement (.lateRelease h) := fun _ _ h => nomatch h

theorem windowExpiry (x : Sensor) (i : Item) : Statement (.windowExpiry x i) := fun _ _ h => nomatch h

theorem stall (x : Sensor) : Statement (.stall x) := fun _ _ h => nomatch h

theorem graceExpiry : Statement .graceExpiry := fun _ _ h => nomatch h

theorem upstreamAccess (p : Port) (a : Access) : Statement (.upstreamAccess p a) := by
  rintro h _ ⟨⟩
  exact form_of_wf h

theorem accessComplete : Statement .accessComplete := fun _ _ h => nomatch h

theorem droppedWrite (p : Port) (a : Access) : Statement (.droppedWrite p a) := by
  rintro h _ ⟨⟩
  exact form_of_wf (by simp only [Instr.wf, Bool.and_eq_true] at h; exact h.1)

theorem commitEvent (slot : Fin 256) : Statement (.commitEvent slot) := fun _ _ h => nomatch h

theorem tagCommitEvent (b : BufferNo) : Statement (.tagCommitEvent b) := fun _ _ h => nomatch h

theorem codeEvent : Statement .codeEvent := fun _ _ h => nomatch h

theorem consumerWrite (data : Word) (mask : BitVec 4) : Statement (.consumerWrite data mask) := fun _ _ h => nomatch h

theorem anchorEvent (v : ActivateValue) : Statement (.anchorEvent v) := fun _ _ h => nomatch h

theorem claim (a : Access) : Statement (.claim a) := by
  rintro h _ ⟨⟩
  exact form_of_wf (by simp only [Instr.wf, Bool.and_eq_true] at h; exact h.1.1)

theorem claimInspection (a : Access) : Statement (.claimInspection a) := by
  rintro h _ ⟨⟩
  exact form_of_wf (by simp only [Instr.wf, Bool.and_eq_true] at h; exact h.1.1)

theorem abandon (a : Access) : Statement (.abandon a) := by
  rintro h _ ⟨⟩
  exact form_of_wf (by simp only [Instr.wf, Bool.and_eq_true] at h; exact h.1.1)

theorem summaryRead (p : Port) (a : Access) : Statement (.summaryRead p a) := by
  rintro h _ ⟨⟩
  exact form_of_wf (by simp only [Instr.wf, Bool.and_eq_true] at h; exact h.1.1)

theorem captureRearm (p : Port) (a : Access) : Statement (.captureRearm p a) := by
  rintro h _ ⟨⟩
  exact form_of_wf (by simp only [Instr.wf, Bool.and_eq_true] at h; exact h.1.1)

theorem planFetchComplete : Statement .planFetchComplete := fun _ _ h => nomatch h

theorem planCommitWordWritten : Statement .planCommitWordWritten := fun _ _ h => nomatch h

theorem tagFetchComplete : Statement .tagFetchComplete := fun _ _ h => nomatch h

theorem tagCommitWordWritten : Statement .tagCommitWordWritten := fun _ _ h => nomatch h

theorem unknownCommandCode : Statement .unknownCommandCode := fun _ _ h => nomatch h

theorem start : Statement .start := fun _ _ h => nomatch h

theorem stop : Statement .stop := fun _ _ h => nomatch h

theorem pauseFeed : Statement .pauseFeed := fun _ _ h => nomatch h

theorem resumeFeed : Statement .resumeFeed := fun _ _ h => nomatch h

theorem changeSpeed : Statement .changeSpeed := fun _ _ h => nomatch h

theorem cancelSpeedChange : Statement .cancelSpeedChange := fun _ _ h => nomatch h

theorem halt : Statement .halt := fun _ _ h => nomatch h

theorem clear : Statement .clear := fun _ _ h => nomatch h

theorem withdraw : Statement .withdraw := fun _ _ h => nomatch h

theorem releaseBuffer : Statement .releaseBuffer := fun _ _ h => nomatch h

theorem reclaimBuffer : Statement .reclaimBuffer := fun _ _ h => nomatch h

theorem guardOn : Statement .guardOn := fun _ _ h => nomatch h

theorem guardOff : Statement .guardOff := fun _ _ h => nomatch h

theorem selectStacker : Statement .selectStacker := fun _ _ h => nomatch h

theorem commandFinishWritten : Statement .commandFinishWritten := fun _ _ h => nomatch h

theorem logRecordWritten : Statement .logRecordWritten := fun _ _ h => nomatch h

theorem configReadComplete : Statement .configReadComplete := fun _ _ h => nomatch h

theorem anchorResultWritten : Statement .anchorResultWritten := fun _ _ h => nomatch h

theorem trayEmptyAsserted (t : Tray) : Statement (.trayEmptyAsserted t) := fun _ _ h => nomatch h

theorem coverOpenDeasserted : Statement .coverOpenDeasserted := fun _ _ h => nomatch h

theorem imageFaultDeasserted : Statement .imageFaultDeasserted := fun _ _ h => nomatch h

theorem anchorReadComplete : Statement .anchorReadComplete := fun _ _ h => nomatch h

end Sys2Proof.Laws.CommandShape
end

