-- ==== Sys2Proof/Tests/Slice0.lean ====
section
/-! SUPPORT. The row's own tests: ill-formed commands that the checks refuse, one step of each command on a small state,
and for each statement of Certificates/Slice0 that has hypotheses a witness that meets them, clause by clause. -/

namespace Sys2Proof.Tests

open Sys2Proof Sys2Proof.Machine

/-! ## Small states -/

def travel (length factor : Nat) : LegFigures := ⟨length, factor⟩

/-- The configuration of the manual's worked figures (chapters 1 and 11). -/
def cfg : Configuration where
  descriptors := #v[
    ⟨0x0100000, true, some .plain, 16, true, true, true, true⟩,
    ⟨0x0200000, true, some .plan, 13, true, true, true, false⟩,
    ⟨0x0202000, true, some .tag, 12, true, true, true, true⟩,
    ⟨0x4000000, true, some .buffer, 26, true, true, true, true⟩,
    ⟨0x0210000, true, some .log, 16, true, true, true, false⟩,
    ⟨0x0220000, true, some .command, 12, true, true, true, false⟩,
    ⟨0x0230000, true, some .view, 12, true, true, true, true⟩,
    ⟨0, false, some .plain, 0, false, false, false, false⟩]
  arbiter := some .rotating
  bufferCount := 64
  bufferSizeLog2 := 20
  accumulatorCapacity := 12
  planSlots := 32
  logEntries := 64
  legs := #v[travel 600 256, travel 1400 256, travel 2200 256, travel 3000 256, travel 1800 256, travel 1200 256,
    travel 3600 256, travel 5200 256, travel 4000 384, travel 2500 384, travel 1500 256, travel 2000 256,
    travel 4500 256, travel 4000 256, travel 3000 256, travel 3000 256, travel 2600 256, travel 1500 256]
  pickDelay := #v[3000, 3000, 3500, 3500]
  earlyRatio := 8
  lateRatio := 13
  coverRatio := 13
  encoderPerMm := 20
  earlyFixed := 300
  lateFixed := 500
  coverFixed := 500
  mediaLength := #v[2794, 2970, 2159, 1800]
  pitchLength := 3300
  minimumGap := 250
  speed := #v[200, 400, 600, 800, 1000, 1250, 1600, 2000]
  lockTolerance := 8
  runTolerance := 20
  lockTimeout := 200000
  minimumDwell := 2000
  stopGrace := 20000

/-- The timing set of speed code 4. -/
def tm : TimingSet := timingSet cfg 4

/-- Activated, in a run state, with nothing else changed from reset. -/
def stateIn (r : RunState) : State :=
  (State.reset.setConfig (some cfg)).setRun { State.reset.run with state := r }

/-- Locked at code 4 since tick 0, in a run state, with the grid and the timing set. -/
def lockedIn (r : RunState) : State :=
  (((stateIn r).setDrive ⟨.locked, 4, 4, 200, 200, some 1000, 0, 0, 0, none, true, 4⟩).setTracker
    { Tracker.reset with timing := some tm }).setScheduler { Scheduler.reset with grid := some (tm.grid 0) }

/-- A sheet of statement 6001 of four sheets from tray 2. -/
def entry (q k : Nat) : PlanEntry := ⟨q, 6001, k, 4, 1, 0, .simplex, none, none, false, 301, .set, 0⟩

def sheetOf (e : PlanEntry) (x : SheetState) : Sheet :=
  ⟨e, 1, 3, none, 3, x, none, 0, none, none, false, false, false, false, false, 0, false⟩

/-- An expectation of sheet 0 from tick 100 to tick 200. -/
def expected : Expectation := ⟨.sheet 0, 100, 200, 1000, 2000, true⟩

/-- A sensor of a state with its line, occupant and expectations. -/
def withSensor (s : State) (x : Sensor) (covered : Bool) (o : Occupant) (l : List Expectation) : State :=
  s.putSensor x ⟨covered, o, 0, 1000, 2000, some 2000, l⟩

/-- Memory under a state. -/
def withBytes (s : State) (m : List Host.Cell) : State := s.setMemory m

/-- The agent holds the M-port with an operation in progress. -/
def withAgent (s : State) (op : RecordOp) : State :=
  s.setJunction { s.junction with holder := some .agent, agentQueue := [op] }

def busyRecord : LogRecord := ⟨0, .speedSet 0 0⟩

/-- A record whose write is under way, so that further records wait. -/
def busyLog : LogWriter := ⟨0, 0, [], some (0, busyRecord), false⟩

/-- A property of the state after a command. -/
def after (c : Instr) (s : State) (p : State → Bool) : Bool :=
  match exec c s with
  | .next t => p t
  | .fault _ => false
  | .refused _ => false

def readOf (a : BitVec 28) (n : AccessSize) : Access := ⟨false, a, n, []⟩
def writeOf (a : BitVec 28) (v : Byte) : Access := ⟨true, a, .bytes1, [v]⟩

/-! ## Well-formedness: each check refuses an ill-formed term -/

theorem test_refuses_unaligned : Instr.wf (.upstreamAccess .E ⟨false, 0x102, .bytes4, []⟩) = false := by decide
theorem test_refuses_short_write : Instr.wf (.upstreamAccess .P ⟨true, 0x100, .bytes2, [1]⟩) = false := by decide
theorem test_refuses_read_with_data : Instr.wf (.upstreamAccess .P ⟨false, 0x100, .bytes1, [1]⟩) = false := by decide
theorem test_refuses_dropped_read : Instr.wf (.droppedWrite .E (readOf 0x100 .bytes1)) = false := by decide
theorem test_refuses_dropped_unaligned : Instr.wf (.droppedWrite .E ⟨true, 1, .bytes2, [0, 0]⟩) = false := by decide
theorem test_refuses_claim_write : Instr.wf (.claim (writeOf 0x230004 0)) = false := by decide
theorem test_refuses_claim_burst : Instr.wf (.claim (readOf 0x230000 .burst)) = false := by decide
theorem test_refuses_claim_unaligned : Instr.wf (.claim (readOf 0x230003 .bytes2)) = false := by decide
theorem test_refuses_inspection_write : Instr.wf (.claimInspection (writeOf 0x230004 0)) = false := by decide
theorem test_refuses_inspection_burst : Instr.wf (.claimInspection (readOf 0x230000 .burst)) = false := by decide
theorem test_refuses_inspection_unaligned : Instr.wf (.claimInspection (readOf 0x230002 .bytes4)) = false := by decide
theorem test_refuses_abandon_read : Instr.wf (.abandon (readOf 0x230008 .bytes1)) = false := by decide
theorem test_refuses_abandon_burst :
    Instr.wf (.abandon ⟨true, 0x230000, .burst, List.replicate 32 0⟩) = false := by decide
theorem test_refuses_abandon_short : Instr.wf (.abandon ⟨true, 0x230008, .bytes4, [3]⟩) = false := by decide
theorem test_refuses_summary_write : Instr.wf (.summaryRead .E (writeOf 0x23000C 0)) = false := by decide
theorem test_refuses_summary_burst : Instr.wf (.summaryRead .E (readOf 0x230000 .burst)) = false := by decide
theorem test_refuses_summary_unaligned : Instr.wf (.summaryRead .E (readOf 0x23000D .bytes2)) = false := by decide
theorem test_refuses_rearm_write : Instr.wf (.captureRearm .E (writeOf 0x230018 0)) = false := by decide
theorem test_refuses_rearm_burst : Instr.wf (.captureRearm .E (readOf 0x230000 .burst)) = false := by decide
theorem test_refuses_rearm_unaligned : Instr.wf (.captureRearm .P (readOf 0x23001A .bytes4)) = false := by decide
theorem test_refuses_empty_consumer_write : Instr.wf (.consumerWrite 5 0) = false := by decide
theorem test_accepts_commands : Instr.wf (.upstreamAccess .E (writeOf 0x100 7)) = true
    ∧ Instr.wf (.consumerWrite 5 1) = true ∧ Instr.wf (.claim (readOf 0x230004 .bytes4)) = true := by decide

/-- The table gives no row any bits, so that no word spells a command. -/
theorem test_no_word_spells_a_command : decodeTableWord 0 0 = none ∧ decodeTableWord 32 1 = none := by decide

/-! ## One step of each command

Expected values are the manual's worked figures for speed code 4 (chapters 1 and 7) or worked by hand from the rule
named. -/

/-- Chapter 1's table for code 4: pitch, loop pitches, set gap, return lead, the leads and the encoder count. -/
theorem test_timing_set : tm.pitch = 33000 ∧ tm.loopPitches = 7 ∧ tm.setGap = 3 ∧ tm.returnLead = 46667
    ∧ tm.lead = #v[39000, 47000, 55500, 63500] ∧ tm.encoderCount = 200 := by decide

/-- Chapter 1's pitches at codes 0 and 7. -/
theorem test_pitches : (timingSet cfg 0).pitch = 165000 ∧ (timingSet cfg 7).pitch = 16500 := by decide

/-- R186: the worked configuration meets every check. -/
theorem test_configuration_accepted : cfg.refusal 0 = none := by decide

theorem test_power_reset : after .powerReset (lockedIn .running)
    (fun t => t.run.state == .inactive && t.drive.state == .off && t.config.isNone) = true := by decide

/-- R151. -/
theorem test_engine_reset : after .engineReset (lockedIn .running)
    (fun t => t.run.state == .stopping && t.drive.state == .coasting && t.scheduler.grid.isNone) = true := by decide

/-- R149: no grace. -/
theorem test_cover_open : after .coverOpen ((lockedIn .running).setTick 77)
    (fun t => t.run.state == .stopping && t.run.graceDeadline == some 77) = true := by decide

/-- R82 at F2: leg 2 is 14,000 at code 4, its margins 737 and 1,210, so MG is expected from +13,263 to +15,210. -/
theorem test_leading_edge : after (.leadingEdge .F2)
    (((withSensor (lockedIn .running) .F2 false .none [expected]).putSheet 0
      (some (sheetOf (entry 301 1) .feeding))).setTick 100)
    (fun t => (t.sensor .MG).expectations.map (fun e => (e.opens, e.closes)) == [(13363, 15310)]) = true := by decide

/-- R84: an edge one tick before the window is EARLY. -/
theorem test_leading_edge_early : after (.leadingEdge .F2)
    (((withSensor (lockedIn .running) .F2 false .none [expected]).putSheet 0
      (some (sheetOf (entry 301 1) .feeding))).setTick 99)
    (fun t => t.run.state == .stopping && t.run.jam.map (fun j => (j.cause, j.sensor, j.sequence))
      == some (.early, some .F2, some 301)) = true := by decide

/-- R91: one tick less than cover min is SHORT. -/
theorem test_trailing_edge_short : after (.trailingEdge .F2)
    (((withSensor (lockedIn .running) .F2 true (.sheet 0) []).putSheet 0
      (some (sheetOf (entry 301 1) .feeding))).setTick 999)
    (fun t => t.run.jam.map (fun j => j.cause) == some .short
      && (t.sheet 0).map (fun x => x.halted) == some true) = true := by decide

/-- R91: cover min itself is accepted. -/
theorem test_trailing_edge_accepted : after (.trailingEdge .F2)
    (((withSensor (lockedIn .running) .F2 true (.sheet 0) []).putSheet 0
      (some (sheetOf (entry 301 1) .feeding))).setTick 1000)
    (fun t => t.run.state == .running && (t.sensor .F2).occupant == .none) = true := by decide

/-- R96: pass 1 marks the front. -/
theorem test_image_fault : after .imageFault
    ((withSensor (lockedIn .running) .TR true (.sheet 0) []).putSheet 0 (some (sheetOf (entry 301 1) .printing)))
    (fun t => (t.sheet 0).map (fun x => (x.frontFaulted, x.backFaulted, x.broken)) == some (true, false, true)) = true := by
  decide

theorem test_image_fault_deasserted : after .imageFaultDeasserted
    ((stateIn .idle).setLines { Lines.low with imageFault := true }) (fun t => t.lines == Lines.low) = true := by decide

/-- R67, R68. -/
theorem test_tray_empty_asserted : after (.trayEmptyAsserted 3) (stateIn .idle)
    (fun t => t.lines.trayEmpty == #v[false, false, false, true] && t.run.holds == FeedHolds.empty) = true := by decide

theorem test_tray_empty_deasserted : after (.trayEmptyDeasserted 3)
    (((stateIn .idle).setLines { Lines.low with trayEmpty := #v[true, false, false, true] }).setRun
      { (stateIn .idle).run with holds := { FeedHolds.empty with tray := #v[true, false, false, true] } })
    (fun t => t.run.holds.tray == #v[true, false, false, false]) = true := by decide

/-- R120: the hold comes with the second line. -/
theorem test_stacker_full : after (.stackerFull .k2 true) ((stateIn .idle).setLines { Lines.low with stackerFull1 := true })
    (fun t => t.run.holds.stackersFull && t.lines.stackerFull2) = true := by decide

theorem test_stacker_full_alone : after (.stackerFull .k2 true) (stateIn .idle)
    (fun t => !t.run.holds.stackersFull && t.lines.stackerFull2) = true := by decide

theorem test_purge_full : after (.purgeFull true) (stateIn .idle) (fun t => t.run.holds.purgeFull) = true := by decide

/-- R149: a fall is no event. -/
theorem test_cover_open_deasserted : after .coverOpenDeasserted
    ((stateIn .idle).setLines { Lines.low with coverOpen := true })
    (fun t => t.lines == Lines.low && t.run.state == .idle) = true := by decide

theorem test_encoder : after .encoder (lockedIn .running) (fun t => t.drive.count == 201) = true := by decide

/-- Chapter 7's lock band at code 4 is 194 to 206. -/
theorem test_lock_band_edge : after .encoderWindowClose
    (((stateIn .starting).setDrive ⟨.spinUp, 0, 4, 194, 0, some 1000, 0, 0, 0, some 200000, true, 4⟩).setTick 1000)
    (fun t => t.drive.inBandRun == 1 && t.drive.lastCount == 194 && t.drive.windowClose == some 2000) = true := by decide

theorem test_below_lock_band : after .encoderWindowClose
    (((stateIn .starting).setDrive ⟨.spinUp, 0, 4, 193, 0, some 1000, 3, 0, 0, some 200000, true, 4⟩).setTick 1000)
    (fun t => t.drive.inBandRun == 0 && t.drive.state == .spinUp) = true := by decide

/-- R127: START fails with detail 202 hex. -/
theorem test_lock_timeout : after .lockTimeout
    ((((stateIn .starting).setDrive ⟨.spinUp, 0, 4, 0, 0, some 300, 0, 0, 0, some 200, true, 4⟩).setTick 200).setRun
      { (stateIn .starting).run with command := .accepted, running := some ⟨some .start, 4, 0, 0, false⟩ })
    (fun t => t.run.state == .idle && t.drive.state == .coasting
      && t.junction.agentQueue == [.commandFinish 0x2020009]) = true := by decide

/-- R58: slot 1 passes at T0 + 33,000. -/
theorem test_slot_passes : after .slotPasses ((lockedIn .running).setTick 33000)
    (fun t => t.scheduler.grid.map (fun g => g.current) == some 2) = true := by decide

theorem test_slot_not_passed : after .slotPasses ((lockedIn .running).setTick 32999)
    (fun t => t.scheduler.grid.map (fun g => g.current) == some 1) = true := by decide

/-- Chapter 1's pick from tray 3 at code 4: its sensor expects the sheet from +3,091 to +4,177. -/
theorem test_pick_due : after (.pickDue 0)
    (((lockedIn .running).putSheet 0 (some (sheetOf { entry 301 1 with tray := 2 } .scheduled))).putTimers 0
      { SheetTimers.none with pick := some 0 })
    (fun t => t.pulses == [.pick 2]
      && (t.sensor .F3).expectations.map (fun e => (e.opens, e.closes)) == [(3091, 4177)]) = true := by decide

/-- R67: an empty tray feeds nothing and is held. -/
theorem test_pick_due_empty : after (.pickDue 0)
    ((((lockedIn .running).putSheet 0 (some (sheetOf (entry 301 1) .scheduled))).putTimers 0
      { SheetTimers.none with pick := some 0 }).setLines { Lines.low with trayEmpty := #v[false, true, false, false] })
    (fun t => t.pulses == [] && t.run.holds.tray == #v[false, true, false, false] && t.sheet 0 == none
      && t.plan.queue == [entry 301 1]) = true := by decide

/-- R70: leg 10 is 16,667 at code 4, its margins 820 and 1,346. -/
theorem test_release_due : after (.releaseDue 0)
    ((((lockedIn .running).putSheet 0 (some (sheetOf (entry 301 1) .held))).putTimers 0
      { SheetTimers.none with release := some 5000, arrival := some 3000 }).setTick 5000)
    (fun t => t.pulses == [.holdRelease]
      && (t.sensor .MG).expectations.map (fun e => (e.opens, e.closes)) == [(20847, 23013)]) = true := by decide

/-- R70: one tick short of the minimum dwell the sheet waits. -/
theorem test_release_due_early : after (.releaseDue 0)
    ((((lockedIn .running).putSheet 0 (some (sheetOf (entry 301 1) .held))).putTimers 0
      { SheetTimers.none with release := some 5000, arrival := some 3001 }).setTick 5000)
    (fun t => t.pulses == [] && (t.timers 0).late == some 5001) = true := by decide

theorem test_late_release : after (.lateRelease 0)
    ((((lockedIn .draining).putSheet 0 (some (sheetOf (entry 301 1) .held))).putTimers 0
      { SheetTimers.none with late := some 5001 }).setTick 5001)
    (fun t => t.pulses == [.holdRelease] && (t.sheet 0).map (fun x => x.pass) == some 2) = true := by decide

/-- R90. -/
theorem test_window_expiry : after (.windowExpiry .F2 (.sheet 0))
    (((withSensor (lockedIn .running) .F2 false .none [expected]).putSheet 0
      (some (sheetOf (entry 301 1) .feeding))).setTick 200)
    (fun t => t.run.jam.map (fun j => j.cause) == some .late && (t.sensor .F2).expectations == []) = true := by decide

/-- R92: the occupant stays. -/
theorem test_stall : after (.stall .MG)
    (((withSensor (lockedIn .running) .MG true (.sheet 0) []).putSheet 0
      (some (sheetOf (entry 301 1) .approach))).setTick 2000)
    (fun t => t.run.jam.map (fun j => j.cause) == some .stall && (t.sensor .MG).occupant == .sheet 0) = true := by decide

/-- R140. -/
theorem test_grace_expiry : after .graceExpiry
    ((((stateIn .stopping).putSheet 0 (some (sheetOf (entry 301 1) .approach))).setTick 90).setRun
      { (stateIn .stopping).run with
        jam := some ⟨.stray, some .MG, none, false, 5, none, false⟩, graceDeadline := some 90 })
    (fun t => t.run.state == .stopped && (t.sheet 0).map (fun x => x.state) == some .stranded
      && t.attention.e.stop && t.attention.lineE && t.run.lastJam.map (fun j => j.time) == some 5) = true := by decide

/-- R177, R179: in PASS-ALL a read goes to the M-port. -/
theorem test_upstream_access : after (.upstreamAccess .P (readOf 0x100 .bytes1)) State.reset
    (fun t => t.junction.holder == some .P && t.junction.accessP.isSome) = true := by decide

/-- R180: an E-port write into a TAKEN plan slot is captured. -/
theorem test_upstream_access_guarded : after (.upstreamAccess .E (writeOf 0x200000 7))
    ((stateIn .idle).setPlan { PlanIntake.reset with slots := [.taken] })
    (fun t => t.junction.latch == some ⟨0x200000, .E, true, .planGuard, false⟩ && t.attention.lineE) = true := by decide

theorem test_access_complete : after .accessComplete
    ((State.reset.setMemory [(0x100, 0x5A)]).setJunction { Junction.reset with
      holder := some .P, accessP := some ⟨readOf 0x100 .bytes1, [], []⟩ })
    (fun t => t.junction.responseP == some ⟨true, [0x5A]⟩ && t.junction.holder.isNone) = true := by decide

/-- R180: a write into the view is answered and lost. -/
theorem test_dropped_write : after (.droppedWrite .E (writeOf 0x230004 9)) (stateIn .idle)
    (fun t => t.junction.responseE == some ⟨true, []⟩ && t.junction.holder.isNone && t.memory == []) = true := by decide

/-- R20. -/
theorem test_commit_event : after (.commitEvent 1) ((stateIn .idle).setPlan ⟨[.free, .free], [], 0, none⟩)
    (fun t => t.plan.slots == [.free, .pending] && t.junction.agentQueue == [.planFetch 1]) = true := by decide

/-- R45: a commit for a buffer that is not FILLING is refused. -/
theorem test_tag_commit_event : after (.tagCommitEvent 5) (stateIn .idle)
    (fun t => t.junction.agentQueue == [.tagWrite 5 .refusedState] && (t.buffer 5).state == .free) = true := by decide

/-- R154. -/
theorem test_code_event : after .codeEvent (stateIn .idle)
    (fun t => t.run.command == .accepted && t.junction.agentQueue == [.commandOp false]) = true := by decide

/-- R173: beyond the producer the consumer is clamped. -/
theorem test_consumer_write : after (.consumerWrite 9 15) ((stateIn .idle).setLog { LogWriter.reset with producer := 4 })
    (fun t => t.log.consumer == 4) = true := by decide

/-- R185: a deactivation while INACTIVE is BUSY, 4, with the run state, 0. -/
theorem test_anchor_event : after (.anchorEvent .deactivate) State.reset
    (fun t => t.junction.agentQueue == [.anchorResult 4] && t.junction.anchorFlag) = true := by decide

/-- R41: the first claim takes buffer 0. -/
theorem test_claim : after (.claim (readOf 0x230004 .bytes1)) (stateIn .idle)
    (fun t => t.junction.responseP == some ⟨true, [0]⟩ && (t.buffer 0).state == .filling) = true := by
  decide +kernel

/-- R42. -/
theorem test_claim_inspection : after (.claimInspection (readOf 0x230004 .bytes1)) (stateIn .idle)
    (fun t => t.junction.responseE == some ⟨true, [0]⟩ && (t.buffer 0).state == .free) = true := by
  decide +kernel

/-- R43. -/
theorem test_abandon : after (.abandon (writeOf 0x230008 63)) ((stateIn .idle).putBuffer 63 ⟨.filling, none, 0, false, false⟩)
    (fun t => t.buffer 63 == Buffer.free && t.junction.responseP == some ⟨true, []⟩) = true := by decide

/-- R175: STOP is bit 1. -/
theorem test_summary_read : after (.summaryRead .E (readOf 0x23000C .bytes1))
    ((stateIn .idle).setAttention { Attention.reset with e := { ESummary.empty with stop := true }, lineE := true })
    (fun t => t.junction.responseE == some ⟨true, [2]⟩ && t.attention == Attention.reset) = true := by
  decide +kernel

/-- R183. -/
theorem test_capture_rearm : after (.captureRearm .P (readOf 0x230018 .bytes1))
    ((stateIn .idle).setJunction { Junction.reset with latch := some ⟨0, .E, true, .tagGuard, true⟩ })
    (fun t => t.junction.latch.isNone && t.junction.responseP == some ⟨true, [3]⟩) = true := by
  decide +kernel

/-- R24: sequence 0 is not above the last accepted. -/
theorem test_plan_fetch_complete : after .planFetchComplete (withAgent (stateIn .idle) (.planFetch 2))
    (fun t => t.junction.agentQueue == [.planWrite 2 (.refused .sequence)]) = true := by decide

/-- R22: the word of a FIELD refusal is 3 with code 2 in its second byte. -/
theorem test_plan_commit_word : after .planCommitWordWritten
    (withAgent ((stateIn .idle).setPlan ⟨[.free, .pending], [], 0, none⟩) (.planWrite 1 (.refused .field)))
    (fun t => t.memory == [(0x20003C, 3), (0x20003D, 2)] && t.plan.slots == [.free, .free]) = true := by decide

/-- R46: an all-zero record has neither form. -/
theorem test_tag_fetch_complete : after .tagFetchComplete (withAgent (stateIn .idle) (.tagFetch 4))
    (fun t => t.junction.agentQueue == [.tagWrite 4 .refusedFormat]) = true := by decide

/-- R47: the buffer of a FORMAT refusal is FILLING again. -/
theorem test_tag_commit_word : after .tagCommitWordWritten
    (withAgent ((stateIn .idle).putBuffer 4 ⟨.closing, none, 0, false, false⟩) (.tagWrite 4 .refusedFormat))
    (fun t => t.memory == [(0x20204C, 3), (0x20204D, 8)] && (t.buffer 4).state == .filling) = true := by decide

/-- A command read: the code word and operand 1 stand in the block, and the command is being run. -/
def commanded (s : State) (code operand : Byte) : State :=
  let m : List Host.Cell :=
    (if operand = 0 then [] else [(0x220000, operand)]) ++ (if code = 0 then [] else [(0x22001C, code)])
  withAgent ((s.setMemory m).setRun
    { s.run with command := .accepted, running := some ⟨none, 0, 0, 0, false⟩ }) (.commandOp false)

/-- The operation asked for is the write of a result word. -/
def finishes (w : Word) (t : State) : Bool :=
  t.junction.agentQueue == [.commandFinish w] && t.run.command == .done && t.run.running.isNone

/-- R156: a code that names no command is BAD OPERAND with detail 0. -/
theorem test_unknown_command_code : after .unknownCommandCode (commanded (stateIn .idle) 15 0) (finishes 4) = true := by decide

/-- R158. -/
theorem test_start : after .start (commanded (stateIn .idle) 1 4)
    (fun t => t.run.state == .starting && t.drive.state == .spinUp && t.drive.target == 4 && t.drive.enable
      && t.drive.lockDeadline == some 200000 && t.run.command == .accepted) = true := by decide

/-- R158: code 8 is no speed code. -/
theorem test_start_bad_code : after .start (commanded (stateIn .idle) 1 8) (finishes 0x10004) = true := by decide

/-- R159. -/
theorem test_stop : after .stop (commanded (stateIn .idle) 2 0) (finishes 2) = true := by decide

/-- R161. -/
theorem test_pause_feed : after .pauseFeed (commanded (stateIn .idle) 3 0)
    (fun t => finishes 1 t && t.run.holds.operator) = true := by decide
theorem test_resume_feed : after .resumeFeed (commanded (stateIn .idle) 4 0) (finishes 2) = true := by decide

/-- R162: with no sheet past SCHEDULED the drive is relocked at once. -/
theorem test_change_speed : after .changeSpeed (commanded (lockedIn .running) 5 7)
    (fun t => finishes 1 t && t.run.state == .respeed && t.drive.state == .relock && t.drive.speed == 7) = true := by decide

/-- R134, R162: DRAINING to RUNNING. -/
theorem test_cancel_speed_change : after .cancelSpeedChange
    (commanded ((lockedIn .draining).setRun
      { (lockedIn .draining).run with changeStatus := .draining, drainTarget := some 7 }) 6 0)
    (fun t => finishes 1 t && t.run.state == .running && t.run.changeStatus == .cancelled) = true := by decide

/-- R160. -/
theorem test_halt : after .halt (commanded (lockedIn .running) 7 0)
    (fun t => finishes 1 t && t.run.state == .stopping && t.run.jam.map (fun j => j.cause) == some .operator) = true := by
  decide

/-- R163: CLEAR of a stopped path with nothing stranded. -/
theorem test_clear : after .clear (commanded (stateIn .stopped) 8 0)
    (fun t => finishes 1 t && t.run.state == .idle) = true := by decide

/-- R163: a covered sensor is NOT CLEAR. -/
theorem test_clear_covered : after .clear (commanded (withSensor (stateIn .stopped) .XO true .untracked []) 8 0)
    (fun t => finishes 5 t && t.run.state == .stopped) = true := by decide

/-- R164: two entries from sequence 2 up; the first is sheet 2, so that the copy is cut, bit 15 of the detail. -/
theorem test_withdraw : after .withdraw
    (commanded ((stateIn .idle).setPlan { PlanIntake.reset with queue := [entry 1 1, entry 2 2, entry 3 3] }) 9 2)
    (fun t => t.junction.agentQueue.contains (.commandFinish 0x80020001) && t.plan.queue == []) = true := by decide

/-- R165. -/
theorem test_release_buffer : after .releaseBuffer
    (commanded ((stateIn .idle).putBuffer 2 ⟨.held, some ⟨7, 1, .front⟩, 3, false, false⟩) 10 2) (finishes 0x30006) = true := by
  decide
theorem test_reclaim_buffer : after .reclaimBuffer
    (commanded ((stateIn .idle).putBuffer 2 ⟨.filling, none, 0, false, false⟩) 11 2)
    (fun t => finishes 1 t && t.buffer 2 == Buffer.free) = true := by decide

/-- R166. -/
theorem test_guard_on : after .guardOn (commanded (stateIn .running) 12 0) (finishes 2) = true := by decide
theorem test_guard_off : after .guardOff (commanded (stateIn .idle) 13 0)
    (fun t => finishes 1 t && !t.junction.guardOn) = true := by decide

/-- R167. -/
theorem test_select_stacker : after .selectStacker (commanded (stateIn .idle) 14 2)
    (fun t => finishes 1 t && t.output.selection == some .k2) = true := by decide

/-- R156: RESULT and then DONE in the block, COMMAND DONE in the summary. -/
theorem test_command_finish_written : after .commandFinishWritten (withAgent (stateIn .idle) (.commandFinish 0x10004))
    (fun t => t.memory == [(0x22000C, 2), (0x220010, 4), (0x220012, 1)] && t.attention.e.commandDone) = true := by decide

/-- R168: index 1000 of a ring of 64 stands at offset 1,344. -/
theorem test_log_record_written : after .logRecordWritten
    ((withAgent (stateIn .idle) (.logWrite 1000 ⟨5, .speedSet 0 4⟩)).setLog
      ⟨1000, 999, [], some (1000, ⟨5, .speedSet 0 4⟩), false⟩)
    (fun t => Memory.word t.memory (0x210000 + 1344) == 1000 && t.log.producer == 1001 && t.attention.e.logRecord) = true := by
  decide

/-- R186: format 0 is refused FORMAT, 5. -/
theorem test_config_read_complete : after .configReadComplete (withAgent State.reset (.configRead false 0 0x300000))
    (fun t => t.junction.agentQueue == [.anchorResult 5] && t.config.isNone) = true := by decide

theorem test_anchor_result_written : after .anchorResultWritten
    (withAgent (State.reset.setJunction { Junction.reset with anchorFlag := true }) (.anchorResult 5))
    (fun t => t.memory == [(0xFFFFF08, 5)] && !t.junction.anchorFlag && t.junction.lastResult == 5) = true := by decide

/-- R185: IN PROGRESS is 1; an anchor block whose format reads as all ones is refused with 3. -/
theorem test_anchor_read_complete : after .anchorReadComplete
    (withAgent (State.reset.setMemory
      [(0xFFFFF00, 255), (0xFFFFF01, 255), (0xFFFFF02, 255), (0xFFFFF03, 255)]) (.anchorRun false))
    (fun t => Memory.word t.memory 0xFFFFF08 == 1 && t.junction.agentQueue == [.anchorResult 3]) = true := by decide

/-- With nothing waiting one tick passes. -/
theorem test_idle_step : (match step State.reset with
    | .next t => t.tick == 1
    | .fault _ => false
    | .refused _ => false) = true := by decide

/-! ## Witnesses

Each theorem names a statement of Certificates/Slice0/Obligations.lean and meets its hypotheses on concrete values, one
conjunct or one theorem for each clause. -/

/-- A duplex sheet. -/
def duplex (q k : Nat) : PlanEntry := { entry q k with sides := .duplex }

theorem witness_StepWithNothingWaiting :
    (stateIn .idle).pending = [] ∧ State.reset.dueNow = []
    ∧ ((stateIn .idle).setDrive { Drive.reset with lockDeadline := some 0 }).dueNow ≠ [] := by decide

/-- For the invariants (MemoryStaysCanonical to CommandHeldWhileAccepted): they hold at reset, in IDLE with the guard
off, and with a command being run, and a step is made from there. -/
theorem witness_invariants :
    (Memory.wf State.reset.memory = true ∧ State.reset.drive.Sound ∧ State.reset.attention.Sound
      ∧ State.reset.ActivationSound ∧ State.reset.junction.Sound ∧ State.reset.run.CommandSound
      ∧ ∃ t, step State.reset = .next t)
    ∧ (let s := (stateIn .idle).setJunction { Junction.reset with guardOn := false };
      s.ActivationSound ∧ s.GuardSound ∧ s.junction.guardOn = false ∧ ∃ t, step s = .next t)
    ∧ (let s := (stateIn .idle).setRun
        { (stateIn .idle).run with command := .accepted, running := some ⟨none, 0, 0, 0, false⟩ }
      s.run.CommandSound ∧ ∃ t, step s = .next t) := by
  unfold Drive.Sound Attention.Sound State.ActivationSound State.GuardSound Junction.Sound RunControl.CommandSound
  refine ⟨⟨by decide, by decide, by decide, by decide, ⟨rfl, rfl, rfl⟩, by decide, _, rfl⟩, ⟨by decide, by decide, by decide, _, rfl⟩,
    ⟨by decide, _, rfl⟩⟩

theorem witness_BufferEntriesHold :
    State.reset.buffers.Sound ∧ ((stateIn .idle).putBuffer 63 ⟨.held, some ⟨7, 1023, .back⟩, 255, false, true⟩).buffers.Sound
      ∧ (∃ t, step State.reset = .next t) := by
  refine ⟨?_, ?_, _, rfl⟩
  · intro b
    have : State.reset.buffers.table[b] = Buffer.free := by revert b; decide
    rw [this]; rfl
  · intro b
    by_cases hb : b = 63
    · subst hb
      exact ⟨⟨_, rfl, by decide⟩, by decide⟩
    · have : ((stateIn .idle).putBuffer 63 ⟨.held, some ⟨7, 1023, .back⟩, 255, false, true⟩).buffers.table[b] = Buffer.free := by
        revert b; decide
      rw [this]; rfl

/-- A pick and a hold release are made by steps. -/
theorem witness_PulsesOnlyWhileLocked :
    (∃ t, step (((((lockedIn .running).putSheet 0 (some (sheetOf (entry 301 1) .scheduled))).putTimers 0
        { SheetTimers.none with pick := some 0 })).setPending [.pickDue 0]) = .next t ∧ .pick 1 ∈ t.pulses)
    ∧ (∃ t, step ((((lockedIn .draining).putSheet 0 (some (sheetOf (entry 301 1) .held))).putTimers 0
        { SheetTimers.none with late := some 0 }).setPending [.lateRelease 0]) = .next t ∧ .holdRelease ∈ t.pulses) :=
  ⟨⟨_, rfl, by decide⟩, ⟨_, rfl, by decide⟩⟩

theorem witness_CommandsChangeOnlyTheirParts : ∃ t, exec .powerReset (lockedIn .running) = .next t := ⟨_, rfl⟩

/-- The hypotheses of NominalTravelRule at both ends of the configured ranges, and those of MarginsAndCloses,
LeadsAndDues and LoopPitchesRule. -/
theorem witness_travel :
    ((0 : Nat) < 2000 ∧ (0 : Nat) < 512)
    ∧ (100 ≤ 100 ∧ 100 ≤ 40000 ∧ 200 ≤ 2000 ∧ 2000 ≤ 2000 ∧ 128 ≤ 512 ∧ 512 ≤ 512)
    ∧ (100 ≤ 40000 ∧ 40000 ≤ 40000 ∧ 200 ≤ 200 ∧ 200 ≤ 2000 ∧ 128 ≤ 128 ∧ 128 ≤ 512)
    ∧ cfg.geometryInRange = true
    ∧ 1 ≤ ((timingSet cfg 0).time (.pick 0)).nominal ∧ 1 ≤ ((timingSet cfg 7).time (.leg 17)).nominal
    ∧ (duplex 301 1).sides = .duplex
    ∧ 0 < (timingSet cfg 0).pitch ∧ 0 < (timingSet cfg 7).pitch := by decide

/-- Sheet 1 of a SET statement three slots after the last final slot, the set gap at code 4. -/
theorem witness_SetGapRule : (entry 301 1).k = 1 ∧ (entry 301 1).mode = .set
    ∧ orderFits (tm.grid 0) (some ⟨4, 4, 0⟩) (entry 301 1) 7 7 = true
    ∧ orderFits (tm.grid 0) (some ⟨4, 4, 0⟩) (entry 301 1) 6 6 = false := by decide

/-- A ring of 32, a slot found and none found. -/
theorem witness_SlotSearchRule : (tm.grid 0).ring.length = 32
    ∧ (tm.grid 0).search 0 none (entry 301 1) = some 2
    ∧ ({ tm.grid 0 with ring := List.replicate 32 (.front 0) }).search 0 none (entry 301 1) = none := by decide

/-- Slot 2 meets R62 at the lock tick: its pick is due at 66,000 - 47,000. -/
theorem witness_Fits : (tm.grid 0).Fits 0 none (entry 301 1) 2 := by
  refine ⟨by decide, ?_, by decide, by decide, by decide, by decide, by decide, by decide⟩
  intro b hb
  cases hb

/-- A queue with one head, ready to be admitted. -/
def queued : State := (lockedIn .running).setPlan { PlanIntake.reset with queue := [entry 301 1] }

/-- Every sheet entry in use. -/
def allLive (s : State) : State :=
  s.setTracker { s.tracker with sheets := Vector.replicate 16 (some (sheetOf (entry 301 1) .approach)) }

theorem witness_AdmissionWaits :
    (stateIn .running).scheduler.grid = none ∧ (lockedIn .draining).run.state ≠ .running
    ∧ ((lockedIn .running).setDrive Drive.reset).drive.state ≠ .locked
    ∧ ((lockedIn .running).scheduler.grid = some (tm.grid 0) ∧ (lockedIn .running).run.state = .running
      ∧ (lockedIn .running).drive.state = .locked ∧ (lockedIn .running).plan.queue = [])
    ∧ queued.plan.queue = entry 301 1 :: []
    ∧ (queued.setRun { queued.run with holds := { FeedHolds.empty with operator := true } }).run.holds.any = true
    ∧ (queued.setLines { Lines.low with trayEmpty := #v[false, true, false, false] }).lines.trayEmpty[(1 : Tray)] = true
    ∧ (queued.run.holds.any = false ∧ queued.lines.trayEmpty[(1 : Tray)] = false)
    ∧ (∀ h, (allLive queued).sheet h ≠ none)
    ∧ (∃ h, queued.sheet h = none)
    ∧ (let s := queued.setLog { LogWriter.reset with producer := 57 };
      s.logFree < s.liveCount + s.output.set.members.length + 8)
    ∧ (let s := queued.setLog { LogWriter.reset with producer := 56 };
      s.liveCount + s.output.set.members.length + 8 ≤ s.logFree)
    ∧ ({ tm.grid 0 with ring := List.replicate 32 (.front 0) }).search 0 none (entry 301 1) = none := by
  refine ⟨by decide, by decide, by decide, by decide, by decide, by decide, by decide, by decide, by decide, ⟨0, by decide⟩,
    by decide, by decide, by decide⟩

/-- The lowest FREE entry is 1 when entry 0 is in use; a SIMPLEX and a DUPLEX head, each with another entry behind it. -/
theorem witness_AdmissionFills :
    let s := fun (x : PlanEntry) => (queued.setPlan { PlanIntake.reset with queue := [x, entry 302 2] }).putSheet 0
      (some (sheetOf (entry 300 1) .exiting));
    ∀ x ∈ [entry 301 1, duplex 301 1],
      ((s x).scheduler.grid = some (tm.grid 0) ∧ (s x).run.state = .running ∧ (s x).drive.state = .locked
        ∧ (s x).plan.queue = x :: [entry 302 2] ∧ (s x).run.holds.any = false ∧ (s x).lines.trayEmpty[x.tray] = false)
      ∧ (s x).sheet 1 = none ∧ (∀ k : Handle, k < 1 → (s x).sheet k ≠ none)
      ∧ (s x).liveCount + (s x).output.set.members.length + 8 ≤ (s x).logFree
      ∧ (tm.grid 0).search (s x).tick (s x).scheduler.admissionBounds x = some 2 := by
  decide

/-- Lines at the level they are driven to. -/
theorem witness_LinesFollowed :
    ((stateIn .idle).setLines { Lines.low with coverOpen := true }).lines.coverOpen = true
    ∧ ((stateIn .idle).setLines { Lines.low with imageFault := true }).lines.imageFault = true
    ∧ ((withSensor (stateIn .idle) .PB true .untracked []).sensor .PB).covered = true
    ∧ ((stateIn .idle).sensor .F1).covered = false
    ∧ (stateIn .idle).lines.trayEmpty[(3 : Tray)] = false
    ∧ (stateIn .idle).lines.stackerFull1 = false ∧ (stateIn .idle).lines.stackerFull2 = false
    ∧ (stateIn .idle).lines.purgeFull = false := by decide

theorem witness_EngineResetEffect :
    (∀ r, (stateIn r).run.CommandSound)
    ∧ ((stateIn .starting).run.state.runs = true ∧ (stateIn .respeed).run.state.runs = true)
    ∧ (stateIn .stopping).run.state = .stopping
    ∧ ((stateIn .inactive).run.state.runs = false ∧ (stateIn .inactive).run.state ≠ .stopping)
    ∧ (commanded (stateIn .running) 0 0).run.command = .accepted
    ∧ (commanded (stateIn .running) 0 0).run.CommandSound := by
  unfold RunControl.CommandSound
  refine ⟨fun r => ?_, by decide, by decide, by decide, by decide, by decide⟩
  cases r <;> decide

/-- A set in a state, of one sheet of the statement. -/
def setIn (x : SetState) : SetRecord :=
  { SetRecord.empty with
    state := x, copy := some (entry 301 1).copy, n := 4, members := [⟨301, 6001, 1, none, none, 0, 0, false⟩]
    destination := if x = .ejecting then some .k1 else none }

def withSet (s : State) (x : SetState) : State := s.setOutput { s.output with set := setIn x }

/-- COVER OPEN low in each kind of run state, with a set in flight, one at rest and an EMPTY one, and with a CLEAR being
run. -/
theorem witness_CoverOpenEffect :
    ((lockedIn .running).lines.coverOpen = false ∧ (lockedIn .running).run.state.runs = true)
    ∧ ((stateIn .inactive).lines.coverOpen = false ∧ (stateIn .inactive).run.state = .inactive)
    ∧ ((stateIn .stopping).lines.coverOpen = false ∧ (stateIn .stopping).run.state = .stopping)
    ∧ ((stateIn .clearing).lines.coverOpen = false ∧ (stateIn .clearing).run.state = .clearing
      ∧ (stateIn .clearing).output.set.state = .empty)
    ∧ ((setIn .ejecting).flies ∧ ¬ (setIn .collecting).flies ∧ (setIn .collecting).state ≠ .empty
      ∧ (setIn .collecting).condition = .sound ∧ (setIn .ejecting).condition ≠ .scattered)
    ∧ (let s := commanded (withSet (stateIn .clearing) .collecting) 8 0;
      s.lines.coverOpen = false ∧ s.run.state = .clearing ∧ s.run.running.isSome = true) := by
  unfold SetRecord.flies
  decide

theorem no_collision (s : State) (x : Sensor) (h : x ≠ .LH ∧ x ≠ .AC) : ¬ s.Collides x := by
  rintro (⟨hx, _⟩ | ⟨hx, _⟩)
  · exact h.1 hx
  · exact h.2 hx

theorem no_hold_collision (s : State) (h : ∀ k, (s.sheet k).map (fun y => y.state) ≠ some .held) :
    ¬ s.Collides .LH := by
  rintro (⟨_, k, sh, hs, hh⟩ | ⟨hx, _⟩)
  · exact h k (by rw [hs, Option.map_some, hh])
  · cases hx

theorem no_set_collision (s : State) (h : s.output.set.state ≠ .ejecting ∧ s.output.set.state ≠ .dumping) :
    ¬ s.Collides .AC := by
  rintro (⟨hx, _⟩ | ⟨_, hx | hx⟩)
  · cases hx
  · exact h.1 hx
  · exact h.2 hx

/-- A sheet expected at a sensor, with a HELD sheet and a set in flight besides. -/
def colliding (r : RunState) (x : Sensor) (n : Tick) : State :=
  (withSet (((withSensor (lockedIn r) x false .none [expected]).putSheet 0 (some (sheetOf (entry 301 1) .looping))).putSheet
    1 (some (sheetOf (entry 300 1) .held))) .ejecting).setTick n

theorem collides (r : RunState) (x : Sensor) (n : Tick) (h : x = .LH ∨ x = .AC) : (colliding r x n).Collides x := by
  obtain rfl | rfl := h
  · exact .inl ⟨rfl, 1, _, rfl, rfl⟩
  · exact .inr ⟨rfl, .inl rfl⟩

/-- No head, a tick before the window and one after it; collisions at both ends of the window, before it, after it and
with no head; and paper, and a set expected, where sheet queues are not judged. -/
theorem witness_StrayAndEarlyEdges :
    (let s := lockedIn .running;
      (s.sensor .F2).covered = false ∧ s.run.state.judgesSheets = true ∧ ¬ s.Collides .F2
        ∧ (s.sensor .F2).expectations = [])
    ∧ (let s := fun n => (withSensor (lockedIn .running) .F2 false .none [expected]).setTick n;
      ((s 99).sensor .F2).covered = false ∧ (s 99).run.state.judgesSheets = true ∧ ¬ (s 99).Collides .F2
        ∧ ((s 99).sensor .F2).expectations = expected :: [] ∧ laterThan expected.opens (s 99).tick = true
        ∧ laterThan expected.opens (s 201).tick = false ∧ laterThan (s 201).tick expected.closes = true
        ∧ (s 201).run.state ≠ .stopping)
    ∧ (∀ r n x, x = .LH ∨ x = .AC → (colliding r x n).Collides x
      ∧ (colliding r x n).sensor x = ⟨false, .none, 0, 1000, 2000, some 2000, [expected]⟩
      ∧ (colliding r x n).sheet 0 = some (sheetOf (entry 301 1) .looping) ∧ (colliding r x n).run.state = r
      ∧ (colliding r x n).tick = n)
    ∧ (RunState.running.judgesSheets = true ∧ RunState.stopping.judgesSheets = true ∧ expected.item = .sheet 0
      ∧ laterThan expected.opens 100 = false ∧ laterThan 100 expected.closes = false
      ∧ laterThan expected.opens 200 = false ∧ laterThan 200 expected.closes = false
      ∧ laterThan expected.opens 99 = true ∧ laterThan 201 expected.closes = true)
    ∧ (let s := withSensor (stateIn .idle) .F2 false .none [expected];
      (s.sensor .F2).covered = false ∧ s.run.state.judgesSheets = false
        ∧ ∀ e ∈ (s.sensor .F2).expectations, e.item ≠ .set)
    ∧ (let e : Expectation := ⟨.set, 100, 200, 1000, 2000, true⟩
      let s := fun n => (withSensor (stateIn .idle) .K1 false .none [expected, e]).setTick n;
      (s 99).run.state.judgesSheets = false
        ∧ ((s 99).sensor .K1).expectations.find? (fun f => f.item == .set) = some e
        ∧ laterThan e.opens (s 99).tick = true ∧ laterThan e.opens (s 201).tick = false
        ∧ laterThan (s 201).tick e.closes = true) := by
  refine ⟨⟨by decide, by decide, no_collision _ _ (by decide), by decide⟩,
    ⟨by decide, by decide, no_collision _ _ (by decide), by decide⟩,
    fun r n x h => ⟨collides r x n h, by cases x <;> rfl, by cases x <;> rfl, rfl, rfl⟩,
    by decide, by decide, by decide⟩

/-- A sheet that a sensor awaits. -/
def awaiting (r : RunState) (x : Sensor) (y : Sheet) (n : Tick) : State :=
  ((withSensor (lockedIn r) x false .none [expected]).putSheet 0 (some y)).setTick n

theorem awaits (r : RunState) (x : Sensor) (y : Sheet) (n : Tick) (h : y.state ≠ .held) :
    (awaiting r x y n).sensor x = ⟨false, .none, 0, 1000, 2000, some 2000, [expected]⟩
      ∧ (awaiting r x y n).sheet 0 = some y ∧ (awaiting r x y n).run.state = r ∧ (awaiting r x y n).tick = n
      ∧ ¬ (awaiting r x y n).Collides x := by
  refine ⟨by cases x <;> rfl, rfl, rfl, rfl, ?_⟩
  rintro (⟨_, k, sh, hs, hh⟩ | ⟨_, hx | hx⟩)
  · by_cases hk : k = 0
    · subst hk
      have h1 : (awaiting r x y n).sheet 0 = some y := rfl
      rw [h1] at hs
      exact h (by cases hs; exact hh)
    · have h1 : ∀ k : Handle, k ≠ 0 → (awaiting r x y n).sheet k = none := by
        intro k
        fin_cases k <;> intro hk <;> first | rfl | exact absurd rfl hk
      rw [h1 k hk] at hs
      cases hs
  · cases hx
  · cases hx

/-- Both ends of the window, and after it in STOPPING, for a sheet at every sensor (`awaits`); the set at K1, at the
head in RUNNING and behind a sheet in IDLE. -/
theorem witness_MatchedEdges :
    (let sh : Sheet := { sheetOf (entry 301 1) .looping with route := some .accumulate };
      sh.state ≠ .held ∧ sh.halted = false ∧ sh.route = some .accumulate ∧ { sh with halted := true }.halted = true
        ∧ nextLeg .RG = some 5 ∧ expected.item = .sheet 0 ∧ RunState.running.judgesSheets = true
        ∧ RunState.stopping.judgesSheets = true)
    ∧ (notEarlier 100 expected.opens = true ∧ notEarlier expected.closes 100 = true
      ∧ notEarlier 200 expected.opens = true ∧ notEarlier expected.closes 200 = true
      ∧ notEarlier 201 expected.opens = true)
    ∧ ({ Lines.low with imageFault := true }.imageFault = true ∧ (lockedIn .running).lines.imageFault = false)
    ∧ (let e : Expectation := ⟨.set, 100, 200, 1000, 2000, true⟩
      let u := fun (r : RunState) (l : List Expectation) => (withSensor (lockedIn r) .K1 false .none l).setTick 200
      (∀ r l, ((u r l).sensor .K1).covered = false ∧ ¬ (u r l).Collides .K1)
        ∧ ((u .running [e]).run.state.judgesSheets = true ∧ ((u .running [e]).sensor .K1).expectations.head? = some e)
        ∧ ((u .idle [expected, e]).run.state.judgesSheets = false
          ∧ ((u .idle [expected, e]).sensor .K1).expectations.find? (fun f => f.item == .set) = some e)
        ∧ notEarlier (u .running [e]).tick e.opens = true ∧ notEarlier e.closes (u .running [e]).tick = true) := by
  exact ⟨by decide, by decide, by decide, fun r l => ⟨rfl, no_collision _ _ (by decide)⟩, by decide, by decide,
    by decide, by decide⟩

/-- A sheet over a sensor, its cover one tick short of the cover min and at it: halted, HELD and not released, routed to
the purge bin, and its entry FREE; the set in flight and at rest; paper; and a sheet and no occupant in IDLE. -/
theorem witness_TrailingEdges :
    let upon := fun (x : Sensor) (o : Occupant) (y : Option Sheet) n =>
      ((withSensor (lockedIn .running) x true o []).putSheet 0 y).setTick n
    let sh := sheetOf (entry 301 1) .looping
    let held := sheetOf (entry 301 1) .held
    let purged : Sheet := { sheetOf (entry 301 1) .exiting with route := some .purge }
    (∀ x o y n, (upon x o y n).sensor x = ⟨true, o, 0, 1000, 2000, some 2000, []⟩ ∧ (upon x o y n).sheet 0 = y
      ∧ (upon x o y n).run.state = .running ∧ (upon x o y n).tick = n)
    ∧ (((999 : Tick) - 0).toNat < 1000 ∧ ¬ ((1000 : Tick) - 0).toNat < 1000 ∧ RunState.running.judgesSheets = true)
    ∧ (held.state = .held ∧ held.resting = false ∧ sh.state ≠ .held)
    ∧ (sh.halted = false ∧ sh.route = none ∧ purged.route = some .purge ∧ purged.halted = false
      ∧ { sh with halted := true }.halted = true)
    ∧ (∀ o, let s := withSensor (stateIn .idle) .XO true o [];
      (s.sensor .XO).covered = true ∧ (s.sensor .XO).occupant = o ∧ s.run.state.judgesSheets = false)
    ∧ (∀ s, (withSet s .dumping).output.set.flies ∧ ¬ (withSet s .collecting).output.set.flies) := by
  intro upon sh held purged
  refine ⟨fun x o y n => ⟨by cases x <;> rfl, by cases x <;> rfl, rfl, rfl⟩, by decide, by decide, by decide,
    fun o => ⟨rfl, rfl, rfl⟩, fun s => ⟨.inr rfl, ?_⟩⟩
  rintro (h | h) <;> cases h

/-- A sheet at its destination's sensor in RUNNING, its cover at the cover min. -/
def arriving (x : Sensor) (r : Route) (e : PlanEntry) : State :=
  ((withSensor (lockedIn .running) x true (.sheet 0) []).putSheet 0
    (some { sheetOf e .exiting with route := some r })).setTick 1000

theorem witness_DirectDelivery :
    let e := { entry 301 1 with mode := .direct }
    let s := arriving .K2 .k2 e;
    (s.sensor .K2).covered = true ∧ (s.sensor .K2).occupant = .sheet 0
      ∧ s.sheet 0 = some { sheetOf e .exiting with route := some .k2 } ∧ s.run.state.judgesSheets = true
      ∧ (sheetOf e .exiting).halted = false ∧ (s.sensor .K2).coverMin ≤ (s.tick - (s.sensor .K2).coverStart).toNat := by
  decide

/-- Sheets at FX: pass 1 of a DUPLEX sheet, SET sheets 1 and 2, a broken DIRECT sheet, and sheets 1 and 2 of a DIRECT
copy that is not; and an edge after the close in STOPPING. -/
theorem witness_FuserDecisions :
    let s := ((withSensor (lockedIn .running) .FX false .none [expected]).putSheet 0
      (some (sheetOf (duplex 301 1) .printing))).setTick 200
    ((s.sensor .FX).covered = false ∧ s.run.state.judgesSheets = true ∧ (s.sensor .FX).expectations = expected :: []
      ∧ s.sheet 0 = some (sheetOf (duplex 301 1) .printing) ∧ s.tracker.timing = some tm
      ∧ notEarlier s.tick expected.opens = true ∧ notEarlier expected.closes s.tick = true)
    ∧ ((duplex 301 1).sides = .duplex ∧ (sheetOf (duplex 301 1) .printing).pass = 1)
    ∧ ¬ ((entry 301 1).sides = .duplex ∧ (sheetOf (entry 301 1) .printing).pass = 1)
    ∧ ((entry 301 1).mode = .set ∧ (entry 301 1).k = 1 ∧ (entry 302 2).k ≠ 1)
    ∧ ({ entry 302 2 with mode := .direct } : PlanEntry).mode = .direct
    ∧ ({ entry 301 1 with mode := .direct } : PlanEntry).k = 1
    ∧ ({ sheetOf (entry 302 2) .printing with broken := true } : Sheet).broken = true
    ∧ ((sheetOf (entry 302 2) .printing).broken || (s.output.brokenRecord (entry 302 2).copy).isSome) = false
    ∧ (RunState.stopping.judgesSheets = true ∧ notEarlier 201 expected.opens = true
      ∧ notEarlier expected.closes 201 = false) := by
  intro s
  refine ⟨⟨by decide, by decide, by decide, rfl, rfl, by decide, by decide⟩, by decide, by decide, by decide, by decide,
    by decide, by decide, by decide, by decide⟩

/-- An EMPTY set, one that lacks its last member, and sets that no sheet continues: COMPLETE, in flight, and of another
copy. -/
theorem witness_SetCollects :
    let s := arriving .AC .accumulate (entry 301 1)
    let continues := fun (set : SetRecord) (p : PlanEntry) => set.state = .collecting ∧ set.members.length < set.n
      ∧ set.copy = some p.copy ∧ p.k = set.members.length + 1;
    ((s.sensor .AC).covered = true ∧ (s.sensor .AC).occupant = .sheet 0
      ∧ s.sheet 0 = some { sheetOf (entry 301 1) .exiting with route := some .accumulate }
      ∧ s.run.state.judgesSheets = true ∧ (sheetOf (entry 301 1) .exiting).halted = false
      ∧ (s.sensor .AC).coverMin ≤ (s.tick - (s.sensor .AC).coverStart).toNat)
    ∧ (s.output.set.state = .empty ∧ (entry 301 1).k = 1)
    ∧ (let last : SetRecord := { setIn .collecting with
        members := List.replicate 3 ⟨301, 6001, 1, none, none, 0, 0, false⟩ }
      continues last (entry 304 4) ∧ last.members.length + 1 = last.n)
    ∧ (∀ x ∈ [SetState.complete, .ejecting, .dumping], (setIn x).state ≠ .empty ∧ ¬ continues (setIn x) (entry 302 2))
    ∧ ¬ continues (setIn .collecting) { entry 302 2 with opening := 7 } := by
  decide

theorem witness_ImageFaultEffect :
    let s := (withSensor (lockedIn .running) .TR true (.sheet 0) []).putSheet 0 (some (sheetOf (entry 301 1) .printing));
    (s.lines.imageFault = false ∧ (s.sensor .TR).occupant = .sheet 0 ∧ s.run.state.judgesSheets = true
      ∧ s.sheet 0 = some (sheetOf (entry 301 1) .printing))
    ∧ (let x := sheetOf (entry 301 1) .printing;
      (if x.pass = 1 then x.frontFaulted else x.backFaulted) = false)
    ∧ (let x : Sheet := { sheetOf (entry 301 1) .printing with pass := 2, backFaulted := true }
      (if x.pass = 1 then x.frontFaulted else x.backFaulted) = true)
    ∧ (stateIn .idle).run.state.judgesSheets = false := by
  intro s
  refine ⟨⟨by decide, by decide, by decide, rfl⟩, by decide, by decide, by decide⟩

/-- A line of each kind high, the holds set and not set. -/
theorem witness_LineHolds :
    let high : Lines := ⟨#v[true, true, true, true], true, true, true, true, true⟩
    let held : State := ((stateIn .idle).setLines high).setRun
      { (stateIn .idle).run with holds := ⟨#v[true, true, true, true], true, true, true⟩ }
    (∀ k : Tray, held.lines.trayEmpty[k] = true)
    ∧ ((stateIn .inactive).run.state = .inactive ∧ (stateIn .inactive).lines.purgeFull ≠ true
      ∧ (stateIn .inactive).lines.stackerFull1 ≠ true ∧ (stateIn .inactive).lines.stackerFull2 ≠ true)
    ∧ ((stateIn .idle).run.state ≠ .inactive ∧ (stateIn .idle).lines.purgeFull = false
      ∧ (stateIn .idle).lines.stackerFull1 = false ∧ (stateIn .idle).lines.stackerFull2 = false)
    ∧ (held.output.set.state = .empty ∧ held.output.set.condition = .sound ∧ held.lines.purgeFull = true
      ∧ held.run.holds.purgeFull = true ∧ held.lines.stackerFull1 = true ∧ held.lines.stackerFull2 = true
      ∧ held.run.holds.stackersFull = true)
    ∧ (((stateIn .idle).setLines high).run.holds.purgeFull = false
      ∧ ((stateIn .idle).setLines high).run.holds.stackersFull = false) := by decide

/-- Both lines high with the hold set and clear, in each run state that ejects, the copy committed and not. -/
theorem witness_EjectBegins :
    let committed : List (Option (Copy × Stacker)) := [none, some ((entry 301 1).copy, .k2), some (⟨6002, 400⟩, .k1)]
    ∀ r ∈ [RunState.running, .draining, .idle], ∀ h ∈ [true, false], ∀ d ∈ committed,
      let s := (((lockedIn r).setLines { Lines.low with stackerFull1 := true, stackerFull2 := true }).setOutput
        { OutputUnit.reset with committed := d, set := setIn .complete }).setRun
          { (lockedIn r).run with holds := { FeedHolds.empty with stackersFull := h } }
      s.lines.stackerFull1 = true ∧ s.lines.stackerFull2 = true
        ∧ (s.run.state = .running ∨ s.run.state = .draining ∨ s.run.state = .idle)
        ∧ s.output.set.state = .complete ∧ s.output.set.condition = .sound ∧ s.output.set.members ≠ []
        ∧ s.config = some cfg ∧ s.tracker.timing = some tm ∧ s.run.holds.stackersFull = h ∧ s.output.committed = d
        ∧ s.output.set.copy = some (entry 301 1).copy ∧ (entry 301 1).copy ≠ ⟨6002, 400⟩ := by
  intro committed r hr h _ d _
  have hr' : r = .running ∨ r = .draining ∨ r = .idle := by revert r; decide
  exact ⟨rfl, rfl, hr', rfl, rfl, List.cons_ne_nil _ _, rfl, rfl, rfl, rfl, rfl, by decide⟩

/-- Code 4's lock band is 194 to 206 and its run band 185 to 215; the counts at both ends and one beyond. -/
theorem witness_EncoderWindows :
    let seek := ((stateIn .starting).setDrive ⟨.spinUp, 0, 4, 194, 0, some 1000, 2, 0, 0, some 200000, true, 4⟩).setTick 1000;
    (seek.config = some cfg ∧ seek.drive.windowClose = some 1000 ∧ seek.drive.state.seeking = true)
    ∧ (notEarlier 999 (1000 : Tick) = false ∧ notEarlier seek.tick 1000 = true)
    ∧ InBand (encoderCountOf cfg cfg.speed[seek.drive.target]) cfg.lockTolerance 194
    ∧ InBand (encoderCountOf cfg cfg.speed[seek.drive.target]) cfg.lockTolerance 206
    ∧ ¬ InBand (encoderCountOf cfg cfg.speed[seek.drive.target]) cfg.lockTolerance 193
    ∧ ¬ InBand (encoderCountOf cfg cfg.speed[seek.drive.target]) cfg.lockTolerance 207
    ∧ seek.drive.inBandRun + 1 < 4
    ∧ (let coast : Drive := ⟨.coasting, 4, 4, 0, 0, some 1000, 0, 0, 0, none, false, 4⟩
      coast.state = .coasting ∧ coast.count = 0 ∧ coast.zeroRun + 1 < 2
        ∧ { coast with count := 1 }.count ≠ 0 ∧ { coast with zeroRun := 1 }.zeroRun = 1)
    ∧ ((lockedIn .running).drive.state = .locked ∧ (lockedIn .running).tracker.timing = some tm)
    ∧ InBand tm.encoderCount cfg.runTolerance 185 ∧ InBand tm.encoderCount cfg.runTolerance 215
    ∧ ¬ InBand tm.encoderCount cfg.runTolerance 184 ∧ ¬ InBand tm.encoderCount cfg.runTolerance 216
    ∧ ¬ InBand tm.encoderCount cfg.runTolerance 0
    ∧ (lockedIn .running).drive.deviationRun + 1 < 3 ∧ (lockedIn .running).drive.zeroRun + 1 < 2 := by
  intro seek
  unfold InBand
  refine ⟨by decide, by decide, by decide, by decide, by decide, by decide, by decide, by decide,
    ⟨by decide, rfl⟩, by decide, by decide, by decide, by decide, by decide, by decide, by decide⟩

/-- The fourth count in the band, in STARTING, in a relock and in a relock commanded back. -/
theorem witness_LocksTaken :
    let s := fun (r : RunState) (status : ChangeStatus) (code : CommandCode) =>
      (((stateIn r).setDrive ⟨.relock, 0, 4, 206, 0, some 1000, 3, 0, 0, some 200000, true, 4⟩).setTick 1000).setLog busyLog
        |>.setRun { (stateIn r).run with
          changeStatus := status, command := .accepted, running := some ⟨some code, 4, 0, 0, false⟩ }
    (∀ r status code, (s r status code).config = some cfg ∧ (s r status code).drive.windowClose = some 1000
      ∧ notEarlier (s r status code).tick 1000 = true ∧ (s r status code).drive.state.seeking = true
      ∧ (s r status code).drive.inBandRun = 3 ∧ (s r status code).output.set.state = .empty
      ∧ (s r status code).output.set.condition = .sound ∧ (s r status code).log.inFlight = some (0, busyRecord)
      ∧ ((busyRecord :: (s r status code).log.waiting).filter (fun r => r.body.disposition.isNone)).length < 32)
    ∧ InBand (encoderCountOf cfg cfg.speed[(4 : SpeedCode)]) cfg.lockTolerance 206
    ∧ ((s .starting .none .start).run.state = .starting
      ∧ (s .starting .none .start).run.running.map (fun k => k.code) = some (some .start))
    ∧ ((s .respeed .relocking .changeSpeed).run.state = .respeed
      ∧ (s .respeed .relocking .changeSpeed).run.changeStatus = .relocking)
    ∧ ((s .respeed .returning .cancelSpeedChange).run.changeStatus = .returning
      ∧ (s .respeed .returning .cancelSpeedChange).run.running.map (fun k => k.code) = some (some .cancelSpeedChange)) := by
  intro s
  unfold InBand
  exact ⟨fun _ _ _ => ⟨rfl, rfl, (by decide : notEarlier (1000 : Tick) 1000 = true), rfl, rfl, rfl, rfl, rfl,
    
    (by decide : ((busyRecord :: busyLog.waiting).filter (fun r => r.body.disposition.isNone)).length < 32)⟩, by decide, by decide, by decide, by decide⟩

/-- Runs one short of their limits, with counts of 0, 184 and 216; and a lock deadline due in each run state. -/
theorem witness_DriveFaults :
    (∀ n ∈ [0, 184, 216], ¬ InBand tm.encoderCount cfg.runTolerance n)
    ∧ (let s := ((lockedIn .draining).setDrive ⟨.locked, 4, 4, 0, 0, some 1000, 0, 2, 1, none, true, 4⟩).setTick 1000;
      s.config = some cfg ∧ s.drive.windowClose = some 1000 ∧ notEarlier s.tick 1000 = true ∧ s.drive.state = .locked
        ∧ s.tracker.timing = some tm ∧ s.run.state.runs = true ∧ s.drive.deviationRun ≤ 2 ∧ s.drive.zeroRun ≤ 1
        ∧ s.drive.count = 0 ∧ s.drive.zeroRun = 1 ∧ s.drive.deviationRun = 2 ∧ { s.drive with zeroRun := 0 }.zeroRun = 0
        ∧ { s.drive with count := 184 }.count ≠ 0)
    ∧ (let s := fun (r : RunState) (k : Option RunningCommand) =>
        ((stateIn r).setDrive ⟨.relock, 4, 7, 0, 0, some 300, 0, 0, 0, some 200, true, 7⟩).setTick 200
          |>.setRun { (stateIn r).run with running := k }
      (∀ r k, (s r k).drive.lockDeadline = some 200 ∧ notEarlier (s r k).tick 200 = true
          ∧ (s r k).output.set.state = .empty ∧ (s r k).output.set.condition = .sound ∧ (s r k).run.running = k
          ∧ (s r k).run.state = r)
        ∧ (∀ k : RunningCommand, (none : Option RunningCommand) = some k → k.code ≠ some .cancelSpeedChange)
        ∧ RunState.idle ≠ .starting ∧ RunState.idle ≠ .respeed)
    ∧ ((lockedIn .running).drive.state = .locked ∧ Drive.reset.state = .off) := by
  unfold InBand
  refine ⟨by decide, ⟨rfl, by decide, by decide, by decide, rfl, by decide, by decide, by decide, by decide, by decide,
    by decide, by decide, by decide⟩, ⟨fun r k => ⟨rfl, (by decide : notEarlier (200 : Tick) 200 = true), rfl, rfl, rfl, rfl⟩, fun k h => ?_,
    by decide, by decide⟩, by decide⟩
  cases h

/-- Slot 1 passes at 33,000 and not a tick before. -/
theorem witness_SlotPassing :
    (lockedIn .running).scheduler.grid = some (tm.grid 0)
    ∧ notEarlier 33000 ((tm.grid 0).t0 + BitVec.ofNat 32 ((tm.grid 0).current * (tm.grid 0).pitch)) = true
    ∧ notEarlier 32999 ((tm.grid 0).t0 + BitVec.ofNat 32 ((tm.grid 0).current * (tm.grid 0).pitch)) = false
    ∧ (tm.grid 0).ring.length = 32 := by decide

theorem witness_PicksMade :
    let s := ((lockedIn .running).putSheet 0 (some (sheetOf (entry 301 1) .scheduled))).putTimers 0
      { SheetTimers.none with pick := some 0 }
    ((s.timers 0).pick = some 0 ∧ notEarlier s.tick 0 = true
      ∧ s.sheet 0 = some (sheetOf (entry 301 1) .scheduled) ∧ (sheetOf (entry 301 1) .scheduled).state = .scheduled
      ∧ s.run.state = .running ∧ s.drive.state = .locked)
    ∧ (s.lines.trayEmpty[(entry 301 1).tray] = false ∧ s.tracker.timing = some tm)
    ∧ ((s.setLines { Lines.low with trayEmpty := #v[false, true, false, false] }).lines.trayEmpty[(entry 301 1).tray] = true
      ∧ s.output.broken = []) := by
  intro s
  refine ⟨⟨by decide, by decide, rfl, by decide, by decide, by decide⟩, ⟨by decide, rfl⟩, by decide⟩

/-- The dwell just over, one tick short of it, and a sheet still in the loop. -/
theorem witness_HoldReleases :
    let s := fun (x : SheetState) (a : Tick) => (((lockedIn .draining).putSheet 0
      (some (sheetOf (entry 301 1) x))).putTimers 0
        { SheetTimers.none with release := some 5000, arrival := some a, late := some 5000 }).setTick 5000
    (∀ x a, (s x a).config = some cfg ∧ (s x a).sheet 0 = some (sheetOf (entry 301 1) x)
      ∧ (s x a).run.state = .draining ∧ (s x a).drive.state = .locked ∧ (s x a).tracker.timing = some tm
      ∧ notEarlier (s x a).tick 5000 = true ∧ ((s x a).timers 0).release = some 5000
      ∧ ((s x a).timers 0).late = some 5000 ∧ ((s x a).timers 0).arrival = some a)
    ∧ (sheetOf (entry 301 1) .held).state = .held
    ∧ notEarlier 5000 ((3000 : Tick) + BitVec.ofNat 32 cfg.minimumDwell) = true
    ∧ notEarlier 5000 ((3001 : Tick) + BitVec.ofNat 32 cfg.minimumDwell) = false
    ∧ (sheetOf (entry 301 1) .looping).state = .looping := by
  intro s
  exact ⟨fun _ _ => ⟨rfl, rfl, rfl, rfl, rfl, (by decide : notEarlier (5000 : Tick) 5000 = true), rfl, rfl, rfl⟩, rfl,
    by decide, by decide, rfl⟩

/-- A window and a cover timer at their ticks and one before, of a sheet and of the set in flight, in a run, in STOPPING
and outside them. -/
theorem witness_LateAndStall :
    let e : Expectation := ⟨.set, 100, 200, 1000, 2000, true⟩
    let s := fun (r : RunState) (o : Occupant) (n : Tick) =>
      (withSet (withSensor (lockedIn r) .K1 true o [expected, e]) .ejecting).setTick n
    (∀ r o n, ((s r o n).sensor .K1) = ⟨true, o, 0, 1000, 2000, some 2000, [expected, e]⟩ ∧ (s r o n).run.state = r
      ∧ (s r o n).output.set.flies)
    ∧ (∀ f ∈ [expected, e], f ∈ [expected, e] ∧ f.armed = true ∧ notEarlier 200 f.closes = true
      ∧ notEarlier 199 f.closes = false)
    ∧ (expected.item = .sheet 0 ∧ e.item = .set ∧ Item.sheet 0 ≠ .set)
    ∧ (RunState.respeed.runs = true ∧ RunState.stopped.judgesSheets = false ∧ RunState.stopping.judgesSheets = true)
    ∧ (notEarlier 2000 (2000 : Tick) = true ∧ notEarlier 1999 (2000 : Tick) = false
      ∧ (Occupant.sheet 0).item = some (.sheet 0) ∧ Occupant.set.item = some .set) := by
  intro e s
  exact ⟨fun _ _ _ => ⟨rfl, rfl, .inl rfl⟩, by decide, by decide, by decide, by decide⟩

theorem witness_GraceExpires :
    let j : Jam := ⟨.stray, some .MG, none, false, 5, none, false⟩
    let s := (withSet (stateIn .stopping) .ejecting).setTick 90
      |>.setRun { (stateIn .stopping).run with jam := some j, graceDeadline := some 90 }
    s.run.state = .stopping ∧ s.run.graceDeadline = some 90 ∧ notEarlier s.tick 90 = true ∧ s.run.jam = some j
      ∧ s.output.set.flies := by
  unfold SetRecord.flies
  decide

/-- An access that a port presents: byte reads and writes at an address. -/
def reads (a : BitVec 28) : Access := readOf a .bytes1

theorem presents (s : State) (p : Port) (a : Access) (h : a.wf = true) (hs : s.junction.access p = none) :
    s.Presents p a := ⟨h, hs⟩

theorem byte_writes (a : BitVec 28) (v : Byte) : (writeOf a v).writes a.toNat v := by
  refine ⟨rfl, Nat.le_refl _, ?_⟩
  show [v][a.toNat - a.toNat]? = some v
  rw [Nat.sub_self]; rfl

/-- A one-byte write writes its own address alone. -/
theorem byte_writes_only (a : BitVec 28) (v w : Byte) (x : Nat) (h : (writeOf a v).writes x w) : x = a.toNat ∧ w = v := by
  obtain ⟨_, h1, h2⟩ := h
  have h1 : a.toNat ≤ x := h1
  have h2 : [v][x - a.toNat]? = some w := h2
  have h3 : x - a.toNat = 0 := by
    by_contra hn
    rw [List.getElem?_eq_none (by simp; omega)] at h2
    cases h2
  rw [h3] at h2
  have h4 : v = w := by simpa using h2
  exact ⟨by omega, h4.symm⟩

/-- The windows of the worked configuration. -/
def window (i : Fin 8) : Descriptor := cfg.descriptors[i]

theorem applies_of (p : Port) (a : Access) (i : Fin 8)
    (h : window i = window i ∧ ((window i).enabled = true ∧ (window i).base ≤ a.addr.toNat
      ∧ a.addr.toNat < (window i).base + 2 ^ (window i).sizeLog2 ∧ (window i).admits p a.write = true)
      ∧ ∀ j : Fin 8, j < i → ¬ ((window j).enabled = true ∧ (window j).base ≤ a.addr.toNat
        ∧ a.addr.toNat < (window j).base + 2 ^ (window j).sizeLog2 ∧ (window j).admits p a.write = true)) :
    cfg.Applies p a (window i) := ⟨i, h.1, h.2.1, h.2.2⟩

/-- Accesses of each kind: PASS-ALL, outside every window (the ACTIVATE word among them), in a PLAIN window at its ends,
a read of a buffer, an access no descriptor admits, and a port that is busy. -/
theorem witness_AccessesJudged :
    State.reset.Presents .E (reads 0) ∧ State.reset.config = none
    ∧ (stateIn .idle).Presents .E (writeOf 0xFFFFF04 1) ∧ (stateIn .idle).config = some cfg
    ∧ ¬ cfg.Contains (writeOf 0xFFFFF04 1)
    ∧ (writeOf 0xFFFFF04 1).writes 0xFFFFF04 1 ∧ (writeOf 0xFFFFF04 2).writes 0xFFFFF04 2
    ∧ (¬ (writeOf 0xFFFFF05 1).writes 0xFFFFF04 1 ∧ ¬ (writeOf 0xFFFFF05 1).writes 0xFFFFF04 2)
    ∧ (cfg.Applies .P (writeOf 0x0100000 1) (window 0) ∧ cfg.Applies .P (writeOf 0x010FFFF 1) (window 0)
      ∧ (window 0).kind = some .plain)
    ∧ (cfg.Applies .E (reads 0x7FFFFFF) (window 3) ∧ (window 3).kind ≠ some .view)
    ∧ (cfg.Contains (writeOf 0x0200000 1) ∧ ∀ d, ¬ cfg.Applies .P (writeOf 0x0200000 1) d)
    ∧ ((reads 0).wf = true
      ∧ ((stateIn .idle).setJunction { Junction.reset with accessP := some ⟨reads 0, [], []⟩ }).junction.access .P
        ≠ none) := by
  refine ⟨presents _ _ _ (by decide) rfl, rfl, presents _ _ _ (by decide) rfl, rfl, ?_, byte_writes _ _, byte_writes _ _,
    ⟨fun h => ?_, fun h => ?_⟩, ⟨applies_of _ _ 0 (by decide), applies_of _ _ 0 (by decide), by decide⟩,
    ⟨applies_of _ _ 3 (by decide), by decide⟩, ⟨?_, ?_⟩, by decide⟩
  · unfold Configuration.Contains; decide
  · exact absurd (byte_writes_only _ _ _ _ h).1 (by decide)
  · exact absurd (byte_writes_only _ _ _ _ h).1 (by decide)
  · unfold Configuration.Contains; decide
  · rintro d ⟨i, rfl, hf, -⟩
    revert i
    decide

/-- Guarded windows: PENDING and TAKEN slots at both ends of the plan ring, tag slots and buffers that are FILLING and
not, and the log's consumer word and the byte after it. -/
theorem witness_GuardedWrites :
    (cfg.Applies .E (writeOf 0x0200000 1) (window 1) ∧ (window 1).kind = some .plan
      ∧ cfg.Applies .P (writeOf 0x0202000 1) (window 2) ∧ (window 2).kind = some .tag
      ∧ cfg.Applies .P (writeOf 0x4000000 1) (window 3) ∧ (window 3).kind = some .buffer
      ∧ cfg.Applies .E (writeOf 0x0210003 1) (window 4) ∧ (window 4).kind = some .log)
    ∧ (let s := (stateIn .idle).setPlan ⟨[.pending, .taken, .free], [], 0, none⟩;
      s.junction.guardOn = true ∧ s.plan.slots[0]? = some .pending ∧ s.plan.slots[1]? = some .taken
        ∧ s.plan.slots[2]? ≠ some .pending ∧ s.plan.slots[2]? ≠ some .taken)
    ∧ ((31 : Fin 256).val < cfg.planSlots ∧ ¬ 32 < cfg.planSlots
      ∧ (writeOf 0x02003FC 1).writes ((window 1).base + 32 * 31 + 28) 1
      ∧ ¬ (writeOf 0x02003FD 1).writes ((window 1).base + 32 * 31 + 28) 1)
    ∧ (let s := (stateIn .idle).putBuffer 63 ⟨.filling, none, 0, false, false⟩;
      s.Open cfg 63 ∧ ¬ s.Open cfg 0 ∧ ¬ s.Open cfg 64
        ∧ (writeOf 0x02023FC 1).touchesTag (window 2).base 63
        ∧ (writeOf 0x02023FC 1).writes ((window 2).base + 16 * 63 + 12) 1)
    ∧ (let a : Access := ⟨true, 0x0210000, .bytes8, List.replicate 8 0⟩
      (window 4).base + 4 < a.addr.toNat + a.size.bytes
        ∧ ¬ (window 4).base + 4 < (writeOf 0x0210003 1).addr.toNat + (writeOf 0x0210003 1).size.bytes
        ∧ (writeOf 0x0210003 1).writes 0x0210003 1)
    ∧ (∀ x v, (window 4).base ≤ x → x < (window 4).base + 4 → ¬ (writeOf 0x0210004 1).writes x v) := by
  refine ⟨⟨applies_of _ _ 1 (by decide), by decide, applies_of _ _ 2 (by decide), by decide, applies_of _ _ 3 (by decide),
    by decide, applies_of _ _ 4 (by decide), by decide⟩, by decide, ⟨by decide, by decide, byte_writes _ _, fun h => ?_⟩,
    ⟨⟨63, by decide⟩, ?_, ?_, .inl (by decide), byte_writes _ _⟩, ⟨by decide, by decide, byte_writes _ _⟩,
    fun x v h1 h2 h => ?_⟩
  · exact absurd (byte_writes_only _ _ _ _ h).1 (by decide)
  · unfold State.Open; decide
  · rintro ⟨n, hn, _⟩; exact absurd n.isLt (by omega)
  · have h3 := (byte_writes_only _ _ _ _ h).1
    have h4 : (window 4).base = 0x0210000 := by decide
    have h5 : (0x0210004 : BitVec 28).toNat = 0x0210004 := by decide
    omega

/-- Bytes 11, 12, 19, 20 and 28 of the command block; the view's ABANDON cell and a burst. -/
theorem witness_CommandAndViewWrites :
    (cfg.Applies .E (writeOf 0x022000B 1) (window 5) ∧ (window 5).kind = some .command
      ∧ cfg.Applies .P (writeOf 0x0230008 63) (window 6) ∧ (window 6).kind = some .view)
    ∧ (let kept := fun (a : Access) => a.cells.filter (fun x => decide (x.1 < (window 5).base + 12)
        || decide ((window 5).base + 20 ≤ x.1))
      kept (writeOf 0x022000B 1) ≠ [] ∧ kept (writeOf 0x022000C 1) = [] ∧ kept (writeOf 0x0220013 1) = []
        ∧ kept (writeOf 0x0220014 1) ≠ [] ∧ kept (writeOf 0x022001C 1) ≠ [])
    ∧ (∃ x v, (window 5).base + 28 ≤ x ∧ x < (window 5).base + 32 ∧ (writeOf 0x022001C 1).writes x v ∧ v ≠ 0)
    ∧ (¬ ∃ x v, (window 5).base + 28 ≤ x ∧ x < (window 5).base + 32 ∧ (writeOf 0x022001C 0).writes x v ∧ v ≠ 0)
    ∧ ((writeOf 0x0230008 63).size ≠ .burst ∧ (writeOf 0x0230008 63).writes ((window 6).base + 8) 63)
    ∧ (∀ v, ¬ (writeOf 0x0230009 63).writes ((window 6).base + 8) v)
    ∧ (((63 : Byte) = BitVec.ofNat 8 (63 : BufferNo).val ∧ (63 : BufferNo).val < cfg.bufferCount)
      ∧ (((stateIn .idle).putBuffer 63 ⟨.filling, none, 0, false, false⟩).buffer 63).state = .filling)
    ∧ (∀ b : BufferNo, (64 : Byte) = BitVec.ofNat 8 b.val → b.val < cfg.bufferCount →
        ((stateIn .idle).buffer b).state ≠ .filling)
    ∧ (let a : Access := ⟨false, 0x0230000, .burst, []⟩
      (stateIn .idle).Presents .E a ∧ cfg.Applies .E a (window 6) ∧ a.size = .burst) := by
  refine ⟨⟨applies_of _ _ 5 (by decide), by decide, applies_of _ _ 6 (by decide), by decide⟩, by decide,
    ⟨0x022001C, 1, by decide, by decide, byte_writes _ _, by decide⟩, ?_, ⟨by decide, byte_writes _ _⟩, fun v h => ?_,
    by decide, by decide, ⟨presents _ _ _ (by decide) rfl, applies_of _ _ 6 (by decide), rfl⟩⟩
  · rintro ⟨x, v, _, _, h, hv⟩
    exact hv (byte_writes_only _ _ _ _ h).2
  · exact absurd (byte_writes_only _ _ _ _ h).1 (by decide)

/-- A write in progress that carries no event, one, and, as a burst, the commits of two tag slots; and a read. -/
theorem witness_AccessCompletes :
    let s := fun (f : InFlight) => (stateIn .idle).setJunction { Junction.reset with holder := some .P, accessP := some f }
    let keep := fun (_ : Nat) => true
    let pair : Access := ⟨true, 0x202000, .burst, List.replicate 32 1⟩;
    (∀ f ∈ [(⟨writeOf 0x100 7, [(0x100, 7)], []⟩ : InFlight), ⟨writeOf 0x22001C 1, [(0x22001C, 1)], [.code]⟩,
        ⟨pair, pair.cells, [.tagCommit 0, .tagCommit 1]⟩, ⟨readOf 0x100 .burst, [], []⟩],
      Memory.wf (s f).memory = true ∧ (s f).junction.holder = some Port.P.requester
        ∧ (s f).junction.access .P = some f ∧ f.access.wf = true
        ∧ f.bytes = f.access.cells.filter (fun x => keep x.1) ∧ (s f).run.state ≠ .inactive
        ∧ (s f).junction.agentQueue = [])
    ∧ (0 : BufferNo) ≠ 1 := by decide +kernel

/-- Two requesters that wait for the free port, in each mode: P and the agent with the rotation at the agent and at E, E
and the agent in FIXED; the port held; and nobody waiting. -/
theorem witness_AccessCompletes_grant :
    let f : InFlight := ⟨readOf 0 .bytes1, [], []⟩
    let pa : Junction := { Junction.reset with accessP := some f, agentQueue := [.planFetch 0] }
    let ea : Junction := { Junction.reset with accessE := some f, agentQueue := [.planFetch 0] };
    (pa.holder = none ∧ pa.arbiter = .rotating ∧ pa.rotation = .E ∧ pa.accessE = none ∧ pa.accessP ≠ none
      ∧ pa.agentQueue ≠ [])
    ∧ (let j := { pa with rotation := .agent };
      j.arbiter = .rotating ∧ j.rotation = .agent ∧ j.accessP ≠ none ∧ j.agentQueue ≠ [])
    ∧ (let j := { ea with arbiter := .fixed }; j.holder = none ∧ j.arbiter = .fixed ∧ j.accessE ≠ none
      ∧ j.agentQueue ≠ [])
    ∧ { ea with holder := some .agent }.holder ≠ none
    ∧ (Junction.reset.accessE = none ∧ Junction.reset.accessP = none ∧ Junction.reset.agentQueue = []) := by decide

/-- R178: of P and the agent, ROTATING from E grants P and starts anew at the agent; FIXED grants the agent before E. -/
theorem test_grant :
    let f : InFlight := ⟨readOf 0 .bytes1, [], []⟩
    (let j := { Junction.reset with accessP := some f, agentQueue := [.planFetch 0] }.grant;
      j.holder = some .P ∧ j.rotation = .agent)
    ∧ (let j := { Junction.reset with arbiter := .fixed, accessE := some f, agentQueue := [.planFetch 0] }.grant;
      j.holder = some .agent ∧ j.rotation = .E) := by decide

/-- R168, R171: the pending list counts the record in flight, so that an event record is discarded behind 31 more. -/
theorem test_pending_list :
    let full := { busyLog with waiting := List.replicate 31 busyRecord };
    busyLog.pendingList.length = 1 ∧ full.pendingList.length = 32
      ∧ (((stateIn .running).setLog full).record (.speedSet 0 1)).log = { full with overrun := true } := by decide

theorem view_read (s : State) (p : Port) (a : Access) (o : Nat) (hs : s.config = some cfg) (hw : a.wf = true)
    (hp : s.junction.access p = none) (h : a.write = false ∧ a.size ≠ .burst ∧ a.addr.toNat ≤ 0x0230000 + o
      ∧ 0x0230000 + o < a.addr.toNat + a.size.bytes) (ha : cfg.Applies p a (window 6)) :
    ViewRead s cfg (window 6) p a o :=
  ⟨hs, ⟨hw, hp⟩, h.1, h.2.1, ha, by decide, by decide, h.2.2⟩

/-- Reads that show the CLAIM cell, the two summaries and the capture's second word, the last byte of each read
included, by its own port and by the other, and a read that shows none of them; buffers all in use, 16 open, 15 open. -/
theorem witness_ViewReads :
    ViewRead (stateIn .idle) cfg (window 6) .P (readOf 0x0230004 .bytes1) 4
    ∧ ViewRead (stateIn .idle) cfg (window 6) .E (readOf 0x0230000 .bytes8) 4
    ∧ ViewRead (stateIn .idle) cfg (window 6) .E (readOf 0x0230008 .bytes8) 0x0C
    ∧ ViewRead (stateIn .idle) cfg (window 6) .P (readOf 0x0230010 .bytes1) 0x10
    ∧ ViewRead (stateIn .idle) cfg (window 6) .E (readOf 0x0230018 .bytes4) 0x18
    ∧ ViewRead (stateIn .idle) cfg (window 6) .P (readOf 0x0230008 .bytes8) 0x0C
    ∧ ViewRead (stateIn .idle) cfg (window 6) .E (readOf 0x0230010 .bytes1) 0x10
    ∧ (ViewRead (stateIn .idle) cfg (window 6) .P (readOf 0x0230080 .bytes8) 0x87
      ∧ ∀ o ∈ [4, 0x0C, 0x10, 0x18], ¬ (readOf 0x0230080 .bytes8).shows (window 6).base o)
    ∧ (let table := fun (n : Nat) => ((stateIn .idle).setBuffers
        ⟨Vector.ofFn (fun b : BufferNo => if b.val < n then ⟨.filling, none, 0, false, false⟩ else Buffer.free), false⟩)
      (let openCount := fun (s : State) =>
        (s.buffers.table.toList.filter (fun x => x.state == .filling || x.state == .closing)).length
      openCount (table 16) = 16 ∧ openCount (table 15) = 15 ∧ openCount (table 0) = 0)
        ∧ ((16 : BufferNo).val < cfg.bufferCount ∧ ((table 16).buffer 16).state = .free)
        ∧ (∀ k : BufferNo, k < 15 → ¬ (k.val < cfg.bufferCount ∧ ((table 15).buffer k).state = .free))
        ∧ (∀ b : BufferNo, ¬ (b.val < cfg.bufferCount ∧ ((table 64).buffer b).state = .free)))
    ∧ ((stateIn .idle).junction.latch = none
      ∧ ((stateIn .idle).setJunction { Junction.reset with latch := some ⟨0, .E, true, .viewBurst, false⟩ }).junction.latch
        = some ⟨0, .E, true, .viewBurst, false⟩) := by
  have shown : ∀ p a o, (a.wf = true ∧ a.write = false ∧ a.size ≠ .burst ∧ a.addr.toNat ≤ 0x0230000 + o
      ∧ 0x0230000 + o < a.addr.toNat + a.size.bytes) → cfg.Applies p a (window 6) →
      ViewRead (stateIn .idle) cfg (window 6) p a o :=
    fun p a o h ha => view_read _ _ _ _ rfl h.1 (by cases p <;> rfl) h.2 ha
  refine ⟨shown _ _ _ (by decide) (applies_of _ _ 6 (by decide)),
    shown _ _ _ (by decide) (applies_of _ _ 6 (by decide)),
    shown _ _ _ (by decide) (applies_of _ _ 6 (by decide)),
    shown _ _ _ (by decide) (applies_of _ _ 6 (by decide)),
    shown _ _ _ (by decide) (applies_of _ _ 6 (by decide)),
    shown _ _ _ (by decide) (applies_of _ _ 6 (by decide)),
    shown _ _ _ (by decide) (applies_of _ _ 6 (by decide)),
    ⟨shown _ _ _ (by decide) (applies_of _ _ 6 (by decide)), by unfold Access.shows; decide⟩,
    ⟨by decide +kernel, by decide +kernel, by decide +kernel, by decide +kernel⟩, by decide⟩

/-- Fields of the view at both ends of the window, and what fills them: a live sheet, a broken copy, a set with one member,
the set's place, and the ring with the grid and without. -/
theorem witness_ViewFields :
    ViewRead (stateIn .idle) cfg (window 6) .E (readOf 0x0230000 .bytes1) (0 + 0)
    ∧ ViewRead (stateIn .idle) cfg (window 6) .P (readOf 0x0230FF8 .bytes8) (0xFC0 + 63)
    ∧ (((lockedIn .running).putSheet 15 (some (sheetOf (entry 301 1) .held))).sheet 15
        = some (sheetOf (entry 301 1) .held))
    ∧ (sheetOf (entry 301 1) .scheduled).leg = none
    ∧ (∀ l ∈ [(0 : Leg), 17], { sheetOf (entry 301 1) .held with leg := some (.leg l) }.leg = some (.leg l))
    ∧ ((setIn .collecting).members[0]? = some ⟨301, 6001, 1, none, none, 0, 0, false⟩
      ∧ (setIn .collecting).members[23]? = none)
    ∧ (let o := { OutputUnit.reset with broken := [⟨(entry 301 1).copy, .set, true⟩] }
      o.broken[0]? = some ⟨(entry 301 1).copy, .set, true⟩ ∧ o.broken[31]? = none)
    ∧ (let e : Expectation := ⟨.set, 100, 200, 1000, 2000, true⟩
      [expected, e].find? (fun e => e.item == .set) = some e ∧ [expected].find? (fun e => e.item == .set) = none)
    ∧ ((stateIn .idle).scheduler.grid = none ∧ (lockedIn .running).scheduler.grid = some (tm.grid 0)
      ∧ (tm.grid 0).ring[31]? = some .free) := by
  refine ⟨view_read _ _ _ _ rfl (by decide) rfl (by decide) (applies_of _ _ 6 (by decide)),
    view_read _ _ _ _ rfl (by decide) rfl (by decide) (applies_of _ _ 6 (by decide)), rfl, by decide, by decide,
    by decide, by decide⟩

theorem witness_EventsTaken :
    ((stateIn .inactive).run.state = .inactive ∧ (stateIn .idle).run.state ≠ .inactive)
    ∧ (let s := (stateIn .idle).setPlan ⟨[.free, .taken], [], 0, none⟩;
      s.plan.slots[(0 : Fin 256).val]? = some .free ∧ s.plan.slots[(1 : Fin 256).val]? ≠ some .free
        ∧ s.plan.slots[(255 : Fin 256).val]? ≠ some .free)
    ∧ (((stateIn .idle).putBuffer 63 ⟨.filling, none, 0, false, false⟩).buffer 63).state = .filling
    ∧ (((stateIn .idle).buffer 0).state ≠ .filling ∧ (stateIn .idle).junction.agentQueue = [])
    ∧ (let j := fun (holder : Option Requester) (x : TagAnswer) =>
        { Junction.reset with holder := holder, agentQueue := [.planFetch 0, .tagWrite 0 x] }
      ∀ x ∈ [TagAnswer.refusedState, .refusedFormat], .tagWrite 0 x ∈ (j (some .agent) x).agentQueue.tail
        ∧ .tagWrite 0 x ∈ (j none x).agentQueue ∧ (j none x).holder ≠ some .agent)
    ∧ ((stateIn .idle).run.command = .idle ∧ { (stateIn .idle).run with command := CommandState.done }.command = .done)
    ∧ ((commanded (stateIn .idle) 0 0).run.command = .accepted
      ∧ (commanded (stateIn .idle) 0 0).run.running = some ⟨none, 0, 0, 0, false⟩) := by
  decide

/-- Distances 0, 1, the used count, one more, and against an empty ring; a byte write merged with the consumer index; a
disposition that waits and a record under way. -/
theorem witness_ConsumerWrites :
    let s := (stateIn .idle).setLog { busyLog with producer := 4, consumer := 2, waiting := [busyRecord] };
    (s.run.state ≠ .inactive ∧ s.log.inFlight.isSome = true ∧ s.log.waiting = [busyRecord])
    ∧ (∀ n : Fin 4, (3 : Word).extractLsb' (8 * n.val) 8
        = if (1 : BitVec 4).getLsbD n.val then (0xFF03 : Word).extractLsb' (8 * n.val) 8
          else s.log.consumer.extractLsb' (8 * n.val) 8)
    ∧ ((2 - s.log.consumer).toInt ≤ 0 ∧ (1 - s.log.consumer).toInt ≤ 0)
    ∧ (0 < (3 - s.log.consumer).toInt ∧ (4 - s.log.consumer).toInt ≤ ((s.log.producer - s.log.consumer).toNat : Int))
    ∧ (((s.log.producer - s.log.consumer).toNat : Int) < (5 - s.log.consumer).toInt ∧ s.log.producer ≠ s.log.consumer)
    ∧ (0 < ((1 : Word) - (stateIn .idle).log.consumer).toInt
      ∧ (stateIn .idle).log.producer = (stateIn .idle).log.consumer) := by decide

/-- A record's fields laid out from its fourteenth byte on; the commit word is left out. -/
def planRecord (sequence statement k n tray media sides front back : Byte) : List Host.Cell :=
  [(0x200000, sequence), (0x200004, statement), (0x200008, k), (0x20000A, n), (0x20000C, tray), (0x20000D, media),
    (0x20000E, sides), (0x200010, front), (0x200011, back)].filter (fun c => c.2 != 0)

/-- A fetch of slot 0 finding a record, with buffer 63 HELD for sheet 1's front. -/
def fetching (m : List Host.Cell) (tail : Option Tail) : State :=
  (((withAgent (stateIn .idle) (.planFetch 0)).setMemory m).setPlan ⟨[.pending], [], 4, tail⟩).putBuffer 63
    ⟨.held, some ⟨7, 1, .front⟩, 254, false, false⟩

/-- The record that the fetch of slot 0 finds in a state. -/
def fetched (s : State) : PlanRecord := readPlanRecord s.memory (planSlotAddress cfg 0)

/-- A record of sequence 5 that fails no check, one for each code that fails it and none before it, and a full and an
empty queue. -/
theorem witness_PlanFetchJudged :
    let good := fetching (planRecord 5 7 1 3 4 3 1 63 255) none;
    (good.config = some cfg ∧ good.inProgress = some (.planFetch 0) ∧ Memory.wf good.memory = true)
    ∧ good.planRefusal (fetched good) = none
    ∧ (∀ d : PlanRefusal, ¬ good.Fails cfg (fetched good) d)
    ∧ (let fails := fun (m : List Host.Cell) (tail : Option Tail) (e : PlanRefusal) =>
        (fetching m tail).Fails cfg (fetched (fetching m tail)) e
          ∧ ∀ d : PlanRefusal, d.code < e.code → ¬ (fetching m tail).Fails cfg (fetched (fetching m tail)) d
      fails (planRecord 4 7 1 3 4 3 1 63 255) none .sequence
        ∧ fails (planRecord 5 7 1 3 5 3 1 63 255) none .field
        ∧ fails (planRecord 5 7 1 3 4 3 1 63 0) none .sides
        ∧ fails (planRecord 5 7 1 3 4 3 1 64 255) none .buffer
        ∧ fails (planRecord 5 8 1 3 4 3 1 63 255) none .identity
        ∧ fails (planRecord 5 7 1 3 4 3 1 63 255) (some ⟨7, 1, 3, 4⟩) .continuity)
    ∧ good.plan.queue = [] ∧ (queued.plan.queue ≠ []) := by
  refine ⟨by decide, by decide, ?_, ⟨?_, ?_, ?_, ?_, ?_, ?_⟩, by decide, by decide⟩
  · intro d
    cases d <;> first
      | (unfold State.Fails; decide)
      | (show ¬ ((fetched _).k ≠ 1); decide)
  all_goals
    refine ⟨by first | (unfold State.Fails; decide) | exact .inl (by decide), ?_⟩
    intro d hd
    cases d <;> first
      | (exfalso; revert hd; decide)
      | (unfold State.Fails; decide)

/-- A tag record's bytes in buffer 63's slot. -/
def tagRecord (statement sheetLow sheetHigh side persistent : Byte) : State :=
  (withAgent (stateIn .idle) (.tagFetch 63)).setMemory
    ([(0x2023F0, statement), (0x2023F4, sheetLow), (0x2023F5, sheetHigh), (0x2023F6, side),
      (0x2023F7, persistent)].filter (fun c => c.2 != 0))

/-- Sheet 1 front, sheet 1023 back, ANY, and sheet 1024; 16 buffers open with a claim waiting. -/
theorem witness_TagFetchJudged :
    let r := fun (s : State) => readTagRecord s.memory (tagSlotAddress cfg 63)
    let sided := fun (x : TagRecord) => x.persistent = false ∧ x.statement ≠ 0 ∧ 1 ≤ x.sheet ∧ x.sheet ≤ 1023
    let any := fun (x : TagRecord) => x.persistent = true ∧ x.statement = 0 ∧ x.sheet = 0 ∧ x.side = 3;
    ((tagRecord 7 1 0 1 0).config = some cfg ∧ (tagRecord 7 1 0 1 0).inProgress = some (.tagFetch 63))
    ∧ (sided (r (tagRecord 7 1 0 1 0)) ∧ (r (tagRecord 7 1 0 1 0)).side = 1)
    ∧ (sided (r (tagRecord 7 255 3 2 0)) ∧ (r (tagRecord 7 255 3 2 0)).side = 2)
    ∧ any (r (tagRecord 0 0 0 3 1))
    ∧ (¬ any (r (tagRecord 7 0 4 2 0)) ∧ ¬ sided (r (tagRecord 7 0 4 2 0)))
    ∧ (let s := (stateIn .idle).setBuffers ⟨Vector.ofFn (fun b : BufferNo =>
        if 48 ≤ b.val then ⟨.filling, none, 0, false, false⟩ else Buffer.free), true⟩;
      (s.buffers.table.toList.filter (fun x => x.state == .filling || x.state == .closing)).length = 16
        ∧ s.buffers.claimWaiting = true) := by
  refine ⟨by decide, by decide, by decide, by decide, by decide, by decide +kernel, rfl⟩

theorem witness_AgentWrites :
    let s := stateIn .running;
    s.config = some cfg ∧ Memory.wf s.memory = true
      ∧ (withAgent s (.planWrite 31 .released)).inProgress = some (.planWrite 31 .released)
      ∧ (withAgent s (.planWrite 0 .taken)).inProgress = some (.planWrite 0 .taken)
      ∧ (withAgent s (.planWrite 0 (.refused .continuity))).inProgress = some (.planWrite 0 (.refused .continuity))
      ∧ (withAgent s (.tagWrite 63 .refusedFormat)).inProgress = some (.tagWrite 63 .refusedFormat)
      ∧ (withAgent s (.commandFinish 1)).inProgress = some (.commandFinish 1)
      ∧ (withAgent s .commandAbandon).inProgress = some .commandAbandon := by decide

theorem only_window (i : Fin 8) (k : WindowKind) (h : (window i).enabled = true ∧ (window i).kind = some k)
    (hu : ∀ j : Fin 8, (window j).enabled = true → (window j).kind = some k → j = i) : cfg.OnlyWindow k (window i) := by
  refine ⟨by simp [window], h.1, h.2, fun x hx h1 h2 => ?_⟩
  obtain ⟨j, hj, rfl⟩ := List.mem_iff_getElem.1 hx
  have e : cfg.descriptors.toList[j] = window ⟨j, by simpa using hj⟩ := by simp [window]
  rw [e] at h1 h2 ⊢
  rw [hu _ h1 h2]

/-- The one window of each kind that holds structures, and the code words at the ends of both ranges. -/
theorem witness_AgentWrites_addresses :
    (cfg.OnlyWindow .plan (window 1) ∧ cfg.OnlyWindow .tag (window 2) ∧ cfg.OnlyWindow .log (window 4)
      ∧ cfg.OnlyWindow .command (window 5))
    ∧ ((1 : Word).toNat = 1 ∧ (14 : Word).toNat = 14)
    ∧ ((0 : Word).toNat = 0 ∧ (15 : Word).toNat = 15) :=
  ⟨⟨only_window 1 _ (by decide) (by decide), only_window 2 _ (by decide) (by decide),
    only_window 4 _ (by decide) (by decide), only_window 5 _ (by decide) (by decide)⟩,
    by decide, by decide⟩

/-- A write at the last position of the ring, in each run state; and the last STRANDED record of a CLEAR, with nothing
waiting and the set EMPTY. -/
theorem witness_LogRecordWrites :
    let r : LogRecord := ⟨5, .stranded ⟨301, 6001, 1, 0⟩ (some .MG)⟩
    let s := fun (x : RunState) => withAgent (stateIn x) (.logWrite 63 r);
    (∀ x, (s x).config = some cfg ∧ Memory.wf (s x).memory = true ∧ (s x).inProgress = some (.logWrite 63 r))
    ∧ (let t := (commanded (stateIn .clearing) 8 0).setRun
        { (commanded (stateIn .clearing) 8 0).run with outstanding := 1 }
      t.run.state = .clearing ∧ t.run.outstanding - (if r.body.isStranded then 1 else 0) = 0
        ∧ t.run.clearanceMark = false ∧ t.output.set.state = .empty ∧ t.log.waiting = []) := by
  intro r s
  exact ⟨fun _ => ⟨rfl, rfl, rfl⟩, by decide⟩

theorem quiet_state (r : RunState) : (stateIn r).Quiet := by
  refine ⟨fun x h => ?_, rfl, ?_, rfl, ?_, rfl, rfl⟩
  · cases h
  · intro h; revert h; show ∀ h, State.reset.sheet h = none; decide
  · intro b; revert b; show ∀ b, (State.reset.buffer b).state = .free; decide

/-- The anchor in and out of use, INACTIVE, quiet IDLE, and IDLE that a queue entry keeps from being quiet. -/
theorem witness_AnchorEvents :
    ((stateIn .idle).setJunction { Junction.reset with anchorFlag := true }).junction.anchorFlag = true
    ∧ ((stateIn .inactive).junction.anchorFlag = false ∧ (stateIn .inactive).run.state = .inactive)
    ∧ ((stateIn .idle).run.state = .idle ∧ (stateIn .idle).Quiet ∧ (stateIn .idle).junction.agentQueue = [])
    ∧ ((queued.setRun (stateIn .idle).run).run.state ≠ .inactive ∧ ¬ (queued.setRun (stateIn .idle).run).Quiet)
    ∧ (Memory.wf (stateIn .idle).memory = true
      ∧ (withAgent (stateIn .idle) (.anchorRun true)).inProgress = some (.anchorRun true)
      ∧ (withAgent (stateIn .idle) (.anchorResult 2)).inProgress = some (.anchorResult 2)) := by
  refine ⟨by decide, by decide, ⟨rfl, quiet_state _, rfl⟩, ⟨by decide, fun h => ?_⟩, by decide⟩
  exact absurd h.2.1 (by decide)

/-- A configuration record's bytes in memory, read back as the worked configuration. -/
def configMemory : List Host.Cell :=
  let half := fun n => toBytes 2 n
  let window := fun (base : Nat) (kind size rights : Byte) => toBytes 4 base ++ [1, kind, size, rights]
  layOut 0x300000
    (window 0x0100000 0 16 15 ++ window 0x0200000 1 13 7 ++ window 0x0202000 2 12 15 ++ window 0x4000000 3 26 15
      ++ window 0x0210000 4 16 7 ++ window 0x0220000 5 12 7 ++ window 0x0230000 6 12 15 ++ List.replicate 8 0
      ++ [0, 64, 20, 12] ++ half 32 ++ half 64
      ++ (cfg.legs.toList.flatMap (fun l => half l.length ++ half l.factor))
      ++ cfg.pickDelay.toList.flatMap half ++ [8, 13, 13, 20] ++ half 300 ++ half 500 ++ half 500
      ++ cfg.mediaLength.toList.flatMap half ++ half 3300 ++ half 250 ++ cfg.speed.toList.flatMap half
      ++ [8, 20] ++ toBytes 4 200000 ++ half 2000 ++ half 20000)

/-- R193: the record of the worked configuration reads back as it. -/
theorem test_configuration_read : readConfiguration (configMemory.filter (fun c => c.2 != 0)) 0x300000 = cfg := by
  decide +kernel

/-- Format 1 at the highest address that leaves room, formats and addresses that fail, and what the checks find. -/
theorem witness_ConfigurationJudged :
    (withAgent State.reset (.configRead false 1 0x300000)).inProgress = some (.configRead false 1 0x300000)
    ∧ ((1 : Word) = 1 ∧ (0x300000 : Word).toNat % 32 = 0 ∧ (0xFFFFD00 : Word).toNat + 512 ≤ 0xFFFFF00)
    ∧ (¬ ((2 : Word) = 1) ∧ ¬ (0x300001 : Word).toNat % 32 = 0 ∧ ¬ (0xFFFFD20 : Word).toNat + 512 ≤ 0xFFFFF00)
    ∧ cfg.refusal 1 = none
    ∧ (∃ w, { cfg with planSlots := 0 }.refusal 1 = some w)
    ∧ ((stateIn .idle).run.state = .idle ∧ (stateIn .idle).Quiet
      ∧ (withAgent (stateIn .idle) (.configRead true 1 0x300000)).junction.agentQueue.length ≤ 1)
    ∧ ¬ queued.Quiet := by
  refine ⟨by decide, by decide, by decide, by decide, ⟨_, rfl⟩, ⟨rfl, quiet_state _, by decide⟩, fun h => ?_⟩
  exact absurd h.2.1 (by decide)

/-- The worked configuration with one descriptor another. -/
def withWindow (i : Fin 8) (d : Descriptor) : Configuration := { cfg with descriptors := cfg.descriptors.set i d }

/-- A descriptor's window holds an address, as the statement has it. -/
def inside (c : Configuration) (i : Fin 8) (a : Nat) : Prop :=
  c.descriptors[i].base ≤ a ∧ a < c.descriptors[i].base + 2 ^ c.descriptors[i].sizeLog2

/-- Two windows that share an address have neither ended where the other begins. -/
theorem apart (c : Configuration) (i j : Fin 8)
    (h : c.descriptors[i].base + 2 ^ c.descriptors[i].sizeLog2 ≤ c.descriptors[j].base
      ∨ c.descriptors[j].base + 2 ^ c.descriptors[j].sizeLog2 ≤ c.descriptors[i].base) :
    ¬ ∃ a, inside c i a ∧ inside c j a := by
  rintro ⟨a, ⟨h1, h2⟩, h3, h4⟩
  omega

/-- The conditions on descriptors, as the statement has them: of the worked configuration none fails; a window of size
11, one that leaves the address space, one that begins within another, and one that reaches the anchor each do. -/
theorem witness_ConfigurationWindows :
    let wrong := fun (c : Configuration) (i : Fin 8) => c.descriptors[i].enabled = true
      ∧ (c.descriptors[i].kind = none ∨ c.descriptors[i].sizeLog2 < 12 ∨ 28 < c.descriptors[i].sizeLog2
        ∨ c.descriptors[i].base % 2 ^ c.descriptors[i].sizeLog2 ≠ 0 ∨ ∃ a, inside c i a ∧ 0xFFFFFFF < a)
    let special := fun (c : Configuration) (i : Fin 8) =>
      c.descriptors[i].enabled = true ∧ c.descriptors[i].kind ≠ some .plain
    let meets := fun (c : Configuration) (i : Fin 8) => ∃ j, i < j ∧ c.descriptors[i].enabled = true
      ∧ c.descriptors[j].enabled = true ∧ (special c i ∨ special c j) ∧ ∃ a, inside c i a ∧ inside c j a
    let anchored := fun (c : Configuration) => ∃ i a, special c i ∧ inside c i a ∧ 0xFFFFF00 ≤ a
    let within := withWindow 2 ⟨0x0201000, true, some .tag, 12, true, true, true, true⟩
    let atAnchor := withWindow 6 ⟨0xFFFF000, true, some .view, 12, true, true, true, true⟩
    ((∀ i, ¬ wrong cfg i) ∧ (∀ i, ¬ meets cfg i) ∧ ¬ anchored cfg)
    ∧ wrong (withWindow 0 ⟨0x0100000, true, some .plain, 11, true, true, true, true⟩) 0
    ∧ wrong (withWindow 7 ⟨0x10000000, true, some .plain, 12, true, true, true, true⟩) 7
    ∧ ((∀ i, ¬ wrong within i) ∧ meets within 1 ∧ (∀ j, j < 1 → ¬ meets within j))
    ∧ ((∀ i, ¬ wrong atAnchor i) ∧ (∀ i, ¬ meets atAnchor i) ∧ anchored atAnchor) := by
  intro wrong special meets anchored within atAnchor
  have right : ∀ c ∈ [cfg, within, atAnchor], ∀ i, ¬ wrong c i := by
    rintro c hc i ⟨he, h⟩
    have h1 : ∀ c ∈ [cfg, within, atAnchor], ∀ i : Fin 8, c.descriptors[i].enabled = true →
        ¬ (c.descriptors[i].kind = none ∨ c.descriptors[i].sizeLog2 < 12 ∨ 28 < c.descriptors[i].sizeLog2
          ∨ c.descriptors[i].base % 2 ^ c.descriptors[i].sizeLog2 ≠ 0)
        ∧ c.descriptors[i].base + 2 ^ c.descriptors[i].sizeLog2 ≤ 0x10000000 := by decide
    obtain ⟨h2, h3⟩ := h1 c hc i he
    obtain h | h | h | h | ⟨a, ⟨_, ha⟩, h⟩ := h
    · exact h2 (.inl h)
    · exact h2 (.inr (.inl h))
    · exact h2 (.inr (.inr (.inl h)))
    · exact h2 (.inr (.inr (.inr h)))
    · omega
  have clear : ∀ c ∈ [cfg, atAnchor], ∀ i, ¬ meets c i := by
    have h1 : ∀ c ∈ [cfg, atAnchor], ∀ i j : Fin 8, i < j → c.descriptors[i].enabled = true →
        c.descriptors[j].enabled = true →
        c.descriptors[i].base + 2 ^ c.descriptors[i].sizeLog2 ≤ c.descriptors[j].base
          ∨ c.descriptors[j].base + 2 ^ c.descriptors[j].sizeLog2 ≤ c.descriptors[i].base := by decide
    rintro c hc i ⟨j, hij, hi, hj, _, h⟩
    exact apart c i j (h1 c hc i j hij hi hj) h
  refine ⟨⟨right _ (by simp), clear _ (by simp), ?_⟩, ⟨by decide, .inr (.inl (by decide))⟩,
    ⟨by decide, .inr (.inr (.inr (.inr ⟨0x10000000, ⟨by decide, by decide⟩, by decide⟩)))⟩,
    ⟨right _ (by simp), ⟨2, by decide, by decide, by decide, .inl (by decide), 0x0201000, ⟨by decide, by decide⟩,
      by decide, by decide⟩, ?_⟩,
    right _ (by simp), clear _ (by simp), 6, 0xFFFFF00, by decide, ⟨by decide, by decide⟩, by decide⟩
  · have h1 : ∀ i : Fin 8, cfg.descriptors[i].base + 2 ^ cfg.descriptors[i].sizeLog2 ≤ 0xFFFFF00 := by decide
    rintro ⟨i, a, hs, ⟨_, ha⟩, h⟩
    have := h1 i
    omega
  · have h1 : ∀ i : Fin 8, i < 1 → ∀ j : Fin 8, i < j → within.descriptors[j].enabled = true →
        within.descriptors[i].base + 2 ^ within.descriptors[i].sizeLog2 ≤ within.descriptors[j].base
          ∨ within.descriptors[j].base + 2 ^ within.descriptors[j].sizeLog2 ≤ within.descriptors[i].base := by decide
    rintro i h0 ⟨j, hij, hi, hj, _, h⟩
    exact apart within i j (h1 i h0 j hij hj) h

/-- The conditions on values: no PLAN window; pitch and tolerances, at a bound and beyond it; and speeds of which code 0
has no room between its sheets. -/
theorem witness_ConfigurationValues :
    let counts := fun (c : Configuration) => [WindowKind.plan, .tag, .buffer, .log, .command, .view, .plain].map (fun k =>
      (c.descriptors.toList.filter (fun d => d.enabled && d.kind == some k)).length)
    let timed := fun (c : Configuration) (code : SpeedCode) =>
      (∀ m : MediaClass, c.mediaLength[m] + c.minimumGap ≤ c.pitchLength)
        ∧ 1 ≤ (timingSet c code).loopPitches ∧ (timingSet c code).loopPitches ≤ 24
        ∧ 2 ≤ (timingSet c code).setGap ∧ (timingSet c code).setGap ≤ 8
        ∧ 8 ≤ c.speed[code] * c.encoderPerMm / 100
    (counts cfg = [1, 1, 1, 1, 1, 1, 1]
      ∧ counts (withWindow 1 ⟨0, false, some .plan, 0, false, false, false, false⟩) = [0, 1, 1, 1, 1, 1, 1])
    ∧ (cfg.refusal 0 = none ∧ ¬ 8 ≤ { cfg with planSlots := 7 }.planSlots
      ∧ { cfg with planSlots := 7 }.refusal 0 = some 8)
    ∧ ((∀ code, timed cfg code) ∧ ¬ timed { cfg with pitchLength := 3219 } 0
      ∧ { cfg with pitchLength := 3219 }.refusal 0 = some 9) := by decide

/-- The command that a read of the block finds, as the statements name it. -/
theorem command_read (s : State) (code operand : Byte) (c : Option CommandCode)
    (hs : s.config = some cfg) (h : CommandCode.ofWord (Memory.word (commanded s code operand).memory 0x22001C) = c) :
    CommandRead (commanded s code operand) cfg c ⟨none, 0, 0, 0, false⟩ :=
  ⟨hs, rfl, rfl, h⟩

/-- Every code, 0 and 15 with no command. -/
theorem witness_commands_read :
    CommandRead (commanded (stateIn .idle) 0 0) cfg none ⟨none, 0, 0, 0, false⟩
    ∧ CommandRead (commanded (stateIn .idle) 15 0) cfg none ⟨none, 0, 0, 0, false⟩
    ∧ CommandRead (commanded (stateIn .idle) 1 7) cfg (some .start) ⟨none, 0, 0, 0, false⟩
    ∧ CommandRead (commanded (stateIn .running) 2 0) cfg (some .stop) ⟨none, 0, 0, 0, false⟩
    ∧ CommandRead (commanded (stateIn .idle) 3 0) cfg (some .pauseFeed) ⟨none, 0, 0, 0, false⟩
    ∧ CommandRead (commanded (stateIn .idle) 4 0) cfg (some .resumeFeed) ⟨none, 0, 0, 0, false⟩
    ∧ CommandRead (commanded (stateIn .running) 5 7) cfg (some .changeSpeed) ⟨none, 0, 0, 0, false⟩
    ∧ CommandRead (commanded (stateIn .draining) 6 0) cfg (some .cancelSpeedChange) ⟨none, 0, 0, 0, false⟩
    ∧ CommandRead (commanded (stateIn .respeed) 7 0) cfg (some .halt) ⟨none, 0, 0, 0, false⟩
    ∧ CommandRead (commanded (stateIn .stopped) 8 0) cfg (some .clear) ⟨none, 0, 0, 0, false⟩
    ∧ CommandRead (commanded (stateIn .idle) 9 2) cfg (some .withdraw) ⟨none, 0, 0, 0, false⟩
    ∧ CommandRead (commanded (stateIn .idle) 10 63) cfg (some .releaseBuffer) ⟨none, 0, 0, 0, false⟩
    ∧ CommandRead (commanded (stateIn .idle) 11 63) cfg (some .reclaimBuffer) ⟨none, 0, 0, 0, false⟩
    ∧ CommandRead (commanded (stateIn .idle) 12 0) cfg (some .guardOn) ⟨none, 0, 0, 0, false⟩
    ∧ CommandRead (commanded (stateIn .idle) 13 0) cfg (some .guardOff) ⟨none, 0, 0, 0, false⟩
    ∧ CommandRead (commanded (stateIn .idle) 14 1) cfg (some .selectStacker) ⟨none, 0, 0, 0, false⟩ := by
  refine ⟨?_, ?_, ?_, ?_, ?_, ?_, ?_, ?_, ?_, ?_, ?_, ?_, ?_, ?_, ?_, ?_⟩ <;>
    exact command_read _ _ _ _ rfl (by decide)

/-- No sensor is covered at reset. -/
theorem clear_path (x : Sensor) : (State.reset.sensor x).covered = false := by
  cases x <;> rfl

/-- The operand of a command, and the states it is answered from: each boundary of the operands' ranges. -/
theorem witness_CommandAnswers :
    (Memory.wf (commanded (stateIn .idle) 1 8).memory = true ∧ (stateIn .idle).run.state ≠ .inactive)
    ∧ (let s := withAgent (commanded (stateIn .stopping) 1 4) (.commandOp true);
      s.config = some cfg ∧ Memory.wf s.memory = true ∧ s.inProgress = some (.commandOp true))
    ∧ (8 ≤ (operand1 (commanded (stateIn .idle) 1 8) cfg).toNat ∧ (operand1 (commanded (stateIn .idle) 1 7) cfg).toNat < 8)
    ∧ ((stateIn .idle).run.state = .idle ∧ (stateIn .stopped).run.state ≠ .idle)
    ∧ ({ Junction.reset with guardOn := false }.guardOn = false ∧ (stateIn .idle).junction.guardOn = true)
    ∧ ({ (stateIn .idle).run with clearanceMark := true }.clearanceMark = true
      ∧ (stateIn .idle).run.clearanceMark = false)
    ∧ (¬ ((∀ x, ((withSensor (stateIn .idle) .PB true .untracked []).sensor x).covered = false)
        ∧ (stateIn .idle).lines.coverOpen = false)
      ∧ (∀ x, ((stateIn .idle).sensor x).covered = false))
    ∧ ((stateIn .clearing).run.state ≠ .running ∧ (stateIn .clearing).run.state ≠ .draining)
    ∧ ({ FeedHolds.empty with operator := true }.operator = true ∧ FeedHolds.empty.operator = false)
    ∧ (operand1 (commanded (lockedIn .running) 5 4) cfg).toNat = (lockedIn .running).drive.current.val
    ∧ (let may := fun (s : State) =>
        s.run.state = .stopped ∨ ((s.run.state = .clearing ∨ s.run.state = .idle) ∧ s.run.clearanceMark = true);
      may (stateIn .stopped) ∧ ¬ may (stateIn .idle) ∧ ¬ may (stateIn .clearing))
    ∧ (operand1 (commanded (stateIn .idle) 9 0) cfg = 0 ∧ operand1 (commanded queued 9 255) cfg ≠ 0
      ∧ ∀ e ∈ ((stateIn .idle).setPlan { PlanIntake.reset with queue := [entry 254 1] }).plan.queue,
          e.sequence < (operand1 (commanded (stateIn .idle) 9 255) cfg).toNat)
    ∧ (∀ b : BufferNo, b.val = (operand1 (commanded (stateIn .idle) 10 64) cfg).toNat → cfg.bufferCount ≤ b.val)
    ∧ ((63 : BufferNo).val = (operand1 (commanded (stateIn .idle) 10 63) cfg).toNat
      ∧ (63 : BufferNo).val < cfg.bufferCount)
    ∧ (operand1 (commanded (stateIn .idle) 14 3) cfg ≠ 1 ∧ operand1 (commanded (stateIn .idle) 14 3) cfg ≠ 2) := by
  refine ⟨by decide, by decide, by decide, by decide, by decide, by decide, ⟨fun h => ?_, clear_path⟩, by decide,
    by decide, by decide, by decide, by decide, by decide, by decide, by decide⟩
  exact absurd (h.1 .PB) (by decide)

/-- START, STOP with and without a sheet past SCHEDULED, STOP of a drain, and HALT: their states. -/
theorem witness_RunCommands :
    (let s := commanded (stateIn .idle) 1 7;
      Memory.wf s.memory = true ∧ s.run.state = .idle ∧ (operand1 s cfg).toNat < 8 ∧ s.junction.guardOn = true
        ∧ s.run.clearanceMark = false ∧ (∀ x, (s.sensor x).covered = false) ∧ s.lines.coverOpen = false)
    ∧ (let s := commanded (lockedIn .running) 2 0;
      Memory.wf s.memory = true ∧ s.run.state = .running ∧ s.output.set.state = .empty
        ∧ s.output.set.condition = .sound ∧ s.output.broken = [] ∧ ¬ s.inPath)
    ∧ ((commanded (lockedIn .running) 2 0).putSheet 0 (some (sheetOf (entry 301 1) .feeding))).inPath
    ∧ (let s := (commanded ((lockedIn .draining).setRun { (lockedIn .draining).run with drainTarget := some 0 }) 2 0
        ).putSheet 0 (some (sheetOf (entry 301 1) .exiting))
      s.run.state = .draining ∧ s.run.drainTarget = some 0 ∧ ∃ h sh, s.sheet h = some sh)
    ∧ ((commanded (lockedIn .draining) 2 0).run.state = .draining
      ∧ (commanded (lockedIn .draining) 2 0).run.drainTarget = none)
    ∧ ((commanded (stateIn .respeed) 7 0).run.state = .respeed ∧ (commanded (stateIn .stopping) 7 0).run.state = .stopping) := by
  refine ⟨⟨by decide, by decide, by decide, by decide, by decide, clear_path, by decide⟩,
    ⟨by decide, by decide, by decide, by decide, by decide, ?_⟩, ⟨0, _, rfl, by decide⟩,
    ⟨by decide, by decide, 0, _, rfl⟩, by decide, by decide⟩
  rintro ⟨h, sh, h1, _⟩
  have h2 : ∀ j, (commanded (lockedIn .running) 2 0).sheet j = none := by decide
  rw [h2 h] at h1
  cases h1

theorem witness_FeedAndSpeed :
    ((commanded (stateIn .idle) 3 0).run.holds.operator = false ∧ Memory.wf (commanded (stateIn .idle) 3 0).memory = true)
    ∧ (commanded ((stateIn .idle).setRun { (stateIn .idle).run with holds := { FeedHolds.empty with operator := true } })
        4 0).run.holds.operator = true
    ∧ (let s := commanded (lockedIn .running) 5 7;
      s.run.state = .running ∧ (operand1 s cfg).toNat = (7 : SpeedCode).val ∧ (7 : SpeedCode) ≠ s.drive.current
        ∧ s.output.set.state = .empty ∧ s.output.set.condition = .sound ∧ s.output.broken = [])
    ∧ (let run := fun (r : RunState) (x : ChangeStatus) => { (stateIn r).run with changeStatus := x };
      (run .draining .draining).state = .draining ∧ (run .draining .draining).changeStatus = .draining
        ∧ (run .respeed .relocking).state = .respeed ∧ (run .respeed .relocking).changeStatus = .relocking
        ∧ (run .respeed .returning).changeStatus ≠ .draining ∧ (run .respeed .returning).changeStatus ≠ .relocking) := by
  decide

/-- A stopped path with a stranded sheet and one with none, CLEARING with the set-clearance mark, and a copy whose
sheets another's divide. -/
theorem witness_ClearCarriedOut :
    let s := commanded (stateIn .stopped) 8 0
    let gone := fun (s : State) => (List.finRange 16).filterMap (fun h =>
      ((s.sheet h).filter (fun sh => sh.state == .stranded)).map (fun sh => (h, sh)))
    (Memory.wf s.memory = true ∧ s.run.state = .stopped ∧ (∀ x, (s.sensor x).covered = false) ∧ s.lines.coverOpen = false)
    ∧ (gone s = [] ∧ gone (s.putSheet 15 (some (sheetOf (entry 301 1) .stranded)))
        = [(15, sheetOf (entry 301 1) .stranded)])
    ∧ firstOfEach [((⟨1, 1⟩ : Copy), OutputMode.set), (⟨2, 2⟩, .set), (⟨1, 1⟩, .set)]
        = [(⟨1, 1⟩, .set), (⟨2, 2⟩, .set)]
    ∧ (let u := commanded ((stateIn .clearing).setRun { (stateIn .clearing).run with clearanceMark := true }) 8 0;
      u.run.state = .clearing ∧ u.run.clearanceMark = true)
    ∧ (∀ x ∈ [SetCondition.sound, .disturbed, .scattered], { setIn .collecting with condition := x }.condition = x) := by
  intro s gone
  exact ⟨⟨by decide, by decide, clear_path, by decide⟩, by decide, by decide, by decide, by decide⟩

/-- A queue cut within a copy, and one from which a whole copy goes. -/
theorem witness_WithdrawEffect :
    let s := fun (n : Byte) => ((commanded (stateIn .idle) 9 n).setPlan
      { PlanIntake.reset with queue := [entry 1 1, entry 2 2, entry 3 3] })
    Memory.wf (s 2).memory = true
    ∧ ((operand1 (s 2) cfg).toNat ≠ 0 ∧ (s 2).plan.queue.filter (fun e => decide ((operand1 (s 2) cfg).toNat ≤ e.sequence))
        = entry 2 2 :: [entry 3 3] ∧ 1 < (entry 2 2).k)
    ∧ ((operand1 (s 1) cfg).toNat ≠ 0 ∧ (s 1).plan.queue.filter (fun e => decide ((operand1 (s 1) cfg).toNat ≤ e.sequence))
        = entry 1 1 :: [entry 2 2, entry 3 3] ∧ (entry 1 1).k ≤ 1) := by decide

theorem witness_BufferGuardStacker :
    let s := fun (code operand : Byte) (x : Buffer) => (commanded (stateIn .idle) code operand).putBuffer 63 x;
    (Memory.wf (s 10 63 Buffer.free).memory = true
      ∧ (operand1 (s 10 63 Buffer.free) cfg).toNat = (63 : BufferNo).val ∧ (63 : BufferNo).val < cfg.bufferCount)
    ∧ (let x : Buffer := ⟨.held, some ⟨7, 1, .front⟩, 0, false, false⟩
      ((s 10 63 x).buffer 63).state = .held ∧ ((s 10 63 x).buffer 63).count = 0)
    ∧ ((s 11 63 ⟨.filling, none, 0, false, false⟩).buffer 63).state = .filling
    ∧ ({ Junction.reset with guardOn := false }.guardOn = false ∧ (stateIn .idle).junction.guardOn = true)
    ∧ (operand1 (s 14 1 Buffer.free) cfg = 1 ∧ operand1 (s 14 2 Buffer.free) cfg = 2) := by decide

end Sys2Proof.Tests
end

/-! The travel arithmetic of chapter 1: what the rounded quotients, the travel of a stretch and the figures of a timing
set are, each said once, and the statements O15 to O19 from them. -/

namespace Sys2Proof.Proofs.Travel
open Sys2Proof Sys2Proof.Machine

/-! ## Rounded quotients (R7, R15, R16) -/

/-- The quotient rounded up is the least multiplier of the divisor that reaches the dividend. -/
theorem ceilDiv_le_iff {a b n : Nat} (hb : 0 < b) : ceilDiv a b ≤ n ↔ a ≤ n * b := by
  rw [ceilDiv, ← Nat.ceilDiv_eq_add_pred_div, ceilDiv_le_iff_le_mul hb, Nat.mul_comm]

theorem le_nominal_iff {length speed factor n : Nat} (h : 0 < speed * factor) :
    n ≤ nominal length speed factor ↔ n * (speed * factor) ≤ length * 2560000 + speed * factor / 2 :=
  Nat.le_div_iff_mul_le h

theorem nominal_lt_iff {length speed factor n : Nat} (h : 0 < speed * factor) :
    nominal length speed factor < n ↔ length * 2560000 + speed * factor / 2 < n * (speed * factor) :=
  Nat.div_lt_iff_lt_mul h

/-- The nominal travel is within half a tick of the exact quotient, a half rounded up (R7). -/
theorem nominal_rounds {length speed factor : Nat} (h : 0 < speed * factor) :
    2 * nominal length speed factor * (speed * factor) ≤ 2 * (length * 2560000) + speed * factor
      ∧ 2 * (length * 2560000) < (2 * nominal length speed factor + 1) * (speed * factor) := by
  have low := (le_nominal_iff h).1 (le_refl (nominal length speed factor))
  have high := (nominal_lt_iff h).1 (Nat.lt_succ_self (nominal length speed factor))
  rw [Nat.succ_mul] at high
  rw [Nat.mul_assoc, Nat.add_mul, Nat.mul_assoc, Nat.one_mul]
  omega

theorem nominal_bounds {length speed factor : Nat} (l1 : 100 ≤ length) (l2 : length ≤ 40000) (s1 : 200 ≤ speed)
    (s2 : speed ≤ 2000) (f1 : 128 ≤ factor) (f2 : factor ≤ 512) :
    length * 2560000 + speed * factor / 2 ≤ 102400512000
      ∧ 250 ≤ nominal length speed factor ∧ nominal length speed factor ≤ 4000000 := by
  have low : 200 * 128 ≤ speed * factor := Nat.mul_le_mul s1 f1
  have high : speed * factor ≤ 2000 * 512 := Nat.mul_le_mul s2 f2
  have pos : 0 < speed * factor := by omega
  refine ⟨by omega, (le_nominal_iff pos).2 (by omega), Nat.lt_succ_iff.1 ((nominal_lt_iff pos).2 (by omega))⟩

/-! ## The figures of a timing set (1.9) -/

section
variable (c : Configuration) (code : SpeedCode)

theorem timingSet_legs (l : Leg) : (timingSet c code).legs[l] = legTime c c.speed[code] l := tabulate_get _ _

theorem timingSet_lead (t : Tray) : (timingSet c code).lead[t] = leadOf c c.speed[code] t := tabulate_get _ _

theorem timingSet_cover (m : MediaClass) (l : Leg) :
    (timingSet c code).cover[m][l] = coverLimits c c.speed[code] c.mediaLength[m] c.legs[l].factor := by
  simp only [timingSet, tabulate_get]

theorem time_pick (t : Tray) : (timingSet c code).time (.pick t) = withMargins c c.pickDelay[t] := tabulate_get _ _

theorem time_leg (l : Leg) : (timingSet c code).time (.leg l) = legTime c c.speed[code] l := timingSet_legs c code l

theorem coverAt_pick (m : MediaClass) (t : Tray) :
    (timingSet c code).coverAt m (.pick t) = coverLimits c c.speed[code] c.mediaLength[m] 256 := tabulate_get _ _

theorem coverAt_leg (m : MediaClass) (l : Leg) :
    (timingSet c code).coverAt m (.leg l) = coverLimits c c.speed[code] c.mediaLength[m] c.legs[l].factor :=
  timingSet_cover c code m l

/-- The margins of every stretch are those of its own nominal (R8). -/
theorem time_eq_withMargins (x : Stretch) :
    (timingSet c code).time x = withMargins c ((timingSet c code).time x).nominal := by
  cases x with
  | pick t => rw [time_pick]; rfl
  | leg l => rw [time_leg]; rfl

end

/-! ## Figures in range (R6) -/

theorem within_iff {lo hi x : Nat} : within lo hi x = true ↔ lo ≤ x ∧ x ≤ hi := by
  simp only [within, Bool.and_eq_true, decide_eq_true_eq]

/-- A check of every entry of a table holds of each entry. -/
theorem of_toList_all {α : Type} {n : Nat} {v : Vector α n} {p : α → Bool} (h : v.toList.all p = true) (i : Fin n) :
    p v[i] = true :=
  List.all_eq_true.1 h _ (Vector.mem_toList_iff.2 (Vector.getElem_mem i.isLt))

/-- What the geometry check says of the figures a travel is computed from. -/
theorem geometryInRange_travel {c : Configuration} (h : c.geometryInRange = true) :
    (∀ l : Leg, (100 ≤ c.legs[l].length ∧ c.legs[l].length ≤ 40000)
        ∧ 128 ≤ c.legs[l].factor ∧ c.legs[l].factor ≤ 512)
      ∧ (∀ t : Tray, 500 ≤ c.pickDelay[t] ∧ c.pickDelay[t] ≤ 20000)
      ∧ (∀ code : SpeedCode, 200 ≤ c.speed[code] ∧ c.speed[code] ≤ 2000) := by
  simp only [Configuration.geometryInRange, Bool.and_eq_true, and_assoc] at h
  obtain ⟨legs, picks, -, -, -, -, -, -, -, -, -, speeds, -⟩ := h
  refine ⟨fun l => ?_, fun t => within_iff.1 (of_toList_all picks t), fun k => within_iff.1 (of_toList_all speeds k)⟩
  simpa only [Bool.and_eq_true, within_iff] using of_toList_all legs l

/-- What the geometry check says of the figures a margin is computed from. -/
theorem geometryInRange_margins {c : Configuration} (h : c.geometryInRange = true) :
    c.earlyRatio ≤ 64 ∧ c.lateRatio ≤ 64 ∧ c.earlyFixed ≤ 10000 ∧ c.lateFixed ≤ 10000 := by
  simp only [Configuration.geometryInRange, Bool.and_eq_true, within_iff] at h
  omega

/-- No stretch of a configuration in range takes longer than the slowest leg at the slowest speed (R7). -/
theorem time_nominal_le {c : Configuration} (h : c.geometryInRange = true) (code : SpeedCode) (x : Stretch) :
    ((timingSet c code).time x).nominal ≤ 4000000 := by
  obtain ⟨legs, picks, speeds⟩ := geometryInRange_travel h
  cases x with
  | pick t =>
    rw [time_pick]
    exact (picks t).2.trans (by decide)
  | leg l =>
    obtain ⟨⟨l1, l2⟩, f1, f2⟩ := legs l
    obtain ⟨s1, s2⟩ := speeds code
    rw [time_leg]
    exact (nominal_bounds l1 l2 s1 s2 f1 f2).2.2

theorem margin_le {n ratio fixed : Nat} (hn : n ≤ 4000000) (hr : ratio ≤ 64) (hf : fixed ≤ 10000) :
    n * ratio / 256 + fixed ≤ 1010000 := by
  have := Nat.mul_le_mul hn hr
  omega

/-! ## The longest media class (R6) -/

theorem mediaLength_le_longest (c : Configuration) (m : MediaClass) :
    c.mediaLength[m] ≤ c.mediaLength[longestMedia c] := by
  obtain ⟨-, first, rest⟩ := longest_spec c [1, 2, 3] 0
  obtain rfl | hm : m = 0 ∨ m ∈ [(1 : MediaClass), 2, 3] := by revert m; decide
  · exact first
  · exact rest m hm

/-! ## What the scheduler takes from a timing set (R14 to R16) -/

theorem admissionTimers_release_of_duplex {x : PlanEntry} (hx : x.sides = .duplex) (g : Grid) (front : Nat) :
    (g.admissionTimers x front).release = some (g.releaseDue (front + g.loopPitches)) := by
  simp only [Grid.admissionTimers, hx]

theorem admittedSheet_backSlot_of_duplex {x : PlanEntry} (hx : x.sides = .duplex) (g : Grid) (front : Nat) :
    (admittedSheet g x front).backSlot = some (front + g.loopPitches) := by
  simp only [admittedSheet, hx]

/-- Sheet 1 of a SET statement keeps the set gap from the last final slot (R62). -/
theorem setGap_kept_of_orderFits {g : Grid} {b : Bounds} {x : PlanEntry} {front final : Nat} (hk : x.k = 1)
    (hm : x.mode = .set) (h : orderFits g (some b) x front final = true) : b.final + g.setGap ≤ final := by
  simp only [orderFits, hk, hm, beq_self_eq_true, Bool.true_and, Bool.and_eq_true, Bool.not_eq_true',
    decide_eq_false_iff_not, Nat.not_lt] at h
  exact h.2

/-- The loop sum from the entries of the timing set (R15). -/
theorem loopSum_eq (c : Configuration) (code : SpeedCode) :
    let t := timingSet c code
    loopSum c c.speed[code] = t.legs[legRgTr].late + t.legs[legTrFx].close + t.legs[legFxLi].close
      + t.cover[longestMedia c][legFxLi].max + t.legs[legLiLh].close + c.minimumDwell
      + t.legs[legLhMg].nominal + t.legs[legMgRg].nominal + t.legs[legRgTr].nominal := by
  simp only [timingSet_legs, timingSet_cover]
  rfl

/-- An eject total from the entries of the timing set (R16). -/
theorem ejectTotal_eq (c : Configuration) (code : SpeedCode) (l : Leg) :
    ejectTotal c c.speed[code] l
      = (timingSet c code).legs[l].close + (timingSet c code).cover[longestMedia c][l].max := by
  rw [timingSet_legs, timingSet_cover]
  rfl

/-- The set gap is one more than the fewest pitches that hold every eject total (R16). -/
theorem setGap_le_iff {c : Configuration} {code : SpeedCode} (hp : 0 < (timingSet c code).pitch) (n : Nat) :
    (timingSet c code).setGap ≤ 1 + n ↔
      ejectTotal c c.speed[code] legAcK1 ≤ n * (timingSet c code).pitch
        ∧ ejectTotal c c.speed[code] legAcK2 ≤ n * (timingSet c code).pitch
        ∧ ejectTotal c c.speed[code] legAcPb ≤ n * (timingSet c code).pitch := by
  rw [← Nat.max_le, ← Nat.max_le, ← ceilDiv_le_iff hp]
  exact Nat.add_le_add_iff_left

/-! ## The statements -/

/-- Settles O15: the rounding and the bounds are those of a rounded quotient; a timing set's entries are read off. -/
theorem nominalTravelRule : Obligations.NominalTravelRule := by
  refine ⟨fun length speed factor hs hf => ⟨rfl, nominal_rounds (Nat.mul_pos hs hf)⟩,
    fun _ _ _ l1 l2 s1 s2 f1 f2 => nominal_bounds l1 l2 s1 s2 f1 f2, by decide, by decide,
    fun c code => ⟨fun l => ?_, fun t => ?_, rfl, fun m => ⟨fun t => ?_, fun l => ?_⟩⟩, by decide, by decide, by decide⟩
  · rw [time_leg]; rfl
  · rw [time_pick]; rfl
  · exact coverAt_pick c code m t
  · exact coverAt_leg c code m l

/-- Settles O16: every stretch's entry is its own nominal with margins, and no nominal in range is above 4000000. -/
theorem marginsAndCloses : Obligations.MarginsAndCloses := by
  intro c code x t
  have margins : t = withMargins c t.nominal := time_eq_withMargins c code x
  have early : t.early = t.nominal * c.earlyRatio / 256 + c.earlyFixed := congrArg StretchTime.early margins
  have late : t.late = t.nominal * c.lateRatio / 256 + c.lateFixed := congrArg StretchTime.late margins
  have close : t.close = t.nominal + t.late := rfl
  refine ⟨early, late, close, fun range => ?_, fun _ => by omega, fun i limits reference => ⟨rfl, rfl⟩⟩
  have travel : t.nominal ≤ 4000000 := time_nominal_le range code x
  obtain ⟨earlyRatio, lateRatio, earlyFixed, lateFixed⟩ := geometryInRange_margins range
  have earlyBound := margin_le travel earlyRatio earlyFixed
  have lateBound := margin_le travel lateRatio lateFixed
  omega

/-- Settles O17: the leads are the sums R14 gives, and the scheduler subtracts them from the transfer times. -/
theorem leadsAndDues : Obligations.LeadsAndDues := by
  intro c code n t
  refine ⟨timingSet_lead c code 0, timingSet_lead c code 1, timingSet_lead c code 2, timingSet_lead c code 3, rfl,
    fun lock x front => ⟨rfl, fun duplex => ?_⟩⟩
  rw [admissionTimers_release_of_duplex duplex]
  rfl

/-- Settles O18: the loop pitches are the loop sum over the pitch rounded up, so the fewest that hold it. -/
theorem loopPitchesRule : Obligations.LoopPitchesRule := by
  intro c code hp t sum
  have hsum : loopSum c c.speed[code] = sum := loopSum_eq c code
  have fewest (n : Nat) : t.loopPitches ≤ n ↔ sum ≤ n * t.pitch := hsum ▸ ceilDiv_le_iff hp
  refine ⟨(fewest _).1 le_rfl, fun n => (fewest n).2, ?_, mediaLength_le_longest c,
    fun lock x front duplex => admittedSheet_backSlot_of_duplex duplex _ front⟩
  simp only [t, timingSet_legs]
  rfl

/-- Settles O19: the set gap is one more than the fewest pitches that hold every eject total, and the order check of
admission keeps it. -/
theorem setGapRule : Obligations.SetGapRule := by
  intro c code hp t total
  have positive : 1 ≤ t.setGap := Nat.le_add_right 1 _
  have fewest (n : Nat) : t.setGap ≤ 1 + n ↔
      total 15 ≤ n * t.pitch ∧ total 16 ≤ n * t.pitch ∧ total 17 ≤ n * t.pitch := by
    have totals (l : Leg) : ejectTotal c c.speed[code] l = total l := ejectTotal_eq c code l
    have least := setGap_le_iff hp n
    rwa [totals, totals, totals] at least
  exact ⟨(fewest _).1 (by omega), fun n k1 k2 pb => (fewest n).2 ⟨k1, k2, pb⟩, positive,
    fun lock b x front final hk hm h => setGap_kept_of_orderFits hk hm h⟩

end Sys2Proof.Proofs.Travel

/-! The invariants that every step keeps: what one command preserves, said once for each kind of operation, and the
statements O6 to O12 from it. -/

namespace Sys2Proof.Proofs.Invariants
open Sys2Proof Sys2Proof.Machine

/-! ## What one command preserves -/

/-- The holder of the M-port waits for it: what is left of the junction's invariant between two grants. -/
def HolderWaits (j : Junction) : Prop := ∀ r, j.holder = some r → j.waits r = true

/-- What an operation keeps of the invariants, before the grant that ends the step. -/
structure Preserved (s t : State) : Prop where
  attention : s.attention.Sound → t.attention.Sound
  drive : s.drive.Sound → t.drive.Sound
  buffers : s.buffers.Sound → t.buffers.Sound
  activation : s.ActivationSound → t.ActivationSound
  guarded : s.ActivationSound → s.GuardSound → t.GuardSound
  holder : HolderWaits s.junction → HolderWaits t.junction
  command : s.run.CommandSound → t.run.CommandSound

theorem Preserved.refl (s : State) : Preserved s s := ⟨id, id, id, id, fun _ => id, id, id⟩

theorem Preserved.trans {s t u : State} (h : Preserved s t) (k : Preserved t u) : Preserved s u :=
  ⟨k.attention ∘ h.attention, k.drive ∘ h.drive, k.buffers ∘ h.buffers, k.activation ∘ h.activation,
    fun a g => k.guarded (h.activation a) (h.guarded a g), k.holder ∘ h.holder, k.command ∘ h.command⟩

/-- What `Keeps` and the configuration say of every invariant but the holder's. -/
theorem Preserved.of_keeps_guard {s t : State} (h : Keeps s t) (config : t.config = s.config)
    (guard : t.junction.guardOn = s.junction.guardOn) (holder : HolderWaits s.junction → HolderWaits t.junction) :
    Preserved s t where
  attention := h.attention
  drive := h.drive
  buffers := h.buffers
  activation a := by rw [State.ActivationSound, config, h.inactive]; exact a
  guarded _ g off := h.atRest (g (guard ▸ off))
  holder := holder
  command := h.command

theorem waits_mono {j k : Junction} (hr : k.rest = j.rest) (hq : j.agentQueue <+: k.agentQueue) (r : Requester)
    (h : j.waits r = true) : k.waits r = true := by
  cases r with
  | E => exact (congrArg (fun x : Junction => x.accessE.isSome) hr).trans h
  | P => exact (congrArg (fun x : Junction => x.accessP.isSome) hr).trans h
  | agent =>
    obtain ⟨more, hq⟩ := hq
    cases hj : j.agentQueue with
    | nil => simp [Junction.waits, hj] at h
    | cons op ops => simp [Junction.waits, ← hq, hj]

theorem guardOn_of_rest {j k : Junction} (h : k.rest = j.rest) : k.guardOn = j.guardOn :=
  (congrArg Junction.guardOn h :)

theorem holder_of_rest {j k : Junction} (h : k.rest = j.rest) : k.holder = j.holder := (congrArg Junction.holder h :)

/-- An operation of `Keeps` that leaves the configuration and the junction apart from the agent's queue. -/
theorem Preserved.of_keeps {s t : State} (h : Keeps s t) (config : t.config = s.config := by simp)
    (rest : t.junction.rest = s.junction.rest := by simp) : Preserved s t :=
  .of_keeps_guard h config (guardOn_of_rest rest) fun hs r hr =>
    waits_mono rest h.queue r (hs r (holder_of_rest rest ▸ hr))

/-- A change of the junction alone that leaves the guard. -/
theorem preserved_setJunction (s : State) (j : Junction) (guard : j.guardOn = s.junction.guardOn)
    (holder : HolderWaits s.junction → HolderWaits j) : Preserved s (s.setJunction j) :=
  ⟨id, id, id, id, fun _ g off => g (guard ▸ off), holder, id⟩

theorem preserved_begin (s : State) : Preserved s s.begin := .of_keeps (State.begin_kept (.refl s))

theorem preserved_releasePort (s : State) : Preserved s s.releasePort :=
  preserved_setJunction s _ rfl fun _ _ h => nomatch h

theorem preserved_continueOp (s : State) (op : RecordOp) : Preserved s (s.continueOp op) :=
  preserved_setJunction s _ rfl fun hs r hr => by
    cases r with
    | E => exact hs .E hr
    | P => exact hs .P hr
    | agent => rfl

theorem preserved_setMemory (s : State) (m : List Host.Cell) : Preserved s (s.setMemory m) :=
  .of_keeps (State.setMemory_kept (.refl s) m)

theorem preserved_ask (s : State) (op : RecordOp) : Preserved s (s.ask op) := .of_keeps (State.ask_kept op (.refl s))

/-! ## The step and its grant -/

/-- The requesters that wait are the same after a grant. -/
theorem grant_waits (j : Junction) (r : Requester) : j.grant.waits r = j.waits r := by
  unfold Junction.grant
  repeat' split
  all_goals cases r <;> rfl

theorem grant_guardOn (j : Junction) : j.grant.guardOn = j.guardOn := by
  unfold Junction.grant
  repeat' split
  all_goals rfl

theorem mem_order (j : Junction) (r : Requester) : r ∈ j.order := by
  unfold Junction.order
  split
  · cases j.rotation <;> cases r <;> simp [Requester.cycle]
  · cases r <;> simp

/-- A grant leaves the port held exactly while someone waits, when its holder waited. -/
theorem grant_sound {j : Junction} (h : HolderWaits j) : j.grant.Sound := by
  unfold Junction.Sound
  simp only [grant_waits]
  cases hj : j.holder with
  | some r =>
    have same : j.grant = j := by simp [Junction.grant, hj]
    simp [same, hj, h r hj]
  | none =>
    cases hf : j.order.find? j.waits with
    | some r =>
      have held : j.grant.holder = some r := by simp [Junction.grant, hj, hf]
      simp only [held]
      exact List.find?_some hf
    | none =>
      have same : j.grant = j := by simp [Junction.grant, hj, hf]
      have idle (r : Requester) : j.waits r = false := by
        simpa using List.find?_eq_none.1 hf r (mem_order j r)
      simp [same, hj, idle]

theorem HolderWaits.of_sound {j : Junction} (h : j.Sound) : HolderWaits j := fun r hr => by
  unfold Junction.Sound at h
  rwa [hr] at h

/-- What one step keeps of the invariants. -/
structure StepKeeps (s t : State) : Prop where
  preserved : Preserved s t
  port : s.junction.Sound → t.junction.Sound

theorem StepKeeps.of_grant {s u : State} (h : Preserved s u) : StepKeeps s u.grant where
  preserved := h.trans (preserved_setJunction u _ (grant_guardOn _) fun hu => .of_sound (grant_sound hu))
  port hs := grant_sound (h.holder (.of_sound hs))

/-! ## Accesses and events -/

/-- An access is put in flight: its port waits, and every other requester waits as before. -/
theorem preserved_setAccess (s : State) (p : Port) (f : InFlight) (r : Option Response) :
    Preserved s (s.setJunction ((s.junction.setAccess p (some f)).setResponse p r)) :=
  preserved_setJunction s _ (by cases p <;> rfl) fun hs q hq => by
    cases p <;> cases q <;> first | rfl | exact hs _ hq

theorem preserved_respond (s : State) (p : Port) (okay : Bool) (data : List Byte) :
    Preserved s (s.respond p okay data) :=
  preserved_setJunction s _ (by cases p <;> rfl) fun hs q hq => by cases p <;> cases q <;> exact hs _ hq

theorem preserved_clearLatch (s : State) : Preserved s s.clearLatch :=
  preserved_setJunction s _ rfl fun hs q hq => by cases q <;> exact hs _ hq

theorem preserved_raiseE (s : State) (c : ECondition) : Preserved s (s.raiseE c) :=
  .of_keeps (State.raiseE_kept c (.refl s))

theorem preserved_raiseP (s : State) (c : PCondition) : Preserved s (s.raiseP c) :=
  .of_keeps (State.raiseP_kept c (.refl s))

theorem preserved_capture (s : State) (p : Port) (a : Access) (c : CaptureCause) : Preserved s (s.capture p a c) := by
  have latched : Preserved s (s.setJunction
      { s.junction with latch := latchAfter s.junction.latch ⟨a.addr, p, a.write, c, false⟩ }) :=
    preserved_setJunction s _ rfl fun hs q hq => by cases q <;> exact hs _ hq
  have raised := latched.trans (preserved_raiseE _ .capture)
  cases p with
  | E => exact raised
  | P => exact raised.trans (preserved_raiseP _ .capture)

theorem preserved_readCell (s : State) (p : Port) (v : ViewCell) : Preserved s (s.readCell p v) := by
  cases v with
  | claim => cases p with
    | E => exact .refl s
    | P => exact .of_keeps (State.claimBuffer_kept (.refl s)) (by simp [State.readCell]) (by simp [State.readCell])
  | eSummary => cases p with
    | E => exact .of_keeps (State.clearE_kept (.refl s)) rfl rfl
    | P => exact .refl s
  | pSummary => cases p with
    | E => exact .refl s
    | P => exact .of_keeps (State.clearP_kept (.refl s)) rfl rfl
  | capture => exact preserved_clearLatch s

theorem preserved_readCells (p : Port) (o n : Nat) (l : List ViewCell) (s : State) :
    Preserved s (s.readCells p o n l) := by
  induction l generalizing s with
  | nil => exact .refl s
  | cons v vs ih =>
    refine .trans ?_ (ih _)
    split
    · exact preserved_readCell s p v
    · exact .refl s

theorem preserved_takeAccess (s : State) (p : Port) (a : Access) : Preserved s (s.takeAccess p a) := by
  unfold State.takeAccess
  cases s.judge p a with
  | passes cells events => exact preserved_setAccess s p _ _
  | violates c => exact (preserved_capture s p a c).trans (preserved_respond _ _ _ _)
  | drops => exact preserved_respond _ _ _ _
  | views o => exact (preserved_readCells p o _ _ s).trans (preserved_respond _ _ _ _)
  | abandons n => exact .trans (.of_keeps (State.abandonBuffer_kept n (.refl s))) (preserved_respond _ _ _ _)

theorem preserved_takeAccessIf (s : State) (p : Port) (a : Access) (kind : Judgement → Bool) :
    Preserved s (s.takeAccessIf p a kind) := by
  unfold State.takeAccessIf
  split
  · exact preserved_takeAccess s p a
  · exact .refl s

theorem preserved_completeAccess (s : State) (p : Port) (f : InFlight) : Preserved s (s.completeAccess p f) :=
  (preserved_setMemory s _).trans
    (preserved_setJunction _ _ (by cases p <;> rfl) fun _ r hr => by cases hr)

theorem preserved_askAnchor (s : State) (op : RecordOp) : Preserved s (s.askAnchor op) :=
  .trans (preserved_setJunction s { s.junction with anchorFlag := true } rfl
    fun hs q hq => by cases q <;> exact hs _ hq) (preserved_ask _ op)

/-- A deactivation leaves every block at its POWER RESET values, and the port to its holder. -/
theorem preserved_deactivate (s : State) : Preserved s s.deactivate where
  attention _ := ⟨rfl, rfl⟩
  drive h := by
    obtain ⟨enable, -, window⟩ := h
    exact ⟨enable, (ite_self _).symm, window⟩
  buffers _ b := by
    show Buffer.Sound ((Vector.replicate 64 Buffer.free)[b])
    rw [Fin.getElem_fin, Vector.getElem_replicate]
    rfl
  activation _ := iff_of_true rfl rfl
  guarded _ _ off := nomatch off
  holder hs q hq := by cases q <;> exact hs _ hq
  command _ := iff_of_false (fun h => nomatch h) (fun h => nomatch h)

theorem preserved_takeAnchor (s : State) (v : ActivateValue) : Preserved s (s.takeAnchor v) := by
  have busy : Preserved s s.answerBusy := preserved_askAnchor s _
  unfold State.takeAnchor
  split
  · exact .refl s
  · split
    · exact preserved_askAnchor s _
    · split
      · exact preserved_askAnchor s _
      · exact busy
    · split
      · exact (preserved_deactivate s).trans (preserved_askAnchor _ _)
      · exact busy
    · exact busy

theorem Preserved.unless {s t : State} (p : Prop) [Decidable p] (h : Preserved s t) :
    Preserved s (if p then s else t) := by
  split
  · exact .refl s
  · exact h

theorem preserved_takeEvent (s : State) : (e : PortEvent) → Preserved s (s.takeEvent e)
  | .anchor v => preserved_takeAnchor s v
  | .commit _ => .unless _ (.of_keeps (State.takeCommit_kept _ (.refl s)))
  | .tagCommit b => .unless _ (.of_keeps (State.takeTagCommit_kept b (.refl s)))
  | .code => .unless _ (.of_keeps (State.takeCode_kept (.refl s)))
  | .consumer w m => .unless _ (.of_keeps (State.takeConsumer_kept w m (.refl s)))

theorem preserved_takeEvents (es : List PortEvent) (s : State) : Preserved s (s.takeEvents es) := by
  induction es generalizing s with
  | nil => exact .refl s
  | cons e es ih => exact (preserved_takeEvent s e).trans (ih _)

/-! ## The record agent -/

/-- How often two sides name a buffer (R28). -/
def namings (front back : Option BufferNo) (b : BufferNo) : Nat :=
  (if front = some b then 1 else 0) + (if back = some b then 1 else 0)

theorem buffer_putBuffer (s : State) (b k : BufferNo) (x : Buffer) :
    (s.putBuffer b x).buffer k = if b = k then x else s.buffer k := put_get _ _ _ _

theorem buffer_addReference (s : State) (o : Option BufferNo) (k : BufferNo) :
    (s.addReference o).buffer k = { s.buffer k with count := (s.buffer k).count + if o = some k then 1 else 0 } := by
  cases o with
  | none => rfl
  | some b =>
    simp only [State.addReference, buffer_putBuffer, Option.some.injEq]
    split
    · next h => rw [h]
    · rfl

/-- The references an accepted record adds (R31, R48). -/
theorem buffer_acceptRecord (s : State) (r : PlanRecord) (i : Nat) (b : BufferNo) :
    (s.acceptRecord r i).buffer b = { s.buffer b with
      count := (s.buffer b).count + namings (bufferField r.front) (bufferField r.back) b } := by
  show (((s.addReference (bufferField r.front)).addReference (bufferField r.back)).buffer b) = _
  simp only [buffer_addReference, namings, Nat.add_assoc]

/-- A record that fails no check passes the six of R24. -/
theorem passes_of_planRefusal {s : State} {r : PlanRecord} (h : s.planRefusal r = none) :
    sequencePasses s.plan r = true ∧ fieldsPass r = true ∧ sidesPass r = true
      ∧ (bufferPasses s r r.front = true ∧ bufferPasses s r r.back = true)
      ∧ (identityPasses s r r.front .front = true ∧ identityPasses s r r.back .back = true)
      ∧ continuityPasses s.plan r = true := by
  unfold State.planRefusal at h
  repeat' split at h
  all_goals simp_all

theorem bufferField_eq_some {n : Nat} {b : BufferNo} : bufferField n = some b ↔ n = b.val := by
  unfold bufferField
  split
  · simp [Fin.ext_iff]
  · simp only [reduceCtorEq, false_iff]
    omega

/-- A buffer field that passes check 4 and names a buffer finds it HELD, with room for the record's references. -/
theorem held_of_bufferPasses {s : State} {r : PlanRecord} {b : BufferNo} (h : bufferPasses s r b.val = true) :
    (s.buffer b).state = .held
      ∧ (s.buffer b).count + namings (bufferField r.front) (bufferField r.back) b ≤ 255 := by
  have named : isNamed b.val = true := by simp only [isNamed, bne_iff_ne]; omega
  have field : bufferField b.val = some b := bufferField_eq_some.2 rfl
  simp only [bufferPasses, named, field, Bool.not_true, Bool.false_or, Bool.and_eq_true, beq_iff_eq,
    PlanRecord.references] at h
  obtain ⟨⟨-, held⟩, room⟩ := h
  exact ⟨held, by simpa only [namings, bufferField_eq_some] using of_decide_eq_true room⟩

/-- The acceptance of a record keeps the form of the buffer table: check 4 left room for its references (R28). -/
theorem acceptRecord_buffers {s : State} {r : PlanRecord} (i : Nat) (h : s.planRefusal r = none)
    (hs : s.buffers.Sound) : (s.acceptRecord r i).buffers.Sound := by
  intro b
  show Buffer.Sound ((s.acceptRecord r i).buffer b)
  have sound : (s.buffer b).Sound := hs b
  obtain ⟨-, -, -, ⟨front, back⟩, -⟩ := passes_of_planRefusal h
  rw [buffer_acceptRecord]
  by_cases none : namings (bufferField r.front) (bufferField r.back) b = 0
  · rwa [none]
  · have named : r.front = b.val ∨ r.back = b.val := by
      by_contra other
      simp only [not_or] at other
      simp [namings, bufferField_eq_some, other] at none
    have held : (s.buffer b).state = .held
        ∧ (s.buffer b).count + namings (bufferField r.front) (bufferField r.back) b ≤ 255 := by
      rcases named with e | e
      · exact held_of_bufferPasses (e ▸ front)
      · exact held_of_bufferPasses (e ▸ back)
    obtain ⟨state, room⟩ := held
    unfold Buffer.Sound at sound ⊢
    rw [state] at sound
    simp only [state]
    exact ⟨sound.1, room⟩

theorem preserved_acceptRecord {s : State} {r : PlanRecord} (i : Nat) (h : s.planRefusal r = none) :
    Preserved s (s.acceptRecord r i) where
  attention := by simp
  drive := by simp
  buffers := acceptRecord_buffers i h
  activation a := by simpa [State.ActivationSound] using a
  guarded _ g := by simpa [State.GuardSound, State.acceptRecord, State.ask] using g
  holder hs q hq := by
    have rest : (s.acceptRecord r i).junction.rest = s.junction.rest := by simp
    refine waits_mono rest ?_ q (hs q (holder_of_rest rest ▸ hq))
    simp [State.acceptRecord, State.ask]
  command := by simp

theorem preserved_completePlanFetch (s : State) (c : Configuration) (i : Nat) :
    Preserved s (s.completePlanFetch c i) := by
  refine (preserved_releasePort s).trans ?_
  unfold State.completePlanFetch
  dsimp only
  split
  · exact preserved_ask _ _
  · next h =>
    have accepted := preserved_acceptRecord i h
    split
    · exact accepted.trans (.of_keeps (State.evaluate_kept (.refl _)))
    · exact accepted

theorem preserved_writeWord (s : State) (a : Nat) (w : Word) : Preserved s (s.writeWord a w) := preserved_setMemory s _

theorem preserved_answerWritten (s : State) (i : Nat) (a : PlanAnswer) : Preserved s (s.answerWritten i a) :=
  .of_keeps (State.answerWritten_kept i a (.refl s))

theorem preserved_judgeTag (s : State) (b : BufferNo) (r : TagRecord) : Preserved s (s.judgeTag b r) :=
  .of_keeps (State.judgeTag_kept b r (.refl s))

theorem preserved_reopenBuffer (s : State) (b : BufferNo) : Preserved s (s.reopenBuffer b) :=
  .of_keeps (State.reopenBuffer_kept b (.refl s))

theorem preserved_completePlanWrite (s : State) (c : Configuration) (i : Nat) (a : PlanAnswer) :
    Preserved s (s.completePlanWrite c i a) :=
  ((preserved_writeWord s _ _).trans (preserved_releasePort _)).trans (preserved_answerWritten _ i a)

theorem preserved_completeTagFetch (s : State) (c : Configuration) (b : BufferNo) :
    Preserved s (s.completeTagFetch c b) :=
  (preserved_releasePort s).trans (preserved_judgeTag _ b _)

theorem preserved_completeTagWrite (s : State) (c : Configuration) (b : BufferNo) (a : TagAnswer) :
    Preserved s (s.completeTagWrite c b a) := by
  have written : Preserved s ((s.writeWord (tagSlotAddress c b + 12) a.word).releasePort) :=
    (preserved_writeWord s _ _).trans (preserved_releasePort _)
  cases a with
  | taken => exact written
  | refusedState => exact written
  | refusedFormat => exact written.trans (preserved_reopenBuffer _ b)

theorem preserved_completeFinish (s : State) (c : Configuration) (w : Word) : Preserved s (s.completeFinish c w) :=
  (((preserved_writeWord s _ _).trans (preserved_writeWord _ _ _)).trans (preserved_releasePort _)).trans
    (preserved_raiseE _ _)

theorem preserved_completeAbandon (s : State) (c : Configuration) : Preserved s (s.completeAbandon c) :=
  (preserved_writeWord s _ _).trans (preserved_releasePort _)

theorem preserved_completeLogWrite (s : State) (c : Configuration) (i : Word) (r : LogRecord) :
    Preserved s (s.completeLogWrite c i r) := by
  unfold State.completeLogWrite
  dsimp only
  have written := preserved_setMemory s (Memory.writeAll s.memory (layOut (logPosition c i) (r.bytes i)))
  refine (written.trans (preserved_releasePort _)).trans ?_
  exact .of_keeps (State.examineClearance_kept (State.takeRecord_kept (State.countWritten_kept _
    (State.releaseSlot_kept _ (State.raiseE_kept _ (State.setLog_kept (.refl _) _))))))

theorem preserved_writeResult (s : State) (w : Word) : Preserved s (s.writeResult w) :=
  (preserved_setMemory s _).trans (preserved_setJunction _ _ rfl fun hs q hq => by cases q <;> exact hs _ hq)

theorem preserved_readAnchor (s : State) (b : Bool) : Preserved s (s.readAnchor b) := by
  unfold State.readAnchor
  dsimp only
  split
  all_goals exact (preserved_writeResult s _).trans (preserved_continueOp _ _)

theorem preserved_finishAnchor (s : State) (w : Word) : Preserved s (s.finishAnchor w) :=
  ((preserved_writeResult s w).trans (preserved_releasePort _)).trans
    (preserved_setJunction _ _ rfl fun hs q hq => by cases q <;> exact hs _ hq)

/-- An activation leaves every block emptied, the run state IDLE, and the command as it stands (R186). -/
theorem preserved_activate (s : State) (c : Configuration) : Preserved s (s.activate c) where
  attention _ := ⟨rfl, rfl⟩
  drive := id
  buffers _ b := by
    show Buffer.Sound ((Vector.replicate 64 Buffer.free)[b])
    rw [Fin.getElem_fin, Vector.getElem_replicate]
    rfl
  activation _ := iff_of_false (fun h => nomatch h) (fun h => nomatch h)
  guarded _ _ off := nomatch off
  holder hs q hq := by cases q <;> exact hs _ hq
  command := id

theorem preserved_reconfigure (s : State) (c : Configuration) (idle : s.run.state = .idle) :
    Preserved s (s.reconfigure c) where
  attention := id
  drive := id
  buffers := id
  activation _ := iff_of_false (fun h => nomatch h) (fun h => by
    have inactive : s.run.state = .inactive := h
    rw [idle] at inactive
    cases inactive)
  guarded _ g := g
  holder hs q hq := by cases q <;> exact hs _ hq
  command := id

theorem preserved_readConfig (s : State) (b : Bool) (format address : Word) :
    Preserved s (s.readConfig b format address) := by
  unfold State.readConfig State.acceptConfiguration
  dsimp only
  split
  · split
    · exact preserved_continueOp s _
    · split
      · split
        · next idle => exact (preserved_reconfigure s _ idle.1).trans (preserved_continueOp _ _)
        · exact preserved_continueOp s _
      · exact (preserved_activate s _).trans (preserved_continueOp _ _)
  · exact preserved_continueOp s _

/-! ## Commands -/

/-- A command keeps the invariants when its effect does, from every state (R154, R157). -/
theorem preserved_takeCommand (s : State) (code : Option CommandCode) {effect : Word → State → State}
    (h : ∀ w u, Preserved u (effect w u)) : Preserved s (s.takeCommand code effect) := by
  unfold State.takeCommand
  split
  · next c _ _ =>
    split
    · have written : Preserved s (s.writeAccepted c).releasePort :=
        (Preserved.of_keeps (State.writeAccepted_kept c (.refl s))).trans (preserved_releasePort _)
      dsimp only
      split
      · exact written
      · exact (written.trans (.of_keeps (State.loadCommand_kept c code (.refl _)))).trans (h _ _)
    · exact .refl s
  · exact .refl s

/-- START leaves IDLE with the guard on, which R166 lets be off only at rest (R158). -/
theorem preserved_runStart (w : Word) (s : State) : Preserved s (State.runStart w s) := by
  unfold State.runStart
  split
  · exact .of_keeps (State.refuseState_kept (.refl s))
  next idle =>
  split
  · exact .of_keeps (State.refuseOperand_kept (.refl s))
  split
  · exact .of_keeps (State.finish_kept _ _ (.refl s))
  next on =>
  split
  · exact .of_keeps (State.finish_kept _ _ (.refl s))
  split
  · exact .of_keeps (State.finish_kept _ _ (.refl s))
  refine ⟨id, fun _ => Drive.spinUp_sound _ _ _ _, id, fun a => ?_, fun _ _ off => ?_, id, id⟩
  · have configured : s.config ≠ none := fun e => by
      have inactive := a.1 e
      simp [inactive] at idle
    exact iff_of_false configured (fun h => nomatch h)
  · have off : s.junction.guardOn = false := off
    simp [off] at on

theorem preserved_runGuardOn (w : Word) (s : State) : Preserved s (State.runGuardOn w s) := by
  unfold State.runGuardOn
  split
  · exact .of_keeps (State.redundant_kept (.refl s))
  · have on : Preserved s (s.setGuard true) :=
      ⟨id, id, id, id, fun _ _ off => (nomatch off), fun hs q hq => by cases q <;> exact hs _ hq, id⟩
    exact on.trans (.of_keeps (State.succeed_kept (.refl _)))

theorem preserved_runGuardOff (w : Word) (s : State) : Preserved s (State.runGuardOff w s) := by
  unfold State.runGuardOff
  split
  · exact .of_keeps (State.refuseState_kept (.refl s))
  next idle =>
  have idle : s.run.state = .idle := not_not.1 idle
  split
  · have off : Preserved s (s.setGuard false) :=
      ⟨id, id, id, id, fun _ _ _ => .inl idle, fun hs q hq => by cases q <;> exact hs _ hq, id⟩
    exact off.trans (.of_keeps (State.succeed_kept (.refl _)))
  · exact .of_keeps (State.redundant_kept (.refl s))

/-! ## Lines and timers -/

/-- An abandoned command leaves IDLE behind; the agent's queue keeps its length and gets one operation more (R157). -/
theorem preserved_abandonCommand (s : State) : Preserved s s.abandonCommand where
  attention := by simp
  drive := by simp
  buffers := by simp
  activation a := by
    unfold State.abandonCommand
    split <;> exact a
  guarded _ g := by
    unfold State.abandonCommand
    split <;> exact g
  holder hs q hq := by
    unfold State.abandonCommand at hq ⊢
    split
    · next accepted =>
      rw [if_pos accepted] at hq
      cases q with
      | E => exact hs .E hq
      | P => exact hs .P hq
      | agent => simp [Junction.waits, State.ask]
    · next free =>
      rw [if_neg free] at hq
      exact hs q hq
  command h := by
    unfold State.abandonCommand
    split
    · exact iff_of_false (fun h => nomatch h) (fun h => nomatch h)
    · exact h

theorem preserved_engineReset (s : State) : Preserved s s.engineReset :=
  ((preserved_abandonCommand s).trans (.of_keeps (State.clearE_kept (State.report_kept _ (.refl _))))).trans
    (preserved_clearLatch _)

/-- POWER RESET leaves every invariant holding (R136). -/
theorem preserved_powerReset (s : State) : Preserved s s.powerReset where
  attention _ := ⟨rfl, rfl⟩
  drive _ := by
    show Drive.Sound Drive.reset
    simp [Drive.Sound, Drive.reset, DriveState.powered, DriveState.seeking]
  buffers _ b := by
    show Buffer.Sound ((Vector.replicate 64 Buffer.free)[b])
    rw [Fin.getElem_fin, Vector.getElem_replicate]
    rfl
  activation _ := iff_of_true rfl rfl
  guarded _ _ off := nomatch off
  holder _ _ h := nomatch h
  command _ := iff_of_false (fun h => nomatch h) (fun h => nomatch h)

/-! ## Every command -/

theorem Preserved.due {s t : State} (p : Prop) [Decidable p] (h : Preserved s t) :
    Preserved s (if p then t else s) := by
  split
  · exact h
  · exact .refl s

/-- The state a command leaves is a grant away from one that its effect keeps the invariants of. -/
theorem StepKeeps.of_effect {s u t : State} (h : Preserved s.begin u)
    (e : (Host.Outcome.next u.grant : Host.Outcome State Fault Refusal) = .next t) : StepKeeps s t := by
  cases e
  exact .of_grant ((preserved_begin s).trans h)

/-- A command that reads the command block keeps the invariants when its effect does. -/
theorem StepKeeps.of_command {s t : State} {code : Option CommandCode} {effect : Word → State → State}
    (h : ∀ w u, Preserved u (effect w u))
    (e : (s.begin.takeCommand code effect).done = .next t) : StepKeeps s t :=
  .of_effect (preserved_takeCommand _ code h) e

theorem sound_without_deadline {d : Drive} (h : d.Sound) : Drive.Sound { d with lockDeadline := none } := by
  obtain ⟨enable, speed, window, -, count, runs⟩ := h
  exact ⟨enable, speed, window, (nomatch ·), count, runs⟩

/-- Every command keeps the invariants. -/
theorem exec_keeps (c : Instr) (s t : State) (h : exec c s = .next t) : StepKeeps s t := by
  cases c with
  | powerReset => exact .of_effect (preserved_powerReset _) h
  | engineReset => exact .of_effect (preserved_engineReset _) h
  | coverOpen => exact .of_effect (.unless _ (.of_keeps (State.openCover_kept (State.setLines_kept (.refl _) _)))) h
  | leadingEdge x => exact .of_effect (.unless _ (.of_keeps (State.takeLeadingEdge_kept x (.refl _)))) h
  | trailingEdge x => exact .of_effect (.due _ (.of_keeps (State.takeTrailingEdge_kept x (.refl _)))) h
  | imageFault =>
    exact .of_effect (.unless _ (.of_keeps (State.imageFaultAsserted_kept (State.setLines_kept (.refl _) _)))) h
  | trayEmptyDeasserted y =>
    exact .of_effect (.due _ (.of_keeps (State.refillTray_kept y (State.setTrayEmpty_kept y _ (.refl _))))) h
  | stackerFull k level =>
    refine .of_effect (.unless _ ?_) h
    have lines := State.setLines_kept (.refl s.begin) (s.begin.lines.setStackerFull k level)
    split
    · exact .of_keeps lines
    · split
      · exact .of_keeps (State.stackerFilled_kept lines)
      · exact .of_keeps (State.stackerEmptied_kept lines)
  | purgeFull level =>
    refine .of_effect (.unless _ ?_) h
    have lines := State.setLines_kept (.refl s.begin) { s.begin.lines with purgeFull := level }
    split
    · exact .of_keeps lines
    · split
      · exact .of_keeps (State.setHolds_kept _ lines)
      · exact .of_keeps (State.purgeEmptied_kept lines)
  | encoder => exact .of_effect (.of_keeps ((Keeps.refl s.begin).driveTo _ Drive.pulse_sound) rfl rfl) h
  | encoderWindowClose => exact .of_effect (.due _ (.of_keeps (State.closeEncoderWindow_kept (.refl _)))) h
  | lockTimeout =>
    have ended : Keeps s.begin (s.begin.setDrive { s.begin.drive with lockDeadline := none }) :=
      (Keeps.refl _).driveTo _ sound_without_deadline
    exact .of_effect (.due _ (.of_keeps (State.takeLockTimeout_kept ended))) h
  | slotPasses =>
    refine .of_effect ?_ h
    split
    · exact .of_keeps (State.passSlot_kept _ (.refl _))
    · exact .refl _
  | pickDue y =>
    refine .of_effect ?_ h
    split
    · exact .due _ (.of_keeps (State.expirePick_kept y _ (.refl _)))
    · exact .refl _
  | releaseDue y => exact .of_effect (.due _ (.of_keeps (State.expireRelease_kept y (.refl _)))) h
  | lateRelease y => exact .of_effect (.due _ (.of_keeps (State.expireLate_kept y (.refl _)))) h
  | windowExpiry x i => exact .of_effect (.due _ (.of_keeps (State.expireWindow_kept x i (.refl _)))) h
  | stall x => exact .of_effect (.due _ (.of_keeps (State.expireCover_kept x (.refl _)))) h
  | graceExpiry => exact .of_effect (.due _ (.of_keeps (State.takeGrace_kept (.refl _)))) h
  | upstreamAccess p a => exact .of_effect (preserved_takeAccessIf _ p a _) h
  | accessComplete =>
    refine .of_effect ?_ h
    split
    · exact .refl _
    · split
      · exact (preserved_completeAccess _ _ _).trans (preserved_takeEvents _ _)
      · exact .refl _
  | droppedWrite p a => exact .of_effect (preserved_takeAccessIf _ p a _) h
  | commitEvent i => exact .of_effect (preserved_takeEvent _ _) h
  | tagCommitEvent b => exact .of_effect (preserved_takeEvent _ _) h
  | codeEvent => exact .of_effect (preserved_takeEvent _ _) h
  | consumerWrite w m => exact .of_effect (preserved_takeEvent _ _) h
  | anchorEvent v => exact .of_effect (preserved_takeEvent _ _) h
  | claim a => exact .of_effect (preserved_takeAccessIf _ _ a _) h
  | claimInspection a => exact .of_effect (preserved_takeAccessIf _ _ a _) h
  | abandon a => exact .of_effect (preserved_takeAccessIf _ _ a _) h
  | summaryRead p a => exact .of_effect (preserved_takeAccessIf _ p a _) h
  | captureRearm p a => exact .of_effect (preserved_takeAccessIf _ p a _) h
  | planFetchComplete =>
    refine .of_effect ?_ h
    split
    exacts [preserved_completePlanFetch _ _ _, .refl _]
  | planCommitWordWritten =>
    refine .of_effect ?_ h
    split
    exacts [preserved_completePlanWrite _ _ _ _, .refl _]
  | tagFetchComplete =>
    refine .of_effect ?_ h
    split
    exacts [preserved_completeTagFetch _ _ _, .refl _]
  | tagCommitWordWritten =>
    refine .of_effect ?_ h
    split
    exacts [preserved_completeTagWrite _ _ _ _, .refl _]
  | unknownCommandCode => exact .of_command (fun _ u => .of_keeps (State.finish_kept _ _ (.refl u))) h
  | start => exact .of_command preserved_runStart h
  | stop => exact .of_command (fun w u => .of_keeps (State.runStop_kept w (.refl u))) h
  | pauseFeed => exact .of_command (fun w u => .of_keeps (State.runPauseFeed_kept w (.refl u))) h
  | resumeFeed => exact .of_command (fun w u => .of_keeps (State.runResumeFeed_kept w (.refl u))) h
  | changeSpeed => exact .of_command (fun w u => .of_keeps (State.runChangeSpeed_kept w (.refl u))) h
  | cancelSpeedChange => exact .of_command (fun w u => .of_keeps (State.runCancelSpeedChange_kept w (.refl u))) h
  | halt => exact .of_command (fun w u => .of_keeps (State.runHalt_kept w (.refl u))) h
  | clear => exact .of_command (fun w u => .of_keeps (State.runClear_kept w (.refl u))) h
  | withdraw => exact .of_command (fun w u => .of_keeps (State.runWithdraw_kept w (.refl u))) h
  | releaseBuffer => exact .of_command (fun w u => .of_keeps (State.runReleaseBuffer_kept w (.refl u))) h
  | reclaimBuffer => exact .of_command (fun w u => .of_keeps (State.runReclaimBuffer_kept w (.refl u))) h
  | guardOn => exact .of_command preserved_runGuardOn h
  | guardOff => exact .of_command preserved_runGuardOff h
  | selectStacker => exact .of_command (fun w u => .of_keeps (State.runSelectStacker_kept w (.refl u))) h
  | commandFinishWritten =>
    refine .of_effect ?_ h
    split
    · exact preserved_completeFinish _ _ _
    · exact preserved_completeAbandon _ _
    · exact .refl _
  | logRecordWritten =>
    refine .of_effect ?_ h
    split
    exacts [preserved_completeLogWrite _ _ _ _, .refl _]
  | configReadComplete =>
    refine .of_effect ?_ h
    split
    exacts [preserved_readConfig _ _ _ _, .refl _]
  | anchorResultWritten =>
    refine .of_effect ?_ h
    split
    exacts [preserved_finishAnchor _ _, .refl _]
  | trayEmptyAsserted y => exact .of_effect (.of_keeps (State.setTrayEmpty_kept y _ (.refl _))) h
  | coverOpenDeasserted => exact .of_effect (.of_keeps (State.setLines_kept (.refl _) _)) h
  | imageFaultDeasserted => exact .of_effect (.of_keeps (State.setLines_kept (.refl _) _)) h
  | anchorReadComplete =>
    refine .of_effect ?_ h
    split
    exacts [preserved_readAnchor _ _, .refl _]

/-- What a step is: a command that waits or is due, on a state that differs in the waiting commands alone, or a tick. -/
theorem step_cases {s t : State} (h : step s = .next t) :
    (∃ c l, exec c (s.setPending l) = .next t) ∨ t = s.idleTick := by
  unfold step at h
  split at h
  · next c rest _ => exact .inl ⟨c, rest, h⟩
  · next none =>
    unfold State.idle at h
    split at h
    · next c cs _ =>
      have same : s.setPending s.pending = s := rfl
      exact .inl ⟨chooseDue s c cs, s.pending, same ▸ h⟩
    · cases h
      exact .inr rfl

/-- Every step keeps the invariants. -/
theorem step_keeps {s t : State} (h : step s = .next t) : StepKeeps s t := by
  rcases step_cases h with ⟨c, l, h⟩ | rfl
  · obtain ⟨preserved, port⟩ := exec_keeps c _ t h
    exact ⟨⟨preserved.attention, preserved.drive, preserved.buffers, preserved.activation, preserved.guarded,
      preserved.holder, preserved.command⟩, port⟩
  · exact ⟨⟨id, id, id, id, fun _ => id, id, id⟩, id⟩

/-! ## The statements -/

/-- Settles O6: every operation on the drive leaves the tables of R122. -/
theorem driveTableHolds : Obligations.DriveTableHolds := fun _ _ hs h => (step_keeps h).preserved.drive hs

/-- Settles O8: every change of a buffer entry is from one form to another, and check 4 leaves room for references. -/
theorem bufferEntriesHold : Obligations.BufferEntriesHold := fun _ _ hs h => (step_keeps h).preserved.buffers hs

/-- Settles O9: only an activation, a deactivation and POWER RESET change either side. -/
theorem passAllWhileInactive : Obligations.PassAllWhileInactive := fun _ _ hs h =>
  (step_keeps h).preserved.activation hs

/-- Settles O10: GUARD OFF acts in IDLE alone, and START, which leaves IDLE, wants the guard on. -/
theorem guardOffOnlyAtRest : Obligations.GuardOffOnlyAtRest := fun _ _ ha hg h =>
  (step_keeps h).preserved.guarded ha hg

/-- Settles O11: an operation leaves the port to a holder that waits, and the grant fills a free port. -/
theorem portHeldWhileWanted : Obligations.PortHeldWhileWanted := fun _ _ hs h => (step_keeps h).port hs

/-- Settles O12: a code event takes a command, and a finish or an abandon ends it. -/
theorem commandHeldWhileAccepted : Obligations.CommandHeldWhileAccepted := fun _ _ hs h =>
  (step_keeps h).preserved.command hs

/-- Settles O7: every change of a summary sets its line with it. -/
theorem attentionLinesFollow : Obligations.AttentionLinesFollow := fun _ _ hs h =>
  (step_keeps h).preserved.attention hs

end Sys2Proof.Proofs.Invariants

/-! What every command leaves alone (O14), the canonical form of memory (O5), and the pulses that move a sheet (O13):
each read off the frames of the operations, with one case per command. -/

namespace Sys2Proof.Proofs.CommandFrames
open Sys2Proof Sys2Proof.Machine Sys2Proof.Proofs.Invariants

/-! ## Frames -/

/-- A property of every part of the state, part by part. -/
theorem forall_block {p : Block → Prop} : (∀ b, p b) ↔
    p .tick ∧ p .config ∧ p .lines ∧ p .memory ∧ p .junction ∧ p .plan ∧ p .buffers ∧ p .scheduler ∧ p .tracker
      ∧ p .output ∧ p .drive ∧ p .run ∧ p .log ∧ p .attention ∧ p .pulses ∧ p .pending := by
  refine ⟨fun h => ⟨h _, h _, h _, h _, h _, h _, h _, h _, h _, h _, h _, h _, h _, h _, h _, h _⟩, fun h b => ?_⟩
  obtain ⟨h1, h2, h3, h4, h5, h6, h7, h8, h9, h10, h11, h12, h13, h14, h15, h16⟩ := h
  cases b <;> assumption

/-- A frame, part by part. -/
theorem keepsBut_iff {L : List Block} {s t : State} : KeepsBut L s t ↔
    (.tick ∉ L → t.tick = s.tick) ∧ (.config ∉ L → t.config = s.config) ∧ (.lines ∉ L → t.lines = s.lines)
      ∧ (.memory ∉ L → t.memory = s.memory) ∧ (.junction ∉ L → t.junction = s.junction)
      ∧ (.plan ∉ L → t.plan = s.plan) ∧ (.buffers ∉ L → t.buffers = s.buffers)
      ∧ (.scheduler ∉ L → t.scheduler = s.scheduler) ∧ (.tracker ∉ L → t.tracker = s.tracker)
      ∧ (.output ∉ L → t.output = s.output) ∧ (.drive ∉ L → t.drive = s.drive) ∧ (.run ∉ L → t.run = s.run)
      ∧ (.log ∉ L → t.log = s.log) ∧ (.attention ∉ L → t.attention = s.attention)
      ∧ (.pulses ∉ L → t.pulses = s.pulses) ∧ (.pending ∉ L → t.pending = s.pending) :=
  forall_block

theorem keepsBut_of_ite {L : List Block} {s t u : State} (p : Prop) [Decidable p] (ht : KeepsBut L s t)
    (hu : KeepsBut L s u) : KeepsBut L s (if p then t else u) := by
  split
  · exact ht
  · exact hu

/-- What a command keeps is what its effect keeps of the state it begins in: the grant is the junction's. -/
theorem keepsBut_of_effect {L : List Block} {s u t : State}
    (h : KeepsBut (.junction :: .pulses :: L) s.begin u)
    (e : (Host.Outcome.next u.grant : Host.Outcome State Fault Refusal) = .next t) :
    KeepsBut (.junction :: .pulses :: L) s t := by
  cases e
  have begun : KeepsBut (.junction :: .pulses :: L) s s.begin := by simp [keepsBut_iff]
  exact (begun.trans h).grant (by simp)

/-- An event whose effect asks nothing of the junction and issues no pulse acts on the blocks its effect changes. -/
theorem actsOn_of_effect {L : List Block} {s u : State} (frame : KeepsBut (.junction :: .pulses :: L) s.begin u)
    (junction : u.junction = s.junction := by simp) (pulses : u.pulses = [] := by simp) : ActsOn L s u.grant :=
  ⟨keepsBut_of_effect frame rfl, congrArg Junction.grant junction, pulses⟩

/-- An event that is not taken: nothing changes but the pulses of the step before and the grant. -/
theorem actsOn_begin (L : List Block) (s : State) : ActsOn L s s.begin.grant := actsOn_of_effect .refl rfl rfl

theorem keepsBut_takeAccessIf (s : State) (p : Port) (a : Access) (kind : Judgement → Bool) :
    KeepsBut [.junction, .pulses, .buffers, .attention] s (s.takeAccessIf p a kind) := by
  unfold State.takeAccessIf
  refine keepsBut_of_ite _ ?_ .refl
  simp [keepsBut_iff]

/-- A dropped write changes no buffer and no attention: the junction alone answers it (R180). -/
theorem keepsBut_droppedWrite (s : State) (p : Port) (a : Access) :
    KeepsBut [.junction, .pulses] s (s.takeAccessIf p a Judgement.isDrop) := by
  unfold State.takeAccessIf
  split
  · next taken =>
    simp only [Bool.and_eq_true] at taken
    have drops := taken.2
    unfold State.takeAccess
    cases hj : s.judge p a with
    | drops => simp [keepsBut_iff, State.carryOut]
    | _ => simp [hj, Judgement.isDrop] at drops
  · exact .refl

/-- The E-port's read of event cells claims no buffer (R42). -/
theorem readCells_E_buffers (o n : Nat) (l : List ViewCell) (s : State) :
    (s.readCells .E o n l).buffers = s.buffers := by
  induction l generalizing s with
  | nil => rfl
  | cons v vs ih =>
    refine (ih _).trans ?_
    split
    · cases v <;> simp [State.readCell]
    · rfl

/-- An inspection of the CLAIM cell by the E-port changes no buffer (R42). -/
theorem keepsBut_claimInspection (s : State) (a : Access) :
    KeepsBut [.junction, .pulses, .attention] s (s.takeAccessIf .E a (Judgement.reads .claim a.size.bytes)) := by
  unfold State.takeAccessIf
  split
  · next taken =>
    simp only [Bool.and_eq_true] at taken
    have views := taken.2
    unfold State.takeAccess
    cases hj : s.judge .E a with
    | views o => simp [keepsBut_iff, State.carryOut, State.answerView, readCells_E_buffers]
    | _ => simp [hj, Judgement.reads] at views
  · exact .refl

/-- A configuration read changes neither the tick, the lines, memory nor the drive (R186). -/
theorem keepsBut_readConfig (s : State) (again : Bool) (format address : Word) :
    KeepsBut [.config, .junction, .plan, .buffers, .scheduler, .tracker, .output, .run, .log, .attention] s
      (s.readConfig again format address) := by
  unfold State.readConfig State.acceptConfiguration
  dsimp only
  repeat' split
  all_goals simp [keepsBut_iff, State.activate, State.reconfigure]

/-- A command that reads the command block changes memory, the run controller and what its effect changes (R154). -/
theorem keepsBut_takeCommand {L : List Block} {s : State} {code : Option CommandCode} {effect : Word → State → State}
    (hm : .memory ∈ L) (hr : .run ∈ L) (h : ∀ w u, KeepsBut (.junction :: .pulses :: L) u (effect w u)) :
    KeepsBut (.junction :: .pulses :: L) s (s.takeCommand code effect) := by
  have written (c : Configuration) : KeepsBut (.junction :: .pulses :: L) s (s.writeAccepted c).releasePort := by
    refine KeepsBut.mono (L := [.junction, .memory]) ?_ (by simp [hm])
    simp [keepsBut_iff]
  have loaded (c : Configuration) (u : State) :
      KeepsBut (.junction :: .pulses :: L) u (u.loadCommand c code) := by
    refine KeepsBut.mono (L := [.run]) ?_ (by simp [hr])
    simp [keepsBut_iff]
  unfold State.takeCommand
  split
  · next c _ _ => exact keepsBut_of_ite _ (keepsBut_of_ite _ (written c) (((written c).trans (loaded c _)).trans (h _ _))) .refl
  · exact .refl

/-- Every command keeps the parts that are not listed for it. -/
theorem exec_keepsBut (c : Instr) (s t : State) (h : exec c s = .next t) :
    KeepsBut (.junction :: .pulses :: mayChange c) s t := by
  cases c with
  | powerReset =>
    refine keepsBut_of_effect ?_ h
    simp [keepsBut_iff, mayChange, pathBlocks, State.powerReset]
  | engineReset =>
    refine keepsBut_of_effect ?_ h
    simp [keepsBut_iff, mayChange, pathBlocks]
  | coverOpen =>
    refine keepsBut_of_effect (keepsBut_of_ite _ .refl ?_) h
    simp [keepsBut_iff, mayChange, pathBlocks]
  | leadingEdge x =>
    refine keepsBut_of_effect (keepsBut_of_ite _ .refl ?_) h
    simp [keepsBut_iff, mayChange, pathBlocks]
  | trailingEdge x =>
    refine keepsBut_of_effect (keepsBut_of_ite _ ?_ .refl) h
    simp [keepsBut_iff, mayChange, pathBlocks]
  | imageFault =>
    refine keepsBut_of_effect (keepsBut_of_ite _ .refl ?_) h
    simp [keepsBut_iff, mayChange]
  | trayEmptyDeasserted y =>
    refine keepsBut_of_effect (keepsBut_of_ite _ ?_ .refl) h
    simp [keepsBut_iff, mayChange]
  | stackerFull k level =>
    refine keepsBut_of_effect (keepsBut_of_ite _ .refl (keepsBut_of_ite _ ?_ (keepsBut_of_ite _ ?_ ?_))) h
    all_goals simp [keepsBut_iff, mayChange]
  | purgeFull level =>
    refine keepsBut_of_effect (keepsBut_of_ite _ .refl (keepsBut_of_ite _ ?_ (keepsBut_of_ite _ ?_ ?_))) h
    all_goals simp [keepsBut_iff, mayChange]
  | encoder =>
    refine keepsBut_of_effect ?_ h
    simp [keepsBut_iff, mayChange]
  | encoderWindowClose =>
    refine keepsBut_of_effect (keepsBut_of_ite _ ?_ .refl) h
    simp [keepsBut_iff, mayChange, pathBlocks]
  | lockTimeout =>
    refine keepsBut_of_effect (keepsBut_of_ite _ ?_ .refl) h
    simp [keepsBut_iff, mayChange]
  | slotPasses =>
    refine keepsBut_of_effect ?_ h
    split
    · simp [keepsBut_iff, mayChange]
    · exact .refl
  | pickDue y =>
    refine keepsBut_of_effect ?_ h
    split
    · refine keepsBut_of_ite _ ?_ .refl
      simp [keepsBut_iff, mayChange]
    · exact .refl
  | releaseDue y =>
    refine keepsBut_of_effect (keepsBut_of_ite _ ?_ .refl) h
    simp [keepsBut_iff, mayChange]
  | lateRelease y =>
    refine keepsBut_of_effect (keepsBut_of_ite _ ?_ .refl) h
    simp [keepsBut_iff, mayChange]
  | windowExpiry x i =>
    refine keepsBut_of_effect (keepsBut_of_ite _ ?_ .refl) h
    simp [keepsBut_iff, mayChange, pathBlocks]
  | stall x =>
    refine keepsBut_of_effect (keepsBut_of_ite _ ?_ .refl) h
    simp [keepsBut_iff, mayChange, pathBlocks]
  | graceExpiry =>
    refine keepsBut_of_effect (keepsBut_of_ite _ ?_ .refl) h
    simp [keepsBut_iff, mayChange]
  | upstreamAccess p a => exact keepsBut_of_effect (keepsBut_takeAccessIf _ p a _) h
  | accessComplete =>
    refine keepsBut_of_effect ?_ h
    split
    · exact .refl
    · split
      · simp [keepsBut_iff, mayChange, pathBlocks]
      · exact .refl
  | droppedWrite p a => exact keepsBut_of_effect (keepsBut_droppedWrite _ p a) h
  | commitEvent i =>
    refine keepsBut_of_effect (keepsBut_of_ite _ .refl ?_) h
    simp [keepsBut_iff, mayChange]
  | tagCommitEvent b =>
    refine keepsBut_of_effect (keepsBut_of_ite _ .refl ?_) h
    simp [keepsBut_iff, mayChange]
  | codeEvent =>
    refine keepsBut_of_effect (keepsBut_of_ite _ .refl ?_) h
    simp [keepsBut_iff, mayChange]
  | consumerWrite w m =>
    refine keepsBut_of_effect (keepsBut_of_ite _ .refl ?_) h
    simp [keepsBut_iff, mayChange]
  | anchorEvent v =>
    refine keepsBut_of_effect ?_ h
    simp [keepsBut_iff, mayChange, pathBlocks]
  | claim a => exact keepsBut_of_effect (keepsBut_takeAccessIf _ _ a _) h
  | claimInspection a => exact keepsBut_of_effect (keepsBut_claimInspection _ a) h
  | abandon a => exact keepsBut_of_effect (keepsBut_takeAccessIf _ _ a _) h
  | summaryRead p a => exact keepsBut_of_effect (keepsBut_takeAccessIf _ p a _) h
  | captureRearm p a => exact keepsBut_of_effect (keepsBut_takeAccessIf _ p a _) h
  | planFetchComplete =>
    refine keepsBut_of_effect ?_ h
    split
    · simp [keepsBut_iff, mayChange]
    · exact .refl
  | planCommitWordWritten =>
    refine keepsBut_of_effect ?_ h
    split
    · simp [keepsBut_iff, mayChange]
    · exact .refl
  | tagFetchComplete =>
    refine keepsBut_of_effect ?_ h
    split
    · simp [keepsBut_iff, mayChange]
    · exact .refl
  | tagCommitWordWritten =>
    refine keepsBut_of_effect ?_ h
    split
    · simp [keepsBut_iff, mayChange]
    · exact .refl
  | unknownCommandCode =>
    refine keepsBut_of_effect (keepsBut_takeCommand (by simp [mayChange]) (by simp [mayChange]) fun w u => ?_) h
    simp [keepsBut_iff, mayChange]
  | start =>
    refine keepsBut_of_effect (keepsBut_takeCommand (by simp [mayChange]) (by simp [mayChange]) fun w u => ?_) h
    simp [keepsBut_iff, mayChange]
  | stop =>
    refine keepsBut_of_effect (keepsBut_takeCommand (by simp [mayChange]) (by simp [mayChange, pathBlocks]) fun w u => ?_) h
    simp [keepsBut_iff, mayChange, pathBlocks]
  | pauseFeed =>
    refine keepsBut_of_effect (keepsBut_takeCommand (by simp [mayChange]) (by simp [mayChange]) fun w u => ?_) h
    simp [keepsBut_iff, mayChange]
  | resumeFeed =>
    refine keepsBut_of_effect (keepsBut_takeCommand (by simp [mayChange]) (by simp [mayChange]) fun w u => ?_) h
    simp [keepsBut_iff, mayChange]
  | changeSpeed =>
    refine keepsBut_of_effect (keepsBut_takeCommand (by simp [mayChange]) (by simp [mayChange, pathBlocks]) fun w u => ?_) h
    simp [keepsBut_iff, mayChange, pathBlocks]
  | cancelSpeedChange =>
    refine keepsBut_of_effect (keepsBut_takeCommand (by simp [mayChange]) (by simp [mayChange]) fun w u => ?_) h
    simp [keepsBut_iff, mayChange]
  | halt =>
    refine keepsBut_of_effect (keepsBut_takeCommand (by simp [mayChange]) (by simp [mayChange, pathBlocks]) fun w u => ?_) h
    simp [keepsBut_iff, mayChange, pathBlocks]
  | clear =>
    refine keepsBut_of_effect (keepsBut_takeCommand (by simp [mayChange]) (by simp [mayChange]) fun w u => ?_) h
    simp [keepsBut_iff, mayChange]
  | withdraw =>
    refine keepsBut_of_effect (keepsBut_takeCommand (by simp [mayChange]) (by simp [mayChange]) fun w u => ?_) h
    simp [keepsBut_iff, mayChange]
  | releaseBuffer =>
    refine keepsBut_of_effect (keepsBut_takeCommand (by simp [mayChange]) (by simp [mayChange]) fun w u => ?_) h
    simp [keepsBut_iff, mayChange]
  | reclaimBuffer =>
    refine keepsBut_of_effect (keepsBut_takeCommand (by simp [mayChange]) (by simp [mayChange]) fun w u => ?_) h
    simp [keepsBut_iff, mayChange]
  | guardOn =>
    refine keepsBut_of_effect (keepsBut_takeCommand (by simp [mayChange]) (by simp [mayChange]) fun w u => ?_) h
    simp [keepsBut_iff, mayChange]
  | guardOff =>
    refine keepsBut_of_effect (keepsBut_takeCommand (by simp [mayChange]) (by simp [mayChange]) fun w u => ?_) h
    simp [keepsBut_iff, mayChange]
  | selectStacker =>
    refine keepsBut_of_effect (keepsBut_takeCommand (by simp [mayChange]) (by simp [mayChange]) fun w u => ?_) h
    simp [keepsBut_iff, mayChange]
  | commandFinishWritten =>
    refine keepsBut_of_effect ?_ h
    split
    · simp [keepsBut_iff, mayChange]
    · simp [keepsBut_iff, mayChange]
    · exact .refl
  | logRecordWritten =>
    refine keepsBut_of_effect ?_ h
    split
    · simp [keepsBut_iff, mayChange]
    · exact .refl
  | configReadComplete =>
    refine keepsBut_of_effect ?_ h
    split
    · exact (keepsBut_readConfig _ _ _ _).mono (by simp [mayChange])
    · exact .refl
  | anchorResultWritten =>
    refine keepsBut_of_effect ?_ h
    split
    · simp [keepsBut_iff, mayChange]
    · exact .refl
  | trayEmptyAsserted y =>
    refine keepsBut_of_effect ?_ h
    simp [keepsBut_iff, mayChange]
  | coverOpenDeasserted =>
    refine keepsBut_of_effect ?_ h
    simp [keepsBut_iff, mayChange]
  | imageFaultDeasserted =>
    refine keepsBut_of_effect ?_ h
    simp [keepsBut_iff, mayChange]
  | anchorReadComplete =>
    refine keepsBut_of_effect ?_ h
    split
    · simp [keepsBut_iff, mayChange]
    · exact .refl
/-- Settles O14: the frame of each command's effect, and of the grant that ends it. -/
theorem commandsChangeOnlyTheirParts : Obligations.CommandsChangeOnlyTheirParts := exec_keepsBut

/-! ## Memory -/

/-- A state whose memory is canonical if that of another is. -/
theorem wf_of_same {L : List Block} {s t : State} (hs : Memory.wf s.memory = true) (h : KeepsBut L s t)
    (hL : .memory ∉ L) : Memory.wf t.memory = true := by
  have same : t.memory = s.memory := h .memory hL
  rwa [same]

theorem wf_writeWord {s : State} (h : Memory.wf s.memory = true) (a : Nat) (w : Word) :
    Memory.wf (s.writeWord a w).memory = true := Memory.wf_writeWord h a w

theorem wf_takeCommand {s : State} (h : Memory.wf s.memory = true) (code : Option CommandCode)
    {effect : Word → State → State} (same : ∀ w u, (effect w u).memory = u.memory) :
    Memory.wf (s.takeCommand code effect).memory = true := by
  have written (c : Configuration) : Memory.wf (s.writeAccepted c).memory = true := wf_writeWord (wf_writeWord h _ _) _ _
  unfold State.takeCommand
  split
  · split
    · dsimp only
      split
      · exact written _
      · rw [same]
        exact written _
    · exact h
  · exact h

/-- The canonical form of memory after a command is that after its effect. -/
theorem wf_of_effect {u t : State} (h : Memory.wf u.memory = true)
    (e : (Host.Outcome.next u.grant : Host.Outcome State Fault Refusal) = .next t) : Memory.wf t.memory = true := by
  cases e
  exact h

/-- Every command keeps the canonical form of memory: those that may change it write through `Memory.write`. -/
theorem exec_wf (c : Instr) (s t : State) (hs : Memory.wf s.memory = true) (h : exec c s = .next t) :
    Memory.wf t.memory = true := by
  have hb : Memory.wf s.begin.memory = true := hs
  cases c with
  | accessComplete =>
    refine wf_of_effect ?_ h
    split
    · exact hb
    · split
      · obtain ⟨-, -, memory, -⟩ := State.takeEvents_keeps (s.begin.completeAccess _ _) _
        rw [memory]
        exact Memory.wf_writeAll hb _
      · exact hb
  | planCommitWordWritten =>
    refine wf_of_effect ?_ h
    split
    · simp only [State.completePlanWrite, State.answerWritten_keeps, State.releasePort_keeps]
      exact wf_writeWord hb _ _
    · exact hb
  | tagCommitWordWritten =>
    refine wf_of_effect ?_ h
    split
    · next a _ _ _ =>
      unfold State.completeTagWrite
      cases a <;> simpa using wf_writeWord hb _ _
    · exact hb
  | unknownCommandCode => exact wf_of_effect (wf_takeCommand hb _ fun w u => by simp) h
  | start => exact wf_of_effect (wf_takeCommand hb _ fun w u => by simp) h
  | stop => exact wf_of_effect (wf_takeCommand hb _ fun w u => by simp) h
  | pauseFeed => exact wf_of_effect (wf_takeCommand hb _ fun w u => by simp) h
  | resumeFeed => exact wf_of_effect (wf_takeCommand hb _ fun w u => by simp) h
  | changeSpeed => exact wf_of_effect (wf_takeCommand hb _ fun w u => by simp) h
  | cancelSpeedChange => exact wf_of_effect (wf_takeCommand hb _ fun w u => by simp) h
  | halt => exact wf_of_effect (wf_takeCommand hb _ fun w u => by simp) h
  | clear => exact wf_of_effect (wf_takeCommand hb _ fun w u => by simp) h
  | withdraw => exact wf_of_effect (wf_takeCommand hb _ fun w u => by simp) h
  | releaseBuffer => exact wf_of_effect (wf_takeCommand hb _ fun w u => by simp) h
  | reclaimBuffer => exact wf_of_effect (wf_takeCommand hb _ fun w u => by simp) h
  | guardOn => exact wf_of_effect (wf_takeCommand hb _ fun w u => by simp) h
  | guardOff => exact wf_of_effect (wf_takeCommand hb _ fun w u => by simp) h
  | selectStacker => exact wf_of_effect (wf_takeCommand hb _ fun w u => by simp) h
  | commandFinishWritten =>
    refine wf_of_effect ?_ h
    split
    · exact wf_writeWord (wf_writeWord hb _ _) _ _
    · exact wf_writeWord hb _ _
    · exact hb
  | logRecordWritten =>
    refine wf_of_effect ?_ h
    split
    · simp only [State.completeLogWrite, State.examineClearance_keeps, State.takeRecord_keeps, State.countWritten_keeps,
        State.releaseSlot_keeps, State.raiseE_keeps]
      exact Memory.wf_writeAll hb _
    · exact hb
  | anchorResultWritten =>
    refine wf_of_effect ?_ h
    split
    · exact Memory.wf_writeWord hb _ _
    · exact hb
  | anchorReadComplete =>
    refine wf_of_effect ?_ h
    split
    · unfold State.readAnchor
      dsimp only
      split
      all_goals exact Memory.wf_writeWord hb _ _
    · exact hb
  | _ => exact wf_of_same hs (exec_keepsBut _ s t h) (by simp [mayChange, pathBlocks])

/-- Settles O5: by the command of the step; a tick leaves memory as it is. -/
theorem memoryStaysCanonical : Obligations.MemoryStaysCanonical := fun s t hs h => by
  rcases step_cases h with ⟨c, l, h⟩ | rfl
  · exact exec_wf c (s.setPending l) t hs h
  · exact hs

/-! ## Pulses that move a sheet -/

/-- An operation issues no pulse that moves a sheet. -/
def NoSheetPulse (s t : State) : Prop := t.sheetPulses = s.sheetPulses

theorem NoSheetPulse.refl (s : State) : NoSheetPulse s s := rfl

theorem NoSheetPulse.of_ite {s t u : State} (p : Prop) [Decidable p] (ht : NoSheetPulse s t) (hu : NoSheetPulse s u) :
    NoSheetPulse s (if p then t else u) := by
  split
  · exact ht
  · exact hu

theorem NoSheetPulse.of_keeps {L : List Block} {s t : State} (h : KeepsBut L s t) (hL : .pulses ∉ L) :
    NoSheetPulse s t := congrArg (List.filter Pulse.movesSheet) (h .pulses hL)

/-- A command whose effect issues no pulse that moves a sheet leaves none: those of the step before are over. -/
theorem sheetPulses_of_effect (s : State) {u t : State} (h : NoSheetPulse s.begin u)
    (e : (Host.Outcome.next u.grant : Host.Outcome State Fault Refusal) = .next t) : t.sheetPulses = [] := by
  cases e
  exact h.trans (by simp [State.sheetPulses])

theorem noSheetPulse_takeAccessIf (s : State) (p : Port) (a : Access) (kind : Judgement → Bool) :
    NoSheetPulse s (s.takeAccessIf p a kind) := by
  unfold State.takeAccessIf
  exact .of_ite _ (by simp [NoSheetPulse, State.sheetPulses]) (.refl s)

theorem noSheetPulse_takeCommand (s : State) (code : Option CommandCode) {effect : Word → State → State}
    (h : ∀ w u, NoSheetPulse u (effect w u)) : NoSheetPulse s (s.takeCommand code effect) := by
  unfold State.takeCommand
  split
  · exact .of_ite _ (.of_ite _ (by simp [NoSheetPulse, State.sheetPulses])
      ((h _ _).trans (by simp [State.sheetPulses]))) (.refl s)
  · exact .refl s

/-- Every command but the three expiries of a sheet's timers issues no pulse that moves a sheet. -/
theorem exec_sheetPulses (c : Instr) (s t : State) (h : exec c s = .next t) (pick : ∀ y, c ≠ .pickDue y)
    (release : ∀ y, c ≠ .releaseDue y) (late : ∀ y, c ≠ .lateRelease y) : t.sheetPulses = [] := by
  cases c with
  | powerReset =>
    cases h
    rfl
  | engineReset =>
    refine sheetPulses_of_effect s ?_ h
    simp [NoSheetPulse, State.sheetPulses]
  | coverOpen =>
    refine sheetPulses_of_effect s (.of_ite _ (.refl _) ?_) h
    simp [NoSheetPulse, State.sheetPulses]
  | leadingEdge x =>
    refine sheetPulses_of_effect s (.of_ite _ (.refl _) ?_) h
    simp [NoSheetPulse, State.sheetPulses]
  | trailingEdge x =>
    refine sheetPulses_of_effect s (.of_ite _ ?_ (.refl _)) h
    simp [NoSheetPulse, State.sheetPulses]
  | imageFault =>
    refine sheetPulses_of_effect s (.of_ite _ (.refl _) ?_) h
    simp [NoSheetPulse, State.sheetPulses]
  | trayEmptyDeasserted y =>
    refine sheetPulses_of_effect s (.of_ite _ ?_ (.refl _)) h
    simp [NoSheetPulse, State.sheetPulses]
  | stackerFull k level =>
    refine sheetPulses_of_effect s (.of_ite _ (.refl _) (.of_ite _ ?_ (.of_ite _ ?_ ?_))) h
    all_goals simp [NoSheetPulse, State.sheetPulses]
  | purgeFull level =>
    refine sheetPulses_of_effect s (.of_ite _ (.refl _) (.of_ite _ ?_ (.of_ite _ ?_ ?_))) h
    all_goals simp [NoSheetPulse, State.sheetPulses]
  | encoder =>
    refine sheetPulses_of_effect s ?_ h
    simp [NoSheetPulse, State.sheetPulses]
  | encoderWindowClose =>
    refine sheetPulses_of_effect s (.of_ite _ ?_ (.refl _)) h
    simp [NoSheetPulse, State.sheetPulses]
  | lockTimeout =>
    refine sheetPulses_of_effect s (.of_ite _ ?_ (.refl _)) h
    simp [NoSheetPulse, State.sheetPulses]
  | slotPasses =>
    refine sheetPulses_of_effect s ?_ h
    split
    · simp [NoSheetPulse, State.sheetPulses]
    · exact .refl _
  | pickDue y => exact absurd rfl (pick y)
  | releaseDue y => exact absurd rfl (release y)
  | lateRelease y => exact absurd rfl (late y)
  | windowExpiry x i =>
    refine sheetPulses_of_effect s (.of_ite _ ?_ (.refl _)) h
    simp [NoSheetPulse, State.sheetPulses]
  | stall x =>
    refine sheetPulses_of_effect s (.of_ite _ ?_ (.refl _)) h
    simp [NoSheetPulse, State.sheetPulses]
  | graceExpiry =>
    refine sheetPulses_of_effect s (.of_ite _ ?_ (.refl _)) h
    simp [NoSheetPulse, State.sheetPulses]
  | upstreamAccess p a => exact sheetPulses_of_effect s (noSheetPulse_takeAccessIf _ p a _) h
  | accessComplete =>
    refine sheetPulses_of_effect s ?_ h
    split
    · exact .refl _
    · split
      · simp [NoSheetPulse, State.sheetPulses]
      · exact .refl _
  | droppedWrite p a => exact sheetPulses_of_effect s (noSheetPulse_takeAccessIf _ p a _) h
  | commitEvent i =>
    refine sheetPulses_of_effect s ?_ h
    simp [NoSheetPulse, State.sheetPulses]
  | tagCommitEvent b =>
    refine sheetPulses_of_effect s ?_ h
    simp [NoSheetPulse, State.sheetPulses]
  | codeEvent =>
    refine sheetPulses_of_effect s ?_ h
    simp [NoSheetPulse, State.sheetPulses]
  | consumerWrite w m =>
    refine sheetPulses_of_effect s ?_ h
    simp [NoSheetPulse, State.sheetPulses]
  | anchorEvent v =>
    refine sheetPulses_of_effect s ?_ h
    simp [NoSheetPulse, State.sheetPulses]
  | claim a => exact sheetPulses_of_effect s (noSheetPulse_takeAccessIf _ _ a _) h
  | claimInspection a => exact sheetPulses_of_effect s (noSheetPulse_takeAccessIf _ _ a _) h
  | abandon a => exact sheetPulses_of_effect s (noSheetPulse_takeAccessIf _ _ a _) h
  | summaryRead p a => exact sheetPulses_of_effect s (noSheetPulse_takeAccessIf _ p a _) h
  | captureRearm p a => exact sheetPulses_of_effect s (noSheetPulse_takeAccessIf _ p a _) h
  | planFetchComplete =>
    refine sheetPulses_of_effect s ?_ h
    split
    · simp [NoSheetPulse, State.sheetPulses]
    · exact .refl _
  | planCommitWordWritten =>
    refine sheetPulses_of_effect s ?_ h
    split
    · simp [NoSheetPulse, State.sheetPulses]
    · exact .refl _
  | tagFetchComplete =>
    refine sheetPulses_of_effect s ?_ h
    split
    · simp [NoSheetPulse, State.sheetPulses]
    · exact .refl _
  | tagCommitWordWritten =>
    refine sheetPulses_of_effect s ?_ h
    split
    · simp [NoSheetPulse, State.sheetPulses]
    · exact .refl _
  | unknownCommandCode =>
    refine sheetPulses_of_effect s (noSheetPulse_takeCommand _ _ fun w u => ?_) h
    simp [NoSheetPulse, State.sheetPulses]
  | start =>
    refine sheetPulses_of_effect s (noSheetPulse_takeCommand _ _ fun w u => ?_) h
    simp [NoSheetPulse, State.sheetPulses]
  | stop =>
    refine sheetPulses_of_effect s (noSheetPulse_takeCommand _ _ fun w u => ?_) h
    simp [NoSheetPulse, State.sheetPulses]
  | pauseFeed =>
    refine sheetPulses_of_effect s (noSheetPulse_takeCommand _ _ fun w u => ?_) h
    simp [NoSheetPulse, State.sheetPulses]
  | resumeFeed =>
    refine sheetPulses_of_effect s (noSheetPulse_takeCommand _ _ fun w u => ?_) h
    simp [NoSheetPulse, State.sheetPulses]
  | changeSpeed =>
    refine sheetPulses_of_effect s (noSheetPulse_takeCommand _ _ fun w u => ?_) h
    simp [NoSheetPulse, State.sheetPulses]
  | cancelSpeedChange =>
    refine sheetPulses_of_effect s (noSheetPulse_takeCommand _ _ fun w u => ?_) h
    simp [NoSheetPulse, State.sheetPulses]
  | halt =>
    refine sheetPulses_of_effect s (noSheetPulse_takeCommand _ _ fun w u => ?_) h
    simp [NoSheetPulse, State.sheetPulses]
  | clear =>
    refine sheetPulses_of_effect s (noSheetPulse_takeCommand _ _ fun w u => ?_) h
    simp [NoSheetPulse, State.sheetPulses]
  | withdraw =>
    refine sheetPulses_of_effect s (noSheetPulse_takeCommand _ _ fun w u => ?_) h
    simp [NoSheetPulse, State.sheetPulses]
  | releaseBuffer =>
    refine sheetPulses_of_effect s (noSheetPulse_takeCommand _ _ fun w u => ?_) h
    simp [NoSheetPulse, State.sheetPulses]
  | reclaimBuffer =>
    refine sheetPulses_of_effect s (noSheetPulse_takeCommand _ _ fun w u => ?_) h
    simp [NoSheetPulse, State.sheetPulses]
  | guardOn =>
    refine sheetPulses_of_effect s (noSheetPulse_takeCommand _ _ fun w u => ?_) h
    simp [NoSheetPulse, State.sheetPulses]
  | guardOff =>
    refine sheetPulses_of_effect s (noSheetPulse_takeCommand _ _ fun w u => ?_) h
    simp [NoSheetPulse, State.sheetPulses]
  | selectStacker =>
    refine sheetPulses_of_effect s (noSheetPulse_takeCommand _ _ fun w u => ?_) h
    simp [NoSheetPulse, State.sheetPulses]
  | commandFinishWritten =>
    refine sheetPulses_of_effect s ?_ h
    split
    · simp [NoSheetPulse, State.sheetPulses]
    · simp [NoSheetPulse, State.sheetPulses]
    · exact .refl _
  | logRecordWritten =>
    refine sheetPulses_of_effect s ?_ h
    split
    · simp [NoSheetPulse, State.sheetPulses]
    · exact .refl _
  | configReadComplete =>
    refine sheetPulses_of_effect s ?_ h
    split
    · exact .of_keeps (keepsBut_readConfig _ _ _ _) (by simp)
    · exact .refl _
  | anchorResultWritten =>
    refine sheetPulses_of_effect s ?_ h
    split
    · simp [NoSheetPulse, State.sheetPulses]
    · exact .refl _
  | trayEmptyAsserted y =>
    refine sheetPulses_of_effect s ?_ h
    simp [NoSheetPulse, State.sheetPulses]
  | coverOpenDeasserted =>
    refine sheetPulses_of_effect s ?_ h
    simp [NoSheetPulse, State.sheetPulses]
  | imageFaultDeasserted =>
    refine sheetPulses_of_effect s ?_ h
    simp [NoSheetPulse, State.sheetPulses]
  | anchorReadComplete =>
    refine sheetPulses_of_effect s ?_ h
    split
    · simp [NoSheetPulse, State.sheetPulses]
    · exact .refl _

/-- A placement keeps what a sheet is, and where it is in its life. -/
theorem sheet_place {s : State} {h : Handle} {sh : Sheet} (hs : s.sheet h = some sh) (st : Stretch) :
    ∃ sh', (s.place h st).sheet h = some sh' ∧ sh'.state = sh.state ∧ sh'.pass = sh.pass ∧ sh'.plan = sh.plan := by
  cases ht : s.tracker.timing with
  | none => exact ⟨sh, by simp [State.place, hs, ht], rfl, rfl, rfl⟩
  | some timing =>
    obtain ⟨-, placed, -⟩ := State.place_spec s h st sh timing hs ht
    exact ⟨_, placed, rfl, rfl, rfl⟩

theorem sheet_modifySheet {s : State} {h : Handle} {sh : Sheet} (hs : s.sheet h = some sh) (f : Sheet → Sheet) :
    (s.modifySheet h f).sheet h = some (f sh) := by
  rw [State.modifySheet_some _ _ _ _ hs, State.sheet_putSheet]

theorem sheet_pick {s : State} {h : Handle} {sh : Sheet} (hs : s.sheet h = some sh) (due : Tick) :
    ∃ sh', (s.pick h sh due).sheet h = some sh' ∧ sh'.state = .feeding ∧ sh'.plan = sh.plan := by
  obtain ⟨sh', placed, state, -, plan⟩ := sheet_place (s := (((s.modifySheet h fun x => { x with state := .feeding }).pulse
    (.pick sh.plan.tray)).setScheduler { s.scheduler with pickBounds := some ⟨sh.frontSlot, sh.finalSlot, due⟩ }))
    (sheet_modifySheet hs fun x => { x with state := .feeding }) (.pick sh.plan.tray)
  exact ⟨sh', placed, state, plan⟩

theorem sheet_release {s : State} {h : Handle} {sh : Sheet} (hs : s.sheet h = some sh) :
    ∃ sh', (s.release h).sheet h = some sh' ∧ sh'.state = .returning ∧ sh'.pass = 2 ∧ sh'.plan = sh.plan := by
  have moved := sheet_modifySheet hs fun x => { x with state := .returning, pass := 2 }
  refine sheet_place (sh := { sh with state := .returning, pass := 2 }) ?_ (.leg legLhMg)
  unfold State.startHoldCover
  dsimp only
  split
  all_goals exact moved

/-- A pick due issues no pulse that moves a sheet, or picks the SCHEDULED sheet of its handle (R66, R67). -/
def PicksOrNot (s : State) (h : Handle) (t : State) : Prop :=
  t.sheetPulses = [] ∨ (s.run.state = .running ∧ s.drive.state = .locked
    ∧ ∃ sh sh', s.lines.trayEmpty[sh.plan.tray] = false ∧ t.pulses = [.pick sh.plan.tray]
        ∧ s.sheet h = some sh ∧ sh.state = .scheduled
        ∧ t.sheet h = some sh' ∧ sh'.state = .feeding ∧ sh'.plan = sh.plan)

theorem expirePick_pulses (s : State) (h : Handle) (due : Tick) (hp : s.pulses = []) :
    PicksOrNot s h (s.expirePick h due) := by
  unfold State.expirePick
  dsimp only
  split
  · exact .inl (by simp [State.sheetPulses, hp])
  next sh hs =>
  split
  next scheduled =>
    split
    · exact .inl (by simp [State.sheetPulses, hp])
    next paper =>
    split
    next locked =>
      obtain ⟨sh', after, rest⟩ := sheet_pick hs due
      refine .inr ⟨locked.1, locked.2, sh, sh', by simpa using paper, ?_, hs, scheduled, after, rest⟩
      simp [State.pick, hp, State.pulse]
    · exact .inl (by simp [State.sheetPulses, hp])
  · exact .inl (by simp [State.sheetPulses, hp])

theorem pickDue_pulses {s t : State} {h : Handle} (e : exec (.pickDue h) s = .next t) : PicksOrNot s h t := by
  cases e
  split
  · split
    · exact expirePick_pulses s.begin h _ rfl
    · exact .inl rfl
  · exact .inl rfl

/-- A release issues no pulse that moves a sheet, or releases the HELD sheet of its handle (R70). -/
def ReleasesOrNot (s : State) (h : Handle) (t : State) : Prop :=
  t.sheetPulses = [] ∨ ((s.run.state = .running ∨ s.run.state = .draining) ∧ s.drive.state = .locked
    ∧ t.pulses = [.holdRelease]
    ∧ ∃ sh sh', s.sheet h = some sh ∧ sh.state = .held
        ∧ t.sheet h = some sh' ∧ sh'.state = .returning ∧ sh'.pass = 2 ∧ sh'.plan = sh.plan)

theorem mayRelease_iff (s : State) :
    s.mayRelease = true ↔ (s.run.state = .running ∨ s.run.state = .draining) ∧ s.drive.state = .locked := by
  simp [State.mayRelease]

theorem releasesOrNot_release {s : State} {h : Handle} {sh : Sheet} (hp : s.pulses = []) (may : s.mayRelease = true)
    (hs : s.sheet h = some sh) (held : sh.state = .held) : ReleasesOrNot s h (s.release h) := by
  obtain ⟨run, locked⟩ := (mayRelease_iff s).1 may
  obtain ⟨sh', after, rest⟩ := sheet_release hs
  refine .inr ⟨run, locked, ?_, sh, sh', hs, held, after, rest⟩
  simp [State.release, hp, State.pulse]

theorem expireRelease_pulses (s : State) (h : Handle) (hp : s.pulses = []) :
    ReleasesOrNot s h (s.expireRelease h) := by
  unfold State.expireRelease
  dsimp only
  split
  · exact .inl (by simp [State.sheetPulses, hp])
  next sh hs =>
  split
  next may =>
    unfold State.releaseBy
    split
    next held =>
      split
      · exact .inl (by simp [State.sheetPulses, hp])
      · dsimp only
        split
        · exact releasesOrNot_release hp may hs held
        · exact .inl (by simp [State.sheetPulses, hp])
    all_goals exact .inl (by simp [State.sheetPulses, hp])
  · exact .inl (by simp [State.sheetPulses, hp])

theorem expireLate_pulses (s : State) (h : Handle) (hp : s.pulses = []) : ReleasesOrNot s h (s.expireLate h) := by
  unfold State.expireLate
  dsimp only
  split
  · exact .inl (by simp [State.sheetPulses, hp])
  next sh hs =>
  split
  next may =>
    simp only [Bool.and_eq_true, beq_iff_eq] at may
    exact releasesOrNot_release hp may.1 hs may.2
  · exact .inl (by simp [State.sheetPulses, hp])

theorem mem_sheetPulses {s : State} {p : Pulse} (h : p ∈ s.pulses) (moves : p.movesSheet = true) :
    p ∈ s.sheetPulses := List.mem_filter.2 ⟨h, moves⟩

/-- A release due or a late release that is taken, or is not due. -/
theorem releasesOrNot_of_due {s u : State} {h : Handle} (p : Prop) [Decidable p]
    (k : ReleasesOrNot s.begin h u) :
    ReleasesOrNot s h (if p then u else s.begin).grant := by
  split
  · exact k
  · exact .inl rfl

/-- A command that issues HOLD RELEASE releases a HELD sheet. -/
theorem exec_holdRelease {c : Instr} {s t : State} (e : exec c s = .next t) (mem : .holdRelease ∈ t.pulses) :
    ∃ h, ReleasesOrNot s h t := by
  have moved := mem_sheetPulses mem rfl
  cases c with
  | pickDue h =>
    rcases pickDue_pulses e with none | ⟨-, -, sh, sh', -, pulse, -⟩
    · simp [none] at moved
    · simp [pulse] at mem
  | releaseDue h =>
    cases e
    exact ⟨h, releasesOrNot_of_due _ (expireRelease_pulses s.begin h rfl)⟩
  | lateRelease h =>
    cases e
    exact ⟨h, releasesOrNot_of_due _ (expireLate_pulses s.begin h rfl)⟩
  | _ => simp [exec_sheetPulses _ s t e (by simp) (by simp) (by simp)] at moved

/-- A command that issues PICK picks a SCHEDULED sheet. -/
theorem exec_pick {c : Instr} {s t : State} {tray : Tray} (e : exec c s = .next t) (mem : .pick tray ∈ t.pulses) :
    ∃ h, PicksOrNot s h t := by
  have moved := mem_sheetPulses mem rfl
  have released {h : Handle} (k : ReleasesOrNot s h t) : ∃ h, PicksOrNot s h t := by
    rcases k with none | ⟨-, -, pulse, -⟩
    · simp [none] at moved
    · simp [pulse] at mem
  cases c with
  | pickDue h => exact ⟨h, pickDue_pulses e⟩
  | releaseDue h =>
    cases e
    exact released (releasesOrNot_of_due _ (expireRelease_pulses s.begin h rfl))
  | lateRelease h =>
    cases e
    exact released (releasesOrNot_of_due _ (expireLate_pulses s.begin h rfl))
  | _ => simp [exec_sheetPulses _ s t e (by simp) (by simp) (by simp)] at moved

/-- Settles O13: by the command of the step; only the expiries of a sheet's timers move a sheet. -/
theorem pulsesOnlyWhileLocked : Obligations.PulsesOnlyWhileLocked := by
  refine ⟨fun s t tray h mem => ?_, fun s t h mem => ?_⟩
  · rcases step_cases h with ⟨c, l, e⟩ | rfl
    · obtain ⟨y, none | ⟨run, locked, sh, sh', paper, pulse, sheet, scheduled, after⟩⟩ := exec_pick e mem
      · exact absurd (mem_sheetPulses mem rfl) (by simp [none])
      · obtain rfl : tray = sh.plan.tray := by simpa [pulse] using mem
        exact ⟨run, locked, paper, y, sh, sh', sheet, scheduled, rfl, after⟩
    · simp [State.idleTick] at mem
  · rcases step_cases h with ⟨c, l, e⟩ | rfl
    · obtain ⟨y, none | ⟨run, locked, -, moved⟩⟩ := exec_holdRelease e mem
      · exact absurd (mem_sheetPulses mem rfl) (by simp [none])
      · exact ⟨run, locked, y, moved⟩
    · simp [State.idleTick] at mem

end Sys2Proof.Proofs.CommandFrames

/-! Admission (chapter 4): the slot search, one evaluation by its outcome, and the passing of a slot; the statements
O20, O21 and O37. -/

namespace Sys2Proof.Proofs.Admission
open Sys2Proof Sys2Proof.Machine Sys2Proof.Proofs.CommandFrames

/-! ## The first index with a property -/

theorem indices_eq (n : Nat) : indices n = List.finRange n := by
  exact tabulateList_eq n id

theorem firstIndex_eq_none {n : Nat} {p : Fin n → Bool} : firstIndex n p = none ↔ ∀ i, p i = false := by
  simp [firstIndex, indices_eq]

theorem firstIndex_eq_some {n : Nat} {p : Fin n → Bool} {i : Fin n} :
    firstIndex n p = some i ↔ p i = true ∧ ∀ j < i, p j = false := by
  simp only [firstIndex, indices_eq, List.find?_eq_some_iff_getElem, List.length_finRange, List.getElem_finRange,
    Fin.cast_mk, Bool.not_eq_eq_eq_not, Bool.not_true]
  refine and_congr_right fun _ => ⟨?_, fun h => ⟨i.val, i.isLt, rfl, fun j hj => h ⟨j, by omega⟩ hj⟩⟩
  rintro ⟨k, hk, rfl, h⟩ j hj
  exact h j.val hj

/-! ## The slot search (R62) -/

section
variable {g : Grid} {now : Tick} {last : Option Bounds} {x : PlanEntry}

theorem slotFree_iff {slot : Nat} :
    g.slotFree slot = true ↔ g.current ≤ slot ∧ g.ring[slot - g.current]? = some .free := by
  simp [Grid.slotFree]

/-- A FREE slot of a ring of 32 entries lies within it. -/
theorem le_of_free (hr : g.ring.length = 32) {slot : Nat}
    (free : g.ring[slot - g.current]? = some .free) : slot ≤ g.current + 31 := by
  have := (List.getElem?_eq_some_iff.1 free).1
  omega

/-- The pick time and order checks against the bounds of the last admission. -/
theorem bounds_iff {slot : Nat} :
    (pickTimeFits now last (g.pickDue slot x.tray) && orderFits g last x slot (g.finalSlot x slot)) = true ↔
      notEarlier (g.pickDue slot x.tray) now = true
        ∧ ∀ b, last = some b → laterThan (g.pickDue slot x.tray) b.pickDue = true ∧ b.front < slot
          ∧ b.final < g.finalSlot x slot ∧ (x.k = 1 → x.mode = .set → b.final + g.setGap ≤ g.finalSlot x slot) := by
  cases last with
  | none => simp [pickTimeFits, orderFits]
  | some b =>
    simp only [pickTimeFits, orderFits, Bool.and_eq_true, decide_eq_true_eq, Bool.not_eq_eq_eq_not, Bool.not_true,
      Bool.and_eq_false_imp, beq_iff_eq, decide_eq_false_iff_not, Nat.not_lt, Option.some.injEq, forall_eq']
    tauto

theorem qualifies_iff_fits (hr : g.ring.length = 32) {slot : Nat} :
    g.qualifies now last x slot = true ↔ g.Fits now last x slot := by
  have checks : g.qualifies now last x slot = true ↔
      (notEarlier (g.pickDue slot x.tray) now = true
        ∧ ∀ b, last = some b → laterThan (g.pickDue slot x.tray) b.pickDue = true ∧ b.front < slot
          ∧ b.final < g.finalSlot x slot ∧ (x.k = 1 → x.mode = .set → b.final + g.setGap ≤ g.finalSlot x slot))
        ∧ (g.current ≤ slot ∧ g.ring[slot - g.current]? = some .free)
        ∧ (g.current ≤ g.finalSlot x slot ∧ g.ring[g.finalSlot x slot - g.current]? = some .free) := by
    rw [← bounds_iff, ← slotFree_iff, ← slotFree_iff]
    simp only [Grid.qualifies, Bool.and_eq_true, and_assoc]
  rw [checks]
  constructor
  · rintro ⟨⟨due, order⟩, ⟨low, free⟩, low', free'⟩
    exact ⟨due, order, low, le_of_free hr free, free, low', le_of_free hr free', free'⟩
  · rintro ⟨due, order, low, -, free, low', -, free'⟩
    exact ⟨⟨due, order⟩, ⟨low, free⟩, low', free'⟩

theorem search_eq_none_iff (hr : g.ring.length = 32) :
    g.search now last x = none ↔ ∀ slot, ¬ g.Fits now last x slot := by
  simp only [Grid.search, Option.map_eq_none_iff, firstIndex_eq_none]
  refine ⟨fun none slot fits => ?_, fun none i => ?_⟩
  · have ⟨_, _, low, high, _⟩ := fits
    have fails := none ⟨slot - g.current, by omega⟩
    simp only [Nat.add_sub_cancel' low, ← Bool.not_eq_true, qualifies_iff_fits hr] at fails
    exact fails fits
  · rw [← Bool.not_eq_true, qualifies_iff_fits hr]
    exact none _

theorem search_eq_some_iff (hr : g.ring.length = 32) {slot : Nat} :
    g.search now last x = some slot ↔ g.Fits now last x slot ∧ ∀ other, g.Fits now last x other → slot ≤ other := by
  simp only [Grid.search, Option.map_eq_some_iff, firstIndex_eq_some, ← Bool.not_eq_true, qualifies_iff_fits hr]
  constructor
  · rintro ⟨i, ⟨fits, first⟩, rfl⟩
    refine ⟨fits, fun other hother => ?_⟩
    have ⟨_, _, low, high, _⟩ := hother
    by_contra below
    have := first ⟨other - g.current, by omega⟩ (by simp only [Fin.lt_def]; omega)
    rw [Nat.add_sub_cancel' low] at this
    exact this hother
  · rintro ⟨fits, least⟩
    have ⟨_, _, low, high, _⟩ := fits
    refine ⟨⟨slot - g.current, by omega⟩, ?_, Nat.add_sub_cancel' low⟩
    simp only [Nat.add_sub_cancel' low]
    refine ⟨fits, fun j hj other => ?_⟩
    have := least _ other
    simp only [Fin.lt_def] at hj
    omega

end

/-- Settles O20: the search runs over the 32 slots of the ring, and every fitting slot is one of them. -/
theorem slotSearchRule : Obligations.SlotSearchRule := fun _ _ _ _ hr =>
  ⟨fun _ => search_eq_some_iff hr, search_eq_none_iff hr⟩

/-! ## One evaluation (R61, R64, R65) -/

theorem evaluate_of_waits {s : State} {r : WaitReason} (h : s.evaluation = .waits r) :
    s.evaluate = s.setWaitReason r := by
  simp [State.evaluate, State.evaluateTimes, h]

/-- Outside RUNNING, with no grid or with the drive not LOCKED there is no admission (R65). -/
theorem evaluation_notRunning {s : State}
    (h : s.scheduler.grid = none ∨ s.run.state ≠ .running ∨ s.drive.state ≠ .locked) :
    s.evaluation = .waits .notRunning := by
  unfold State.evaluation
  split
  · rfl
  · next g hg =>
    refine if_neg fun both => ?_
    rcases h with none | run | drive
    · simp [none] at hg
    · exact run both.1
    · exact drive both.2

theorem evaluation_running {s : State} {g : Grid} (hg : s.scheduler.grid = some g) (hr : s.run.state = .running)
    (hd : s.drive.state = .locked) : s.evaluation = s.evaluateHead g s.plan.queue := by
  simp [State.evaluation, hg, hr, hd]

theorem freeHandle_eq_none {s : State} : s.freeHandle = none ↔ ∀ h, s.sheet h ≠ none := by
  simp [State.freeHandle, firstIndex_eq_none, Option.isNone_eq_false_iff, Option.isSome_iff_ne_none]

theorem freeHandle_eq_some {s : State} {h : Handle} :
    s.freeHandle = some h ↔ s.sheet h = none ∧ ∀ k < h, s.sheet k ≠ none := by
  simp [State.freeHandle, firstIndex_eq_some, Option.isNone_eq_false_iff, Option.isSome_iff_ne_none]

/-- The head of the queue, by the first condition that fails (R65). -/
theorem evaluateHead_cons (s : State) (g : Grid) (x : PlanEntry) (rest : List PlanEntry) :
    s.evaluateHead g (x :: rest) =
      if s.run.holds.any = true ∨ s.lines.trayEmpty[x.tray] = true then .waits .hold
      else match s.freeHandle with
        | none => .waits .liveLimit
        | some h =>
          if s.logFree < s.liveCount + s.output.set.members.length + 8 then .waits .logReserve
          else match g.search s.tick s.scheduler.admissionBounds x with
            | none => .waits .horizon
            | some front => .admits g x rest h front := by
  simp only [State.evaluateHead, Bool.or_eq_true, State.reserveAllows, Bool.not_eq_eq_eq_not, Bool.not_true,
    decide_eq_false_iff_not, Nat.not_le] <;> rfl

/-! ## An admission (R63) -/

/-- The number of FREE handles. -/
def freeHandles (s : State) : Finset Handle := Finset.univ.filter (fun h => s.sheet h = none)

theorem sheet_admitHead (s : State) (g : Grid) (x : PlanEntry) (rest : List PlanEntry) (h : Handle) (front : Nat)
    (k : Handle) : (s.admitHead g x rest h front).sheet k = if k = h then some (admittedSheet g x front) else s.sheet k := by
  split
  · next e => exact e ▸ State.sheet_putSheet (s.setPlan { s.plan with queue := rest }) h _
  · next e => exact State.sheet_putSheet_other (s.setPlan { s.plan with queue := rest }) h k _ e

theorem timers_admitHead (s : State) (g : Grid) (x : PlanEntry) (rest : List PlanEntry) (h : Handle) (front : Nat)
    (k : Handle) : (s.admitHead g x rest h front).timers k = if k = h then g.admissionTimers x front else s.timers k := by
  split
  · next e => exact e ▸ put_same _ _ _
  · next e => exact put_other _ _ _ _ e

theorem freeHandles_admitHead (s : State) (g : Grid) (x : PlanEntry) (rest : List PlanEntry) (h : Handle)
    (front : Nat) (free : s.sheet h = none) :
    (freeHandles (s.admitHead g x rest h front)).card < (freeHandles s).card := by
  refine Finset.card_lt_card ⟨fun k hk => ?_, fun sub => ?_⟩
  · simp only [freeHandles, Finset.mem_filter, Finset.mem_univ, true_and, sheet_admitHead] at hk ⊢
    split at hk
    · cases hk
    · exact hk
  · have := sub (Finset.mem_filter.2 ⟨Finset.mem_univ h, free⟩)
    simp [freeHandles, sheet_admitHead] at this

/-- An admission names a FREE handle. -/
theorem free_of_admits {s : State} {g : Grid} {x : PlanEntry} {rest : List PlanEntry} {h : Handle} {front : Nat}
    (e : s.evaluation = .admits g x rest h front) : s.sheet h = none := by
  unfold State.evaluation at e
  split at e
  · cases e
  · split at e
    · cases hq : s.plan.queue with
      | nil => simp [hq, State.evaluateHead] at e
      | cons y ys =>
        rw [hq, evaluateHead_cons] at e
        split at e
        · cases e
        · split at e
          · cases e
          · next k hk =>
            split at e
            · cases e
            · split at e
              · cases e
              · cases e
                exact (freeHandle_eq_some.1 hk).1
    · cases e

/-- Evaluations beyond the FREE handles let nothing more in (R64). -/
theorem evaluateTimes_succ (n : Nat) (s : State) (h : (freeHandles s).card < n) :
    s.evaluateTimes (n + 1) = s.evaluateTimes n := by
  induction n generalizing s with
  | zero => omega
  | succ n ih =>
    rw [State.evaluateTimes, State.evaluateTimes]
    cases e : s.evaluation with
    | waits r => rfl
    | admits g x rest k front =>
      have fewer := freeHandles_admitHead s g x rest k front (free_of_admits e)
      exact ih _ (by omega)

/-- After an admission the evaluation goes on with the next head (R64). -/
theorem evaluate_of_admits {s : State} {g : Grid} {x : PlanEntry} {rest : List PlanEntry} {h : Handle} {front : Nat}
    (e : s.evaluation = .admits g x rest h front) : s.evaluate = (s.admitHead g x rest h front).evaluate := by
  have fewer := freeHandles_admitHead s g x rest h front (free_of_admits e)
  have most : (freeHandles s).card ≤ 16 := (Finset.card_le_univ _).trans (by simp)
  have once : s.evaluate = (s.admitHead g x rest h front).evaluateTimes 16 := by
    simp only [State.evaluate, State.evaluateTimes, e]
  rw [once]
  exact (evaluateTimes_succ 16 _ (by omega)).symm

/-- The ring after an admission: BACK at the back slot of a DUPLEX sheet, FRONT at the front slot, else as before. -/
theorem ring_admitHead {g : Grid} {now : Tick} {last : Option Bounds} {x : PlanEntry} {h : Handle} {front : Nat}
    (e : g.search now last x = some front) (i : Nat) :
    (g.admitHead x h front).ring[i]? =
      if x.sides = .duplex ∧ g.current + i = front + g.loopPitches then some (.back h)
      else if g.current + i = front then some (.front h)
      else g.ring[i]? := by
  obtain ⟨j, first, rfl⟩ := Option.map_eq_some_iff.1 e
  have qualifies := (firstIndex_eq_some.1 first).1
  simp only [Grid.qualifies, Bool.and_eq_true, slotFree_iff] at qualifies
  obtain ⟨⟨-, low, free⟩, low', free'⟩ := qualifies
  have inRing := (List.getElem?_eq_some_iff.1 free).1
  have inRing' := (List.getElem?_eq_some_iff.1 free').1
  cases hs : x.sides with
  | simplex =>
    simp only [Grid.admitHead, hs, Grid.reserve, List.getElem?_set]
    grind
  | duplex =>
    simp only [Grid.finalSlot, hs] at low' inRing'
    simp only [Grid.admitHead, hs, Grid.reserve, List.getElem?_set, List.length_set]
    grind

theorem admitHead_keeps (s : State) (g : Grid) (x : PlanEntry) (rest : List PlanEntry) (h : Handle) (front : Nat) :
    KeepsBut [.plan, .scheduler, .tracker] s (s.admitHead g x rest h front) := by
  simp [keepsBut_iff]

/-- Settles O21: each waiting reason by the conditions before it, and an admission by its parts. -/
theorem admissionEvaluated : Obligations.AdmissionEvaluated := by
  refine ⟨fun s => ⟨fun h => evaluate_of_waits (evaluation_notRunning h), fun g hg hr hd => ⟨fun hq => ?_, fun x rest hq => ?_⟩⟩,
    fun s g x rest h front hg hr hd hq hold paper free first room found => ?_⟩
  · exact evaluate_of_waits (by rw [evaluation_running hg hr hd, hq, State.evaluateHead])
  · have head : s.evaluation = _ := (evaluation_running hg hr hd).trans (hq ▸ evaluateHead_cons s g x rest)
    refine ⟨fun hold => evaluate_of_waits (by rw [head, if_pos hold]), fun hold paper => ?_⟩
    rw [if_neg (by simp [hold, paper])] at head
    refine ⟨fun full => evaluate_of_waits (by rw [head, freeHandle_eq_none.2 full]), fun some => ?_⟩
    obtain ⟨h, hh⟩ := Option.ne_none_iff_exists'.1 fun none => by
      obtain ⟨k, hk⟩ := some
      exact freeHandle_eq_none.1 none k hk
    rw [hh] at head
    exact ⟨fun few => evaluate_of_waits (by simp only [head, if_pos few]), fun room none =>
      evaluate_of_waits (by simp only [head, if_neg (Nat.not_lt.2 room), none])⟩
  · have admits : s.evaluation = .admits g x rest h front := by
      rw [evaluation_running hg hr hd, hq, evaluateHead_cons, if_neg (by simp [hold, paper]),
        freeHandle_eq_some.2 ⟨free, first⟩]
      simp only [if_neg (Nat.not_lt.2 room), found]
    dsimp only
    refine ⟨s.admitHead g x rest h front, (g.admitHead x h front).ring, rfl, ?_, fun k hk => ?_, ?_, fun i => ?_, ?_,
      fun k hk => ?_, rfl, rfl, admitHead_keeps s g x rest h front, evaluate_of_admits admits⟩
    · rw [sheet_admitHead, if_pos rfl]
      cases hs : x.sides <;> simp [admittedSheet, Grid.finalSlot, hs]
    · rw [sheet_admitHead, if_neg hk]
    · cases hs : x.sides <;>
        simp [State.admitHead, Grid.admitHead, Grid.reserve, Grid.finalSlot,
        Grid.pickDue, Grid.transfer, after, hs]
    · exact ring_admitHead found i
    · rw [timers_admitHead, if_pos rfl]
      cases hs : x.sides <;>
        simp [Grid.admissionTimers, Grid.pickDue, Grid.releaseDue, Grid.transfer, after, hs]
    · rw [timers_admitHead, if_neg hk]

/-! ## Evaluations and the begin of a command -/

/-- An evaluation looks at neither the pulses nor the counter of free values. -/
theorem evaluateTimes_begin (n : Nat) (s : State) : s.begin.evaluateTimes n = (s.evaluateTimes n).begin := by
  induction n generalizing s with
  | zero => rfl
  | succ n ih =>
    have head (g : Grid) (q : List PlanEntry) : s.begin.evaluateHead g q = s.evaluateHead g q := by cases q <;> rfl
    have same : s.begin.evaluation = s.evaluation := by simp only [State.evaluation, State.begin_keeps, head]
    rw [State.evaluateTimes, State.evaluateTimes, same]
    cases s.evaluation with
    | waits r => rfl
    | admits g x rest h front => exact ih (s.admitHead g x rest h front)

theorem evaluate_begin (s : State) : s.begin.evaluate = s.evaluate.begin := evaluateTimes_begin 17 s

/-- An event that ends with an evaluation of admission, and does nothing else after `u`. -/
theorem evaluatedAs_begin (u : State) : EvaluatedAs u u.begin.evaluate.grant := by
  refine ⟨?_, ?_, ?_, by simp [State.grant], by simp, by simp [keepsBut_iff]⟩
  all_goals rw [evaluate_begin]; rfl

/-! ## The passing of a slot (R58, R59) -/

/-- The ring after a passing: every entry moves up by one, and the last is FREE. -/
theorem ring_pass {g : Grid} (hr : g.ring.length = 32) :
    g.pass.ring.length = 32 ∧ g.pass.ring[31]? = some .free ∧ ∀ i, i < 31 → g.pass.ring[i]? = g.ring[i + 1]? := by
  have short : g.ring.tail.length = 31 := by simp [hr]
  refine ⟨by simp [Grid.pass, short], ?_, fun i hi => ?_⟩
  · show (g.ring.tail ++ [RingEntry.free])[31]? = _
    rw [List.getElem?_append_right (by omega), short]
    rfl
  · show (g.ring.tail ++ [RingEntry.free])[i]? = _
    rw [List.getElem?_append_left (by omega), List.getElem?_tail]

theorem duePass_eq {s : State} {g : Grid} (hg : s.scheduler.grid = some g) :
    s.duePass = if notEarlier s.tick (g.transfer g.current) then some g else none := by
  simp [State.duePass, hg]

/-- Settles O37: a due passing moves the grid on and evaluates admission; one not due is not taken. -/
theorem slotPassing : Obligations.SlotPassing := by
  refine fun s g hg => ⟨fun due => ⟨_, g.pass.ring, rfl, ?_, ring_pass⟩, fun early => ⟨_, rfl, ?_⟩⟩
  · have passes : s.begin.duePass = some g := (duePass_eq (s := s.begin) hg).trans (if_pos due)
    rw [passes]
    exact evaluatedAs_begin (s.setScheduler { s.scheduler with grid := some g.pass })
  · have stays : s.begin.duePass = none :=
      (duePass_eq (s := s.begin) hg).trans (if_neg (Bool.eq_false_iff.1 early))
    rw [stays]
    exact actsOn_begin [] s

end Sys2Proof.Proofs.Admission

/-! Steps, resets and the lines without an effect but their level: the statements O1 to O4 and O22. -/

namespace Sys2Proof.Proofs.Basics
open Sys2Proof Sys2Proof.Machine Sys2Proof.Proofs.Invariants Sys2Proof.Proofs.CommandFrames

/-! ## Steps -/

/-- Settles O1: the model's step is defined by the front of the queue. -/
theorem stepRunsFrontCommand : Obligations.StepRunsFrontCommand := fun _ _ _ => rfl

/-- The expiry chosen among several is one of them (R2). -/
theorem chooseDue_mem (s : State) (c : Instr) (cs : List Instr) : chooseDue s c cs ∈ c :: cs := by
  cases cs with
  | nil => simp [chooseDue]
  | cons d ds =>
    have bound : Config.expiryChoice s.freeCount % ((d :: ds).length + 1) < (c :: d :: ds).length :=
      Nat.mod_lt _ (by simp)
    rw [chooseDue, List.getD_eq_getElem?_getD, List.getElem?_eq_getElem bound]
    exact List.getElem_mem bound

/-- Settles O2: an idle part takes a due expiry, or ticks. -/
theorem stepWithNothingWaiting : Obligations.StepWithNothingWaiting := by
  intro s none
  have idle : step s = s.idle := by simp [step, none]
  rw [idle, State.idle]
  refine ⟨fun due => ?_, fun due => ?_⟩
  · obtain ⟨c, cs, e⟩ := List.exists_cons_of_ne_nil due
    rw [e]
    exact ⟨_, chooseDue_mem s c cs, rfl⟩
  · rw [due]
    exact ⟨_, rfl, rfl, rfl, by simp [keepsBut_iff, State.idleTick]⟩

/-! ## Resets (R136) -/

theorem getElem_replicate {α : Type} {n : Nat} (x : α) (i : Fin n) : (Vector.replicate n x)[i] = x := by
  rw [Fin.getElem_fin, Vector.getElem_replicate]

theorem noHolds : FeedHolds.empty.any = false := by decide

theorem sensor_powerReset (s : State) (x : Sensor) : s.powerReset.sensor x = (s.sensor x).powerReset :=
  tabulate_get _ _

/-- Every block has the value of POWER RESET in a state that has the blocks of the reset state, its sensors apart. -/
theorem atPowerReset_of_blocks {t : State} (tick : t.tick = 0) (config : t.config = none)
    (plan : t.plan = PlanIntake.reset) (buffers : t.buffers = Residency.reset) (scheduler : t.scheduler = Scheduler.reset)
    (timing : t.tracker.timing = none) (sheets : t.tracker.sheets = Vector.replicate 16 none)
    (sensors : ∀ x, (t.sensor x).coverTimer = none ∧ (t.sensor x).expectations = [])
    (output : t.output = OutputUnit.reset) (drive : t.drive = Drive.reset) (run : t.run = RunControl.reset)
    (log : t.log = LogWriter.reset) (attention : t.attention = Attention.reset)
    (junction : t.junction = Junction.reset) : t.AtPowerReset := by
  have buffer (b : BufferNo) : t.buffer b = Buffer.free := by
    simp only [State.buffer, buffers, Residency.reset, getElem_replicate]
  have timers (h : Handle) : t.timers h = SheetTimers.none := by
    simp only [State.timers, scheduler, Scheduler.reset, getElem_replicate]
  have sheet (h : Handle) : t.sheet h = none := by simp only [State.sheet, sheets, getElem_replicate]
  unfold State.AtPowerReset
  simp only [buffer, timers, sheet, tick, config, plan, buffers, scheduler, timing, output, drive, run, log, attention,
    junction]
  simp only [PlanIntake.reset, Residency.reset, Scheduler.reset, OutputUnit.reset, Drive.reset, RunControl.reset,
    LogWriter.reset, Attention.reset, Junction.reset, SetRecord.empty, SheetTimers.none, Buffer.free, noHolds]
  simp [sensors]

/-- Settles O3: both states have the blocks of the reset state; POWER RESET keeps each line and covers. -/
theorem powerResetValues : Obligations.PowerResetValues := by
  refine ⟨atPowerReset_of_blocks rfl rfl rfl rfl rfl rfl rfl (fun x => ?_) rfl rfl rfl rfl rfl rfl,
    fun s => ⟨_, rfl, ?_, rfl, ?_, fun x => ?_⟩⟩
  · have clear : State.reset.sensor x = SensorRecord.clear := getElem_replicate _ x.index
    rw [clear]
    exact ⟨rfl, rfl⟩
  · refine atPowerReset_of_blocks rfl rfl rfl rfl rfl rfl rfl (fun x => ?_) rfl rfl rfl rfl rfl rfl
    have reset : s.begin.powerReset.grant.sensor x = (s.sensor x).powerReset := sensor_powerReset s.begin x
    rw [reset]
    exact ⟨rfl, rfl⟩
  · simp [keepsBut_iff, pathBlocks, State.powerReset]
  · have reset : s.begin.powerReset.grant.sensor x = (s.sensor x).powerReset := sensor_powerReset s.begin x
    rw [reset]
    exact ⟨rfl, rfl⟩

/-- Settles O4: the reset state meets each invariant, block by block. -/
theorem resetMeetsInvariants : Obligations.ResetMeetsInvariants := by
  have drive : Drive.reset.Sound := by
    simp [Drive.Sound, Drive.reset, DriveState.powered, DriveState.seeking]
  have junction : Junction.reset.Sound := ⟨rfl, rfl, rfl⟩
  refine ⟨rfl, drive, ⟨rfl, rfl⟩, fun b => ?_, iff_of_true rfl rfl, (nomatch ·), junction,
    iff_of_false (nomatch ·) (nomatch ·)⟩
  have free : State.reset.buffers.table[b] = Buffer.free := getElem_replicate _ b
  rw [free]
  rfl

/-! ## Lines (chapters 5, 6 and 8) -/

theorem trayEmpty_setTrayEmpty (s : State) (k j : Tray) (level : Bool) :
    (s.setTrayEmpty k level).lines.trayEmpty[j] = if k = j then level else s.lines.trayEmpty[j] := put_get _ _ _ _

/-- Settles O22: each of the three edges sets its line alone, and an edge to the level a line has is not taken. -/
theorem linesFollowed : Obligations.LinesFollowed := by
  refine ⟨fun s => ⟨fun k => ⟨_, rfl, actsOn_of_effect (by simp [keepsBut_iff]) rfl rfl, ?_, fun j hj => ?_, rfl⟩,
      ⟨_, rfl, actsOn_of_effect (by simp [keepsBut_iff]) rfl rfl, rfl⟩,
      ⟨_, rfl, actsOn_of_effect (by simp [keepsBut_iff]) rfl rfl, rfl⟩⟩,
    fun s => ⟨fun h => ⟨_, rfl, ?_⟩, fun h => ⟨_, rfl, ?_⟩, fun x h => ⟨_, rfl, ?_⟩, fun x h => ⟨_, rfl, ?_⟩,
      fun k h => ⟨_, rfl, ?_⟩, fun b h => ⟨_, rfl, ?_⟩, fun b h => ⟨_, rfl, ?_⟩, fun b h => ⟨_, rfl, ?_⟩⟩⟩
  · exact (trayEmpty_setTrayEmpty s.begin k k true).trans (if_pos rfl)
  · exact (trayEmpty_setTrayEmpty s.begin k j true).trans (if_neg (Ne.symm hj))
  · rw [if_pos (show s.begin.lines.coverOpen = true from h)]
    exact actsOn_begin [] s
  · rw [if_pos (show s.begin.lines.imageFault = true from h)]
    exact actsOn_begin [] s
  · rw [if_pos (show (s.begin.sensor x).covered = true from h)]
    exact actsOn_begin [] s
  · rw [if_neg (show ¬ (s.begin.sensor x).covered = true from Bool.eq_false_iff.1 h)]
    exact actsOn_begin [] s
  · rw [if_neg (show ¬ s.begin.lines.trayEmpty[k] = true from Bool.eq_false_iff.1 h)]
    exact actsOn_begin [] s
  · rw [if_pos (show s.begin.lines.stackerFull .k1 = b from h)]
    exact actsOn_begin [] s
  · rw [if_pos (show s.begin.lines.stackerFull .k2 = b from h)]
    exact actsOn_begin [] s
  · rw [if_pos (show s.begin.lines.purgeFull = b from h)]
    exact actsOn_begin [] s

end Sys2Proof.Proofs.Basics

/-! The resets and covers that stop a run: the statements O23 and O24. -/

namespace Sys2Proof.Proofs.Stops
open Sys2Proof Sys2Proof.Machine Sys2Proof.Proofs.CommandFrames

/-! ## ENGINE RESET (R151) -/

theorem abandonCommand_run (s : State) : s.abandonCommand.run = s.run.abandoned := by
  unfold State.abandonCommand RunControl.abandoned
  split <;> rfl

/-- An abandoned command's operation is marked in the queue, and the write of IDLE is asked for. -/
theorem abandonCommand_junction (s : State) : s.abandonCommand.junction = if s.run.command = .accepted then
    { s.junction with agentQueue := s.junction.agentQueue.map RecordOp.abandon ++ [.commandAbandon] }
    else s.junction := by
  unfold State.abandonCommand
  split <;> rfl

/-- Settles O23: the command is abandoned before the report, and the summary and latch are cleared after it. -/
theorem engineResetEffect : Obligations.EngineResetEffect := by
  intro s
  have begun : KeepsBut [.run, .junction, .pulses] s s.begin := by simp [keepsBut_iff]
  refine ⟨s.begin.abandonCommand, s.begin.abandonCommand.report (Report.bare .engineReset), _, rfl, by simp,
    abandonCommand_run s.begin, (abandonCommand_junction s.begin).trans ?_, by simp [keepsBut_iff],
    reported _ _, rfl, rfl, ?_, by simp [keepsBut_iff, State.engineReset]⟩
  · have abandon : RecordOp.abandon = fun op => match op with
        | .commandOp _ => .commandOp true
        | op => op := by
      funext op
      cases op <;> rfl
    rw [abandon]
    rfl
  · have guard : s.begin.engineReset.junction.guardOn = s.junction.guardOn := by
      have reset : (s.begin.abandonCommand.report (Report.bare .engineReset)).junction.rest
          = s.begin.abandonCommand.junction.rest := by simp
      have abandoned : s.begin.abandonCommand.junction.rest = s.begin.junction.rest := by simp
      simp only [State.engineReset, State.clearLatch, State.clearE_keeps, State.setJunction_junction]
      exact (Invariants.guardOn_of_rest reset).trans (Invariants.guardOn_of_rest abandoned)
    exact (Invariants.grant_guardOn _).trans guard

/-! ## COVER OPEN (R149) -/

/-- The state in which an assertion of COVER OPEN takes effect. -/
def coverOpened (s : State) : State := s.begin.setLines { s.lines with coverOpen := true }

theorem exec_coverOpen {s : State} (h : s.lines.coverOpen = false) :
    exec .coverOpen s = .next (coverOpened s).openCover.grant := by
  show Host.Outcome.next (if s.begin.lines.coverOpen then _ else _ : State).grant = _
  rw [if_neg (show ¬ s.begin.lines.coverOpen = true from Bool.eq_false_iff.1 h)]
  rfl

theorem openCover_inactive {s : State} (h : s.run.state = .inactive) : s.openCover = s := by
  simp [State.openCover, h]

theorem openCover_stopping {s : State} (h : s.run.state = .stopping) :
    s.openCover = (s.laterCause (Report.bare .coverOpen)).coverSet.expireGrace := by
  simp [State.openCover, h]

theorem openCover_other {s : State} (h : s.run.state ≠ .inactive) (h' : s.run.state ≠ .stopping) :
    s.openCover = (s.report (Report.bare .coverOpen)).coverSet := by
  unfold State.openCover
  split
  · next e => exact absurd e h
  · next e => exact absurd e h'
  · rfl

/-- Settles O24: by the run state in which the cover opens. -/
theorem coverOpenEffect : Obligations.CoverOpenEffect := by
  intro s closed
  refine ⟨coverOpened s, _, exec_coverOpen closed, rfl, rfl,
    by simp [keepsBut_iff, coverOpened], fun h => ?_, fun h => ?_, fun h h' => ?_⟩
  · rw [openCover_inactive (s := coverOpened s) h]
    exact granted _
  · rw [openCover_stopping (s := coverOpened s) h]
    exact ⟨_, _, _, rfl, by simp [keepsBut_iff, State.laterCause], coversSet _, graceEnds _, granted _⟩
  · rw [openCover_other (s := coverOpened s) h h']
    exact ⟨_, _, reported _ _, coversSet _, granted _⟩

end Sys2Proof.Proofs.Stops

/-! Leading edges (chapter 5): which state an edge is judged in, strays and collisions, and matched edges; the
statements O25, O26 and O29. -/

namespace Sys2Proof.Proofs.Edges
open Sys2Proof Sys2Proof.Machine Sys2Proof.Proofs.CommandFrames

/-! ## The live sheets -/

theorem mem_sheets {s : State} {x : Option Sheet} : x ∈ s.tracker.sheets.toList ↔ ∃ h, s.sheet h = x := by
  rw [Vector.mem_toList_iff, Vector.mem_iff_getElem]
  exact ⟨fun ⟨i, hi, e⟩ => ⟨⟨i, hi⟩, e⟩, fun ⟨h, e⟩ => ⟨h.val, h.isLt, e⟩⟩

theorem anyHeld_iff {s : State} : s.anyHeld = true ↔ ∃ h sh, s.sheet h = some sh ∧ sh.state = .held := by
  unfold State.anyHeld State.anySheet
  rw [List.any_eq_true]
  constructor
  · rintro ⟨_ | sh, mem, held⟩
    · exact nomatch held
    · obtain ⟨h, at_h⟩ := mem_sheets.1 mem
      exact ⟨h, sh, at_h, by simpa using held⟩
  · rintro ⟨h, sh, at_h, held⟩
    exact ⟨some sh, mem_sheets.2 ⟨h, at_h⟩, by simpa using held⟩

/-- The sequence named for a collision at LH is that of a HELD sheet (R97). -/
theorem heldSequence_of_anyHeld {s : State} (held : s.anyHeld = true) :
    ∃ h sh, s.sheet h = some sh ∧ sh.state = .held ∧ s.heldSequence = some sh.plan.sequence := by
  obtain ⟨h, sh, at_h, state⟩ := anyHeld_iff.1 held
  have found : s.heldSequence.isSome = true := by
    rw [State.heldSequence, List.findSome?_isSome_iff]
    exact ⟨some sh, mem_sheets.2 ⟨h, at_h⟩, by simp [state]⟩
  obtain ⟨n, named⟩ := Option.isSome_iff_exists.1 found
  obtain ⟨_ | sh', mem, value⟩ := List.exists_of_findSome?_eq_some named
  · exact nomatch value
  · obtain ⟨h', at_h'⟩ := mem_sheets.1 mem
    dsimp only at value
    split at value
    · next state' => exact ⟨h', sh', at_h', state', by rw [named, value]⟩
    · exact nomatch value

/-! ## The state in which an edge is judged -/

theorem exec_leadingEdge {s : State} {x : Sensor} (clear : (s.sensor x).covered = false) :
    exec (.leadingEdge x) s = .next (s.begin.takeLeadingEdge x).grant := by
  show Host.Outcome.next (if (s.begin.sensor x).covered then _ else _ : State).grant = _
  rw [if_neg (show ¬ (s.begin.sensor x).covered = true from Bool.eq_false_iff.1 clear)]

theorem sensor_cover (s : State) (x : Sensor) (level : Bool) :
    (s.cover x level).sensor x = { s.sensor x with covered := level } := State.sensor_putSensor s x _

/-- What a state with a line's level followed holds for a leading edge to be judged against. -/
theorem takeLeadingEdge_of_not_collides {s : State} {x : Sensor}
    (free : s.run.state.judgesSheets = true → ¬ s.Collides x) :
    s.takeLeadingEdge x = (s.cover x true).judgeEdge x ((s.sensor x).head s.run.state.judgesSheets) := by
  have head : ((s.cover x true).sensor x).head s.run.state.judgesSheets
      = (s.sensor x).head s.run.state.judgesSheets := by rw [sensor_cover]; rfl
  unfold State.takeLeadingEdge
  dsimp only
  rw [head, if_neg, if_neg]
  · rintro ⟨at_ac, judged, flies⟩
    exact free judged (.inr ⟨at_ac, (flies_iff s.output.set).1 flies⟩)
  · rintro ⟨at_lh, judged, held⟩
    exact free judged (.inl ⟨at_lh, anyHeld_iff.1 held⟩)

/-- The cause of a collision at a sensor (R87, R88). -/
def collisionAt (x : Sensor) : Cause := if x = .LH then .holdCollision else .accumulatorCollision

theorem takeLeadingEdge_of_collides {s : State} {x : Sensor} (judged : s.run.state.judgesSheets = true)
    (met : s.Collides x) :
    ∃ other : Option Nat, s.takeLeadingEdge x = (s.cover x true).collide x (collisionAt x) other (s.sensor x).expectations.head?
      ∧ (x = .LH → ∃ h sh, s.sheet h = some sh ∧ sh.state = .held ∧ other = some sh.plan.sequence)
      ∧ (x = .AC → other = none) := by
  have head : ((s.cover x true).sensor x).head true = (s.sensor x).expectations.head? := by rw [sensor_cover]; rfl
  unfold State.takeLeadingEdge
  dsimp only
  rw [judged, head]
  rcases met with ⟨rfl, held⟩ | ⟨rfl, flies⟩
  · have any : (s.cover .LH true).anyHeld = true := anyHeld_iff.2 held
    obtain ⟨h, sh, at_h, state, named⟩ := heldSequence_of_anyHeld any
    refine ⟨(s.cover .LH true).heldSequence, ?_, fun _ => ⟨h, sh, at_h, state, named⟩, (nomatch ·)⟩
    rw [if_pos ⟨rfl, rfl, any⟩]
    rfl
  · refine ⟨none, ?_, (nomatch ·), fun _ => rfl⟩
    rw [if_neg (nomatch ·.1), if_pos ⟨rfl, rfl, (flies_iff (s.cover .AC true).output.set).2 flies⟩]
    rfl

/-! ## Edges by the phase of their head (R84) -/

section
variable {s : State} {x : Sensor} {e : Expectation}

theorem laterThan_eq_false {a b : Tick} (h : notEarlier b a = true) : laterThan a b = false := by
  simp only [notEarlier, laterThan, decide_eq_true_eq, decide_eq_false_iff_not, BitVec.toInt_eq_toNat_cond] at h ⊢
  bv_omega

theorem phase_within_iff {t : Tick} :
    e.phase t = .within ↔ laterThan e.opens t = false ∧ laterThan t e.closes = false := by
  unfold Expectation.phase
  cases laterThan e.opens t <;> cases laterThan t e.closes <;> simp

theorem judgeEdge_none_judged (judged : s.run.state.judgesSheets = true) :
    s.judgeEdge x none = (s.untrackedArrives x).fault .stray x none := if_pos judged

theorem judgeEdge_none_unjudged (judged : s.run.state.judgesSheets = false) :
    s.judgeEdge x none = s.untrackedArrives x := if_neg (Bool.eq_false_iff.1 judged)

theorem judgeEdge_early (early : laterThan e.opens s.tick = true) :
    s.judgeEdge x (some e) = (s.untrackedArrives x).fault .early x (some e.item) := by
  simp [State.judgeEdge, Expectation.phase, early]

/-- After its head's window an edge outside STOPPING is taken as one that nothing expects. -/
theorem judgeEdge_late (opened : laterThan e.opens s.tick = false) (late : laterThan s.tick e.closes = true)
    (outside : s.run.state ≠ .stopping) : s.judgeEdge x (some e) = s.judgeEdge x none := by
  simp [State.judgeEdge, Expectation.phase, opened, late, outside]

theorem judgeEdge_met (opened : laterThan e.opens s.tick = false)
    (met : laterThan s.tick e.closes = false ∨ s.run.state = .stopping) :
    s.judgeEdge x (some e) = s.matchEdge x e := by
  cases late : laterThan s.tick e.closes with
  | false => simp [State.judgeEdge, Expectation.phase, opened, late]
  | true => simp [State.judgeEdge, Expectation.phase, opened, late, met.resolve_left (by simp [late])]

end

/-! ## Paper that nothing expects -/

/-- The state with UNTRACKED paper arrived at a sensor (R79, R84). -/
def strayed (s : State) (x : Sensor) : State := s.putSensor x
  { s.sensor x with covered := true, occupant := .untracked, coverStart := s.tick, coverTimer := none }

theorem untrackedArrives_cover (s : State) (x : Sensor) :
    (s.begin.cover x true).untrackedArrives x = (strayed s x).begin := by
  unfold State.untrackedArrives
  rw [sensor_cover]
  exact State.putSensor_putSensor s.begin x _ _

theorem faultTaken (u : State) (c : Cause) (x : Sensor) (i : Option Item) :
    FaultTaken (u.reportOf c x i) u (u.begin.fault c x i).grant := ⟨_, _, begun u, faults u.begin c x i, granted _⟩

theorem reportTaken (u : State) (r : Report) : ReportTaken r u (u.begin.report r).grant :=
  ⟨_, _, begun u, reported u.begin r, granted _⟩

/-- UNTRACKED paper that is not reported changes its sensor alone. -/
theorem strayed_only (s : State) (x : Sensor) :
    (strayed s x).begin.grant.sensor x
        = { s.sensor x with covered := true, occupant := .untracked, coverStart := s.tick, coverTimer := none }
      ∧ (∀ y, y ≠ x → (strayed s x).begin.grant.sensor y = s.sensor y)
      ∧ (strayed s x).begin.grant.tracker.sheets = s.tracker.sheets
      ∧ ActsOn [.tracker] s (strayed s x).begin.grant :=
  ⟨State.sensor_putSensor s x _, fun y hy => State.sensor_putSensor_other s x y _ hy, rfl,
    actsOn_of_effect (by simp [keepsBut_iff, strayed]) rfl rfl⟩

section
variable {s : State} {x : Sensor}

theorem exec_leadingEdge_of_not_collides (clear : (s.sensor x).covered = false)
    (free : s.run.state.judgesSheets = true → ¬ s.Collides x) :
    exec (.leadingEdge x) s = .next ((s.begin.cover x true).judgeEdge x
      ((s.sensor x).head s.run.state.judgesSheets)).grant := by
  rw [exec_leadingEdge clear, takeLeadingEdge_of_not_collides (s := s.begin) free]
  rfl

theorem exec_leadingEdge_of_head {e : Option Expectation} (clear : (s.sensor x).covered = false)
    (free : s.run.state.judgesSheets = true → ¬ s.Collides x)
    (head : (s.sensor x).head s.run.state.judgesSheets = e) :
    exec (.leadingEdge x) s = .next ((s.begin.cover x true).judgeEdge x e).grant := by
  rw [exec_leadingEdge_of_not_collides clear free, head]

theorem head_judged (judged : s.run.state.judgesSheets = true) :
    (s.sensor x).head s.run.state.judgesSheets = (s.sensor x).expectations.head? := by rw [judged]; rfl

theorem head_unjudged (judged : s.run.state.judgesSheets = false) :
    (s.sensor x).head s.run.state.judgesSheets
      = (s.sensor x).expectations.find? (fun f => f.item == .set) := by rw [judged]; rfl

theorem stray_faultTaken (judged : s.run.state.judgesSheets = true) :
    FaultTaken ⟨.stray, some x, none, false⟩ (strayed s x) ((s.begin.cover x true).judgeEdge x none).grant := by
  rw [judgeEdge_none_judged (s := s.begin.cover x true) judged, untrackedArrives_cover]
  exact faultTaken (strayed s x) .stray x none

theorem early_faultTaken {e : Expectation} (early : laterThan e.opens s.tick = true) :
    FaultTaken ⟨.early, some x, s.sequenceNamed e.item, e.item == .set⟩ (strayed s x)
      ((s.begin.cover x true).judgeEdge x (some e)).grant := by
  rw [judgeEdge_early (s := s.begin.cover x true) early, untrackedArrives_cover]
  have named : s.sequenceNamed e.item = (strayed s x).sequenceOf e.item := by cases e.item <;> rfl
  rw [named]
  exact faultTaken (strayed s x) .early x (some e.item)

end

/-! ## A sheet met by its expectation (R85) -/

theorem occupy_cover (s : State) (x : Sensor) (e : Expectation) (o : Occupant) (timed : Bool) :
    (s.begin.cover x true).occupy x e o timed = s.begin.putSensor x { s.sensor x with
      covered := true, occupant := o, coverStart := s.tick, coverMin := e.coverMin, coverMax := e.coverMax,
      coverTimer := if timed then some (s.tick + BitVec.ofNat 32 e.coverMax) else none,
      expectations := removeItem e.item (s.sensor x).expectations } := by
  unfold State.occupy
  rw [sensor_cover]
  exact State.putSensor_putSensor s.begin x _ _

section
variable {s : State} {x : Sensor} {e : Expectation} {h : Handle} {sh : Sheet}

/-- The state after steps 1 to 3 of R85 for a sheet at a sensor. -/
def metState (s : State) (x : Sensor) (e : Expectation) (h : Handle) : State := (s.begin.cover x true).matchSheet x e h

theorem metState_eq (hs : s.sheet h = some sh) :
    metState s x e h = ((s.begin.cover x true).occupy x e (.sheet h) (x != .LH)).putSheet h
      (some { sh with lastSensor := some x, covering := true, coverStart := s.tick }) :=
  Machine.modifySheet_some ((s.begin.cover x true).occupy x e (.sheet h) (x != .LH)) h _ sh hs

theorem sheetMet (item : e.item = .sheet h) (hs : s.sheet h = some sh) : SheetMet x e h sh s (metState s x e h) := by
  rw [metState_eq hs, occupy_cover, item]
  refine ⟨?_, fun y hy => State.sensor_putSensor_other s x y _ hy, State.sheet_putSheet _ _ _,
    fun k hk => State.sheet_putSheet_other _ _ _ _ hk, rfl, rfl, by simp [keepsBut_iff]⟩
  refine (State.sensor_putSensor s x _).trans ?_
  by_cases lh : x = .LH <;> simp [lh, removeItem]

end

/-! ## Collisions (R87, R88) -/

section
variable {s : State} {x : Sensor} {c : Cause} {other : Option Nat}

theorem collide_within {e : Expectation} {h : Handle} {sh : Sheet} (item : e.item = .sheet h)
    (hs : s.sheet h = some sh) (opened : laterThan e.opens s.tick = false) (closed : laterThan s.tick e.closes = false) :
    (s.begin.cover x true).collide x c other (some e)
      = ((metState s x e h).modifySheet h fun y => { y with halted := true, resting := x == .LH }).report
          ⟨c, some x, some sh.plan.sequence, false⟩ := by
  have phase : e.phase (s.begin.cover x true).tick = .within := phase_within_iff.2 ⟨opened, closed⟩
  have named : (s.begin.cover x true).reportOf c x (some (.sheet h)) = ⟨c, some x, some sh.plan.sequence, false⟩ := by
    have sheet : (s.begin.cover x true).sheet h = some sh := hs
    simp [State.reportOf, State.sequenceOf, sheet]
  simp only [State.collide, item, phase]
  rw [named]
  rfl

theorem collide_outside {head : Option Expectation}
    (outside : ∀ e h, head = some e → e.item = .sheet h →
      laterThan e.opens s.tick = true ∨ laterThan s.tick e.closes = true) :
    (s.begin.cover x true).collide x c other head = (strayed s x).begin.report ⟨c, some x, other, false⟩ := by
  rw [← untrackedArrives_cover]
  cases head with
  | none => rfl
  | some e =>
    unfold State.collide
    dsimp only
    split
    · next h item phase =>
      obtain ⟨opened, closed⟩ := phase_within_iff.1 phase
      rcases outside e h rfl item with early | late
      · exact absurd early (Bool.eq_false_iff.1 opened)
      · exact absurd late (Bool.eq_false_iff.1 closed)
    · rfl

end

/-- Settles O25: strays and early edges by the phase of the head, collisions by whether the head's sheet is met. -/
theorem strayAndEarlyEdges : Obligations.StrayAndEarlyEdges := by
  intro s x clear
  refine ⟨fun judged free none => ⟨_, ?_, stray_faultTaken judged⟩,
    fun e rest judged free head => ⟨fun early => ⟨_, ?_, early_faultTaken early⟩,
      fun opened late outside => ⟨_, ?_, stray_faultTaken judged⟩⟩,
    fun judged met => ?_, fun judged empty => ⟨_, ?_, strayed_only s x⟩,
    fun e judged found => ⟨fun early => ?_, fun opened late => ⟨_, ?_, strayed_only s x⟩⟩⟩
  · exact exec_leadingEdge_of_head clear (fun _ => free) (by rw [head_judged judged, none]; rfl)
  · exact exec_leadingEdge_of_head clear (fun _ => free) (by rw [head_judged judged, head]; rfl)
  · rw [← judgeEdge_late (s := s.begin.cover x true) opened late outside]
    exact exec_leadingEdge_of_head clear (fun _ => free) (by rw [head_judged judged, head]; rfl)
  · obtain ⟨other, edge, atHold, atSet⟩ := takeLeadingEdge_of_collides (s := s.begin) judged met
    refine ⟨fun e rest h sh head item hs opened closed => ?_, fun outside => ⟨other, _, ?_, atHold, atSet, reportTaken _ _⟩⟩
    · obtain ⟨-, -, live, -⟩ := sheetMet (s := s) (x := x) item hs
      refine ⟨_, _, _, _, ?_, sheetMet item hs, sheetBecomes _ _ _, reported _ _, granted _⟩
      rw [exec_leadingEdge clear, edge, show (s.begin.sensor x).expectations.head? = some e by
        rw [show (s.begin.sensor x).expectations = e :: rest from head]; rfl,
        collide_within item hs opened closed, Machine.modifySheet_some _ _ _ _ live]
      rfl
    · rw [exec_leadingEdge clear, edge, collide_outside fun e h head item => ?_]
      · rfl
      · cases list : (s.sensor x).expectations with
        | nil => rw [show (s.begin.sensor x).expectations = [] from list] at head; exact nomatch head
        | cons f rest =>
          rw [show (s.begin.sensor x).expectations = f :: rest from list] at head
          cases head
          exact outside _ rest h list item
  · have none : (s.sensor x).head s.run.state.judgesSheets = none := by
      rw [head_unjudged judged]
      simpa using empty
    rw [exec_leadingEdge_of_head clear (by simp [judged]) none,
      judgeEdge_none_unjudged (s := s.begin.cover x true) judged, untrackedArrives_cover]
  · have set : e.item = .set := by simpa using List.find?_some found
    have early := early_faultTaken (x := x) early
    rw [set] at early
    exact ⟨_, exec_leadingEdge_of_head clear (by simp [judged]) ((head_unjudged judged).trans found), early⟩
  · have outside : s.run.state ≠ .stopping := by
      intro stopping
      rw [stopping] at judged
      exact nomatch judged
    rw [exec_leadingEdge_of_head clear (by simp [judged]) ((head_unjudged judged).trans found),
      judgeEdge_late (s := s.begin.cover x true) opened late outside,
      judgeEdge_none_unjudged (s := s.begin.cover x true) judged, untrackedArrives_cover]

/-! ## Matched edges (R85 to R89) -/

theorem sheetBecomes_self {s : State} {h : Handle} {sh : Sheet} (hs : s.sheet h = some sh) : SheetBecomes h sh s s :=
  ⟨hs, fun _ _ => rfl, rfl, rfl, .refl⟩

theorem sheetBecomes_trans {s u v : State} {h : Handle} {a b : Sheet} (first : SheetBecomes h a s u)
    (then_ : SheetBecomes h b u v) : SheetBecomes h b s v := by
  obtain ⟨-, others, sensors, timing, keeps⟩ := first
  obtain ⟨entry, others', sensors', timing', keeps'⟩ := then_
  exact ⟨entry, fun k hk => (others' k hk).trans (others k hk), sensors'.trans sensors, timing'.trans timing,
    keeps.trans keeps'⟩

theorem sheetBecomes_modifySheet {s : State} {h : Handle} {sh : Sheet} (hs : s.sheet h = some sh)
    (f : Sheet → Sheet) : SheetBecomes h (f sh) s (s.modifySheet h f) := by
  rw [Machine.modifySheet_some s h f sh hs]
  exact sheetBecomes s h (f sh)

/-- The arrival at the hold station is noted, and a pending late release is set for the dwell (R69, R70). -/
theorem arrivesAtHold (s : State) (h : Handle) : ArrivesAtHold h s (s.arriveAtHold h) := by
  intro c hc
  have dwell : s.minimumDwell = c.minimumDwell := by simp [State.minimumDwell, hc]
  have grid : s.scheduler.grid.isSome = true ↔ s.scheduler.grid ≠ none := Option.isSome_iff_ne_none
  have set (t : SheetTimers) : (s.putTimers h t).timers h = t := put_same _ _ _
  have kept (t : SheetTimers) : (∀ k, k ≠ h → (s.putTimers h t).timers k = s.timers k)
      ∧ (s.putTimers h t).scheduler = { s.scheduler with timers := (s.putTimers h t).scheduler.timers }
      ∧ KeepsBut [.scheduler] s (s.putTimers h t) :=
    ⟨fun k hk => put_other _ _ _ _ hk, rfl, by simp [keepsBut_iff]⟩
  unfold State.arriveAtHold
  dsimp only
  split
  · next late =>
    rw [Bool.and_eq_true, grid] at late
    refine ⟨fun _ => ?_, fun absent => absurd late absent, kept _⟩
    rw [set, dwell]
    rfl
  · next none =>
    rw [Bool.and_eq_true, grid] at none
    exact ⟨fun late => absurd late none, fun _ => set _, kept _⟩

section
variable {s : State} {x : Sensor} {e : Expectation} {h : Handle}

/-- What follows a match depends on the sensor alone (R85). -/
theorem exec_leadingEdge_met (clear : (s.sensor x).covered = false)
    (free : s.run.state.judgesSheets = true → ¬ s.Collides x)
    (head : (s.sensor x).head s.run.state.judgesSheets = some e) (opened : notEarlier s.tick e.opens = true)
    (met : notEarlier e.closes s.tick = true ∨ s.run.state = .stopping) :
    exec (.leadingEdge x) s = .next ((s.begin.cover x true).matchEdge x e).grant := by
  rw [exec_leadingEdge_of_head clear free head,
    judgeEdge_met (s := s.begin.cover x true) (laterThan_eq_false opened) (met.imp_left laterThan_eq_false)]

theorem matchEdge_sheet (item : e.item = .sheet h) :
    (s.begin.cover x true).matchEdge x e = (metState s x e h).advance h x := by
  rw [State.matchEdge, item]
  rfl

end

section
variable {u : State} {h : Handle} {sh : Sheet}

/-- A match before the transfer station sets the sheet on its next leg. -/
theorem advance_nextLeg (hs : u.sheet h = some sh) {x : Sensor} {l : Leg} (next : nextLeg x = some l) :
    ∃ w, SheetBecomes h { sh with state := if x = .MG then .approach else sh.state } u w
      ∧ Places h l w (u.advance h x) := by
  cases x <;> cases next
  case MG => exact ⟨_, sheetBecomes_modifySheet hs fun x => { x with state := .approach }, places _ h 4⟩
  all_goals exact ⟨u, sheetBecomes_self hs, places u h _⟩

theorem advance_transfer (hs : u.sheet h = some sh) : ∃ w y,
    SheetBecomes h { sh with state := .printing } u w ∧ Places h 6 w y
      ∧ (u.lines.imageFault = false → KeepsBut [] y (u.advance h .TR))
      ∧ (u.lines.imageFault = true → ∀ printed, y.sheet h = some printed →
          SideFaulted h printed y (u.advance h .TR)) := by
  have moved : u.advance h .TR = if u.lines.imageFault
      then ((u.setSheetState h .printing).place h (.leg 6)).markImageFault h
      else (u.setSheetState h .printing).place h (.leg 6) := by
    have lines : ((u.setSheetState h .printing).place h (.leg 6)).lines = u.lines := by simp
    rw [← lines]
    rfl
  refine ⟨_, _, sheetBecomes_modifySheet hs fun x => { x with state := .printing }, places _ h 6, fun clear => ?_,
    fun fault printed entry => ?_⟩
  · rw [moved, if_neg (Bool.eq_false_iff.1 clear)]
    exact .refl
  · rw [moved, if_pos fault]
    exact sideFaulted _ h printed entry

theorem advance_hold_halted (hs : u.sheet h = some sh) (halted : sh.halted = true) :
    SheetBecomes h { sh with resting := true } u (u.advance h .LH) := by
  have moved : u.advance h .LH = u.modifySheet h fun x => { x with resting := true } := by
    simp [State.advance, State.matchAtHold, hs, halted]
  rw [moved]
  exact sheetBecomes_modifySheet hs fun x => { x with resting := true }

theorem advance_hold (hs : u.sheet h = some sh) (free : sh.halted = false) : ∃ w,
    SheetBecomes h { sh with state := .held, resting := u.run.state == .stopping } u w
      ∧ ArrivesAtHold h w (u.advance h .LH) := by
  have rested := sheetBecomes_modifySheet hs fun x => { x with resting := u.run.state == .stopping }
  have held := sheetBecomes_modifySheet rested.1 fun x => { x with state := .held }
  refine ⟨_, sheetBecomes_trans rested held, ?_⟩
  have moved : u.advance h .LH = (((u.modifySheet h fun x => { x with resting := u.run.state == .stopping }).modifySheet h
      fun x => { x with state := .held })).arriveAtHold h := by
    simp [State.advance, State.matchAtHold, hs, free, State.setSheetState]
  rw [moved]
  exact arrivesAtHold _ h

theorem advance_exit (hs : u.sheet h = some sh) {r : Route} (route : sh.route = some r) :
    Places h r.leg u (u.advance h .XO) := by
  have moved : u.advance h .XO = u.place h (.leg r.leg) := by
    simp [State.advance, State.matchAtExit, hs, route]
  rw [moved]
  exact places u h _

end

theorem insertByOpen_splits (e : Expectation) (l : List Expectation) : ∃ front back,
    l = front ++ back ∧ insertByOpen e l = front ++ e :: back ∧ (∀ f ∈ front, laterThan f.opens e.opens = false)
      ∧ (∀ f, back.head? = some f → laterThan f.opens e.opens = true) := by
  induction l with
  | nil => exact ⟨[], [], rfl, rfl, by simp, by simp⟩
  | cons x xs ih =>
    cases later : laterThan x.opens e.opens with
    | true => exact ⟨[], x :: xs, rfl, by simp [insertByOpen, later], by simp, by simpa using later⟩
    | false =>
      obtain ⟨front, back, split, inserted, before, after⟩ := ih
      exact ⟨x :: front, back, by rw [split]; rfl, by simp [insertByOpen, later, inserted],
        List.forall_mem_cons.2 ⟨later, before⟩, after⟩

/-- Settles O26: the sheet met at each sensor, the set met, and the place an expectation takes in a list. -/
theorem matchedEdges : Obligations.MatchedEdges := by
  refine ⟨fun s x h sh e rest clear judged free head item hs opened within => ?_,
    fun s x e clear free item head head' opened within => ?_, insertByOpen_splits⟩
  · have edge := exec_leadingEdge_met clear (fun _ => free) (by rw [head_judged judged, head]; rfl) opened within
    rw [matchEdge_sheet item] at edge
    have met := sheetMet (x := x) item hs
    obtain ⟨-, -, entry, -⟩ := sheetMet (x := x) item hs
    refine ⟨fun l next => ⟨_, _, _, edge, met, advance_nextLeg entry next, granted _⟩, ?_, ?_, ?_, ?_⟩
    · rintro rfl
      exact ⟨_, _, _, edge, met, advance_transfer entry, granted _⟩
    · rintro rfl
      exact ⟨fun halted => ⟨_, _, _, edge, met, advance_hold_halted entry halted, granted _⟩,
        fun free => ⟨_, _, _, edge, met, advance_hold entry free, granted _⟩⟩
    · rintro rfl r route
      have goes := advance_exit entry route
      cases r <;> exact ⟨_, _, _, edge, met, goes, granted _⟩
    · rintro (rfl | rfl | rfl | rfl | rfl) <;> exact ⟨_, _, _, edge, met, .refl, granted _⟩
  · have found : (s.sensor x).head s.run.state.judgesSheets = some e := by
      cases judged : s.run.state.judgesSheets with
      | true => exact head judged
      | false => exact head' judged
    refine ⟨(s.begin.cover x true).occupy x e .set true, _, _, ?_, ?_, fun y hy => ?_, ?_, ?_, ?_, ?_,
      setBecomes _ fun r => { r with arrived := true }, granted _⟩
    · rw [exec_leadingEdge_met clear (fun _ => free) found opened within, State.matchEdge, item]
      rfl
    all_goals rw [occupy_cover, item]
    · exact State.sensor_putSensor s x _
    · exact State.sensor_putSensor_other s x y _ hy
    · rfl
    · rfl
    · rfl
    · simp [keepsBut_iff]

end Sys2Proof.Proofs.Edges

/-! The decisions at the fuser exit (chapter 6): the statement O29. -/

namespace Sys2Proof.Proofs.Fuser
open Sys2Proof Sys2Proof.Machine Sys2Proof.Proofs.CommandFrames Sys2Proof.Proofs.Edges

/-! ## Gates and boundary decisions -/

/-- A gate that has taken a position for a sheet (R104): at once when free or cleared, and else as its pending one. -/
def gateAfter {α : Type} (g : Gate α) (p : α) (h : Handle) : Gate α :=
  if g.holder = none ∨ g.cleared = true then ⟨p, some h, false, none⟩ else { g with pending := some (p, h) }

theorem decide_eq {α : Type} (g : Gate α) (p : α) (h : Handle) : g.decide p h = gateAfter g p h := by
  simp [Gate.decide, gateAfter]

/-- The two gates of an output unit. -/
def gates (o : OutputUnit) : Gate LoopPosition × Gate Route := (o.loopGate, o.routeGate)

theorem settleBoundary_gates (s : State) (c : Stacker × SwitchReason) :
    gates (s.settleBoundary c).output = gates s.output := by
  unfold State.settleBoundary
  dsimp only
  split <;> simp [gates]

theorem commitSet_gates (s : State) : gates s.commitSet.output = gates s.output := by
  unfold State.commitSet
  split
  · split
    · exact settleBoundary_gates s _
    · rfl
  · rfl

/-- A boundary decision moves no gate. -/
theorem decideDirect_gates (s : State) (flag : Bool) : gates (s.decideDirect flag).output = gates s.output :=
  (settleBoundary_gates _ _).trans (commitSet_gates s)

/-! ## The sheet on its next leg -/

/-- A sheet's copy is broken as the match at FX finds it (R86). -/
def brokenAt (s : State) (sh : Sheet) : Bool := sh.broken || (s.output.brokenRecord sh.plan.copy).isSome

/-- A sheet has been met at FX and set on a leg, its entry `sh'` but for what the match changes. -/
def Moved (s : State) (timing : TimingSet) (h : Handle) (sh : Sheet) (e : Expectation) (l : Leg) (sh' : Sheet)
    (t : State) : Prop :=
  t.sensor .FX = { s.sensor .FX with
      covered := true, occupant := .sheet h, coverStart := s.tick, coverMin := e.coverMin, coverMax := e.coverMax,
      coverTimer := some (s.tick + BitVec.ofNat 32 e.coverMax),
      expectations := (s.sensor .FX).expectations.filter (fun f => f.item != .sheet h) }
    ∧ t.sheet h = some { sh' with
        broken := brokenAt s sh, lastSensor := some .FX, covering := true, coverStart := s.tick, leg := some (.leg l),
        reference := s.tick }
    ∧ t.sensor (legTo l) = { s.sensor (legTo l) with
        expectations := insertByOpen (s.expects timing h sh (.leg l)) (s.sensor (legTo l)).expectations }
    ∧ (∀ y, y ≠ .FX → y ≠ legTo l → t.sensor y = s.sensor y) ∧ (∀ k, k ≠ h → t.sheet k = s.sheet k)

/-- The entry of a sheet met at FX whose broken flag follows its copy's. -/
def metEntry (s : State) (sh sh' : Sheet) : Sheet :=
  { sh' with broken := brokenAt s sh, lastSensor := some .FX, covering := true, coverStart := s.tick }

section
variable {s : State} {timing : TimingSet} {h : Handle} {sh sh' : Sheet} {e : Expectation} {l : Leg} {d : State}

theorem moved_place (met : SheetMet .FX e h sh s (metState s .FX e h)) (away : legTo l ≠ .FX)
    (plan : sh'.plan = sh.plan) (entry : d.sheet h = some (metEntry s sh sh'))
    (others : ∀ k, k ≠ h → d.sheet k = s.sheet k) (sensors : ∀ y, d.sensor y = (metState s .FX e h).sensor y)
    (set : d.tracker.timing = some timing) (tick : d.tick = s.tick) :
    Moved s timing h sh e l sh' (d.place h (.leg l)).grant := by
  obtain ⟨placed, kept, dest, rest, -⟩ := places d h l (metEntry s sh sh') timing entry set
  obtain ⟨fx, others', -⟩ := met
  have expects : d.expects timing h (metEntry s sh sh') (.leg l) = s.expects timing h sh (.leg l) := by
    simp only [State.expects, tick, metEntry, plan]
  refine ⟨?_, ?_, ?_, fun y hy hl => ?_, fun k hk => (kept k hk).trans (others k hk)⟩
  · exact (rest .FX (Ne.symm away)).trans ((sensors .FX).trans fx)
  · exact placed.trans (by rw [tick]; rfl)
  · refine dest.trans ?_
    rw [expects, sensors, others' _ away]
  · exact (rest y hl).trans ((sensors y).trans (others' y hy))

end

/-! ## The exit decided (R86, R103) -/

/-- A sheet met at FX on its final pass sets out for XO with a route, both gates told. -/
def exitsFrom (d : State) (s : State) (h : Handle) (sh : Sheet) (r : Route) : State :=
  (((d.modifySheet h (fun x => { x with broken := brokenAt s sh, state := .exiting, route := some r })).loopGate
    (fun g => g.decide .out h)).routeGate (fun g => g.decide r h)).place h (.leg 10)

/-- A sheet met at FX on its first of two passes sets out for LI, the loop gate told. -/
def loopsFrom (d : State) (s : State) (h : Handle) (sh : Sheet) : State :=
  ((d.modifySheet h (fun x => { x with broken := brokenAt s sh, state := .looping })).loopGate
    (fun g => g.decide .loop h)).place h (.leg 7)

section
variable (s : State) (x : Sensor) (e : Expectation) (h : Handle)

theorem metState_tick : (metState s x e h).tick = s.tick := by simp [metState]

theorem metState_output : (metState s x e h).output = s.output := by simp [metState]

end

/-! ## The route of a final pass (R103) -/

section
variable {u : State} {sh : Sheet}

theorem decideRoute_set_first (mode : sh.plan.mode = .set) (k : sh.plan.k = 1) : u.decideRoute sh
    = (.accumulate, u.setOutput { u.output with latest := some (sh.plan.copy, sh.plan.breakFlag) }) := by
  simp [State.decideRoute, mode, k]

theorem decideRoute_set (mode : sh.plan.mode = .set) (k : sh.plan.k ≠ 1) : u.decideRoute sh = (.accumulate, u) := by
  simp [State.decideRoute, mode, k]

theorem decideRoute_broken (mode : sh.plan.mode = .direct) (broken : brokenAt u sh = true) :
    u.decideRoute sh = (.purge, u) := by
  simp only [State.decideRoute, mode]
  exact if_pos broken

theorem decideRoute_direct (mode : sh.plan.mode = .direct) (sound : brokenAt u sh = false) (k : sh.plan.k ≠ 1) :
    u.decideRoute sh = (u.output.active.route, u) := by
  simp only [State.decideRoute, mode, k, if_false]
  exact if_neg (Bool.eq_false_iff.1 sound)

theorem decideRoute_direct_first (mode : sh.plan.mode = .direct) (sound : brokenAt u sh = false)
    (k : sh.plan.k = 1) :
    u.decideRoute sh = ((u.decideDirect sh.plan.breakFlag).output.active.route, u.decideDirect sh.plan.breakFlag) := by
  simp only [State.decideRoute, mode, k, if_true]
  exact if_neg (Bool.eq_false_iff.1 sound)

end

section
variable {s : State} {timing : TimingSet} {h : Handle} {sh : Sheet} {e : Expectation} {r : Route}

theorem brokenAt_metState (x : Sensor) {y : Sheet} (broken : y.broken = sh.broken) (plan : y.plan = sh.plan) :
    brokenAt (metState s x e h) y = brokenAt s sh := by
  rw [brokenAt, brokenAt, metState_output, broken, plan]

theorem advance_loops (hs : s.sheet h = some sh) (first : sh.plan.sides = .duplex ∧ sh.pass = 1) :
    (metState s .FX e h).advance h .FX = loopsFrom (metState s .FX e h) s h sh := by
  have entry : (metState s .FX e h).sheet h
      = some { sh with lastSensor := some .FX, covering := true, coverStart := s.tick } := by
    rw [metState_eq hs, State.sheet_putSheet]
  show (metState s .FX e h).matchAtFuser h = _
  simp only [State.matchAtFuser, entry, State.decideAtFx, Sheet.firstOfTwo, first, beq_self_eq_true, Bool.and_self,
    if_true]
  rfl

theorem advance_exits (hs : s.sheet h = some sh) (final : ¬ (sh.plan.sides = .duplex ∧ sh.pass = 1)) {d : State}
    (route : (metState s .FX e h).decideRoute
      { sh with lastSensor := some .FX, covering := true, coverStart := s.tick } = (r, d)) :
    (metState s .FX e h).advance h .FX = exitsFrom d s h sh r := by
  have entry : (metState s .FX e h).sheet h
      = some { sh with lastSensor := some .FX, covering := true, coverStart := s.tick } := by
    rw [metState_eq hs, State.sheet_putSheet]
  have last : ({ sh with lastSensor := some .FX, covering := true, coverStart := s.tick } : Sheet).firstOfTwo = false := by
    simpa [Sheet.firstOfTwo] using final
  show (metState s .FX e h).matchAtFuser h = _
  simp only [State.matchAtFuser, entry, State.decideAtFx, last, route, Bool.false_eq_true, if_false]
  rfl

/-- A sheet sent to loop from a state with the tracker of its match. -/
theorem loopsFrom_spec (hs : s.sheet h = some sh) (set : s.tracker.timing = some timing) (item : e.item = .sheet h)
    {d : State} (tracker : d.tracker = (metState s .FX e h).tracker) (tick : d.tick = s.tick) :
    Moved s timing h sh e 7 { sh with state := .looping } (loopsFrom d s h sh).grant
      ∧ (loopsFrom d s h sh).output = { d.output with loopGate := gateAfter d.output.loopGate .loop h } := by
  have met := sheetMet (x := .FX) item hs
  obtain ⟨-, -, entry, others, timed, -⟩ := sheetMet (x := .FX) item hs
  have at_h : d.sheet h = some { sh with lastSensor := some .FX, covering := true, coverStart := s.tick } :=
    (State.sheet_congr tracker h).trans entry
  obtain ⟨entry', others', sensors', timing', -⟩ := sheetBecomes_modifySheet at_h fun x =>
    { x with broken := brokenAt s sh, state := .looping }
  have timed' : (d.modifySheet h fun x => { x with broken := brokenAt s sh, state := .looping }).tracker.timing
      = some timing := by
    rw [timing', tracker, timed, set]
  refine ⟨moved_place met (by decide) rfl entry'
    (fun k hk => (others' k hk).trans ((State.sheet_congr tracker k).trans (others k hk)))
    (fun y => State.sensor_congr (sensors'.trans (congrArg Tracker.sensors tracker)) y) timed' tick, ?_⟩
  simp only [← decide_eq, loopsFrom, State.place_keeps]
  rfl

/-- The exit of a sheet from a state with the tracker of its match. -/
theorem exitsFrom_spec (hs : s.sheet h = some sh) (set : s.tracker.timing = some timing) (item : e.item = .sheet h)
    {d : State} (tracker : d.tracker = (metState s .FX e h).tracker) (tick : d.tick = s.tick) :
    Moved s timing h sh e 10 { sh with state := .exiting, route := some r } (exitsFrom d s h sh r).grant
      ∧ (exitsFrom d s h sh r).output = { d.output with
          loopGate := gateAfter d.output.loopGate .out h, routeGate := gateAfter d.output.routeGate r h }
      ∧ (exitsFrom d s h sh r).tracker.timing = s.tracker.timing := by
  have met := sheetMet (x := .FX) item hs
  obtain ⟨-, -, entry, others, timed, -⟩ := sheetMet (x := .FX) item hs
  have at_h : d.sheet h = some { sh with lastSensor := some .FX, covering := true, coverStart := s.tick } :=
    (State.sheet_congr tracker h).trans entry
  have becomes := sheetBecomes_modifySheet at_h fun x =>
    { x with broken := brokenAt s sh, state := .exiting, route := some r }
  obtain ⟨entry', others', sensors', timing', -⟩ := becomes
  have timed' : (d.modifySheet h fun x =>
      { x with broken := brokenAt s sh, state := .exiting, route := some r }).tracker.timing = some timing := by
    rw [timing', tracker, timed, set]
  refine ⟨moved_place met (by decide) rfl entry'
    (fun k hk => (others' k hk).trans ((State.sheet_congr tracker k).trans (others k hk)))
    (fun y => State.sensor_congr (sensors'.trans (congrArg Tracker.sensors tracker)) y) timed' tick, ?_, ?_⟩
  · simp only [← decide_eq, exitsFrom, State.place_keeps]
    rfl
  · obtain ⟨-, -, -, -, kept, -⟩ := places (((d.modifySheet h (fun x => { x with
      broken := brokenAt s sh, state := .exiting, route := some r })).loopGate (fun g => g.decide .out h)).routeGate
        (fun g => g.decide r h)) h 10 _ timing entry' timed'
    exact kept.trans (timed'.trans set.symm)

end

/-- Settles O29: the first pass loops; a final pass exits on the route its mode and its copy give. -/
theorem fuserDecisions : Obligations.FuserDecisions := by
  intro s h sh e rest timing clear judged head item hs set opened within
  have free : ¬ s.Collides .FX := by rintro (⟨at_, -⟩ | ⟨at_, -⟩) <;> exact nomatch at_
  have edge := exec_leadingEdge_met clear (fun _ => free) (by rw [head_judged judged, head]; rfl) opened within
  rw [matchEdge_sheet item] at edge
  have same := brokenAt_metState (s := s) (e := e) (h := h) .FX (sh := sh)
    (y := { sh with lastSensor := some .FX, covering := true, coverStart := s.tick }) rfl rfl
  have lands {r : Route} {d : State} (final : ¬ (sh.plan.sides = .duplex ∧ sh.pass = 1))
      (route : (metState s .FX e h).decideRoute
        { sh with lastSensor := some .FX, covering := true, coverStart := s.tick } = (r, d))
      (latest : Option (Copy × Bool)) (own : KeepsBut [.output] (metState s .FX e h) d)
      (output : d.output = { s.output with latest := latest }) :
      ∃ t, exec (.leadingEdge .FX) s = .next t ∧ ActsOn [.tracker, .output] s t
        ∧ Moved s timing h sh e 10 { sh with state := .exiting, route := some r } t
        ∧ t.output = { s.output with
            loopGate := gateAfter s.output.loopGate .out h, routeGate := gateAfter s.output.routeGate r h
            latest := latest } := by
    rw [advance_exits hs final route] at edge
    have tracker : d.tracker = (metState s .FX e h).tracker := own .tracker (by simp)
    have tick : d.tick = s.tick := (own .tick (by simp)).trans (metState_tick s .FX e h)
    obtain ⟨moved, exit, -⟩ := exitsFrom_spec (r := r) hs set item tracker tick
    rw [output] at exit
    have junction : d.junction = s.junction := (own .junction (by simp)).trans (by simp [metState])
    have pulses : d.pulses = [] := (own .pulses (by simp)).trans (by simp [metState])
    refine ⟨_, edge, actsOn_of_effect ?_ (by simpa [exitsFrom] using junction) (by simpa [exitsFrom] using pulses),
      moved, exit⟩
    have met : KeepsBut [.tracker] s.begin (metState s .FX e h) := by simp [keepsBut_iff, metState]
    have exits : KeepsBut [.tracker, .output] d (exitsFrom d s h sh r) := by simp [keepsBut_iff, exitsFrom]
    exact ((met.mono (by simp)).trans (own.mono (by simp))).trans (exits.mono (by simp))
  refine ⟨fun duplex pass => ?_, fun final => ⟨fun mode k => ?_, fun mode k => ?_, fun mode broken => ?_,
    fun mode sound k => ?_, fun mode sound k => ?_⟩⟩
  · rw [advance_loops hs ⟨duplex, pass⟩] at edge
    obtain ⟨moved, output⟩ := loopsFrom_spec hs set item (d := metState s .FX e h) rfl (metState_tick s .FX e h)
    rw [metState_output] at output
    refine ⟨_, edge, actsOn_of_effect ?_ ?_ ?_, moved, output⟩
    · simp [keepsBut_iff, loopsFrom, metState]
    · simp [loopsFrom, metState]
    · simp [loopsFrom, metState]
  · exact lands final (decideRoute_set_first mode k) _ (by simp [keepsBut_iff])
      (by rw [State.setOutput_output, metState_output])
  · exact lands final (decideRoute_set mode k) s.output.latest .refl (metState_output s .FX e h)
  · exact lands final (decideRoute_broken mode (same.trans broken)) s.output.latest .refl (metState_output s .FX e h)
  · have found := lands final (decideRoute_direct mode (same.trans sound) k) s.output.latest .refl
      (metState_output s .FX e h)
    rw [metState_output] at found
    exact found
  · have route := decideRoute_direct_first (u := metState s .FX e h) mode (same.trans sound) k
    rw [advance_exits hs final route] at edge
    have decided := decidesDirect (metState s .FX e h) sh.plan.breakFlag
    have gate := decideDirect_gates (metState s .FX e h) sh.plan.breakFlag
    have tracker : ((metState s .FX e h).decideDirect sh.plan.breakFlag).tracker = (metState s .FX e h).tracker := by
      simp
    have tick : ((metState s .FX e h).decideDirect sh.plan.breakFlag).tick = s.tick := by simp [metState_tick]
    generalize (metState s .FX e h).decideDirect sh.plan.breakFlag = v at *
    rw [metState_output] at gate
    obtain ⟨loop, routes⟩ := Prod.mk.inj gate
    obtain ⟨moved, exit, timed⟩ := exitsFrom_spec (r := v.output.active.route) hs set item tracker tick
    rw [loop, routes] at exit
    refine ⟨_, v, _, edge, sheetMet item hs, decided, ⟨moved, exit⟩, timed, ?_, ?_⟩
    · exact congrArg Junction.grant (show (exitsFrom v s h sh _).junction = v.junction by simp [exitsFrom])
    · have exits : KeepsBut [.tracker, .output, .junction] v (exitsFrom v s h sh v.output.active.route) := by
        simp [keepsBut_iff, exitsFrom]
      exact exits.grant (by simp)

end Sys2Proof.Proofs.Fuser

/-! Trailing edges (chapter 5) and what they bring about at the destinations (chapter 6): the statements O27, O28 and
O30. -/

namespace Sys2Proof.Proofs.Trailing
open Sys2Proof Sys2Proof.Machine Sys2Proof.Proofs.CommandFrames Sys2Proof.Proofs.Edges

/-! ## The sensor left -/

/-- The state in which a trailing edge has taken the occupant off its sensor (R91). -/
def left (s : State) (x : Sensor) : State := (s.begin.cover x false).vacate x

/-- A sensor's record when its occupant has left. -/
def clearedRecord (s : State) (x : Sensor) : SensorRecord :=
  { s.sensor x with covered := false, occupant := .none, coverTimer := none }

theorem exec_trailingEdge {s : State} {x : Sensor} (covered : (s.sensor x).covered = true) :
    exec (.trailingEdge x) s = .next (s.begin.takeTrailingEdge x).grant := by
  show Host.Outcome.next (if (s.begin.sensor x).covered then _ else _ : State).grant = _
  rw [if_pos (show (s.begin.sensor x).covered = true from covered)]

section
variable {s : State} {x : Sensor} {h : Handle}

theorem takeTrailingEdge_none (occ : (s.sensor x).occupant = .none) :
    s.begin.takeTrailingEdge x = s.begin.cover x false := by
  have occ' : ((s.begin.cover x false).sensor x).occupant = .none := by rw [sensor_cover]; exact occ
  simp only [State.takeTrailingEdge, occ']

theorem takeTrailingEdge_untracked (occ : (s.sensor x).occupant = .untracked) :
    s.begin.takeTrailingEdge x = left s x := by
  have occ' : ((s.begin.cover x false).sensor x).occupant = .untracked := by rw [sensor_cover]; exact occ
  simp only [State.takeTrailingEdge, occ', left]

theorem takeTrailingEdge_unjudged (occ : (s.sensor x).occupant = .sheet h)
    (judged : s.run.state.judgesSheets = false) : s.begin.takeTrailingEdge x = left s x := by
  have occ' : ((s.begin.cover x false).sensor x).occupant = .sheet h := by rw [sensor_cover]; exact occ
  simp only [State.takeTrailingEdge, occ', left]
  exact if_neg (Bool.eq_false_iff.1 judged)

theorem takeTrailingEdge_sheet (occ : (s.sensor x).occupant = .sheet h)
    (judged : s.run.state.judgesSheets = true) :
    s.begin.takeTrailingEdge x = (s.begin.cover x false).judgeSheetTrail x h := by
  have occ' : ((s.begin.cover x false).sensor x).occupant = .sheet h := by rw [sensor_cover]; exact occ
  simp only [State.takeTrailingEdge, occ']
  exact if_pos judged

theorem takeTrailingEdge_set (occ : (s.sensor x).occupant = .set) :
    s.begin.takeTrailingEdge x = (s.begin.cover x false).judgeSetTrail x := by
  have occ' : ((s.begin.cover x false).sensor x).occupant = .set := by rw [sensor_cover]; exact occ
  simp only [State.takeTrailingEdge, occ']

/-- A trailing edge comes before the cover min of its sensor (R91). -/
def Early (s : State) (x : Sensor) : Prop := (s.tick - (s.sensor x).coverStart).toNat < (s.sensor x).coverMin

/-- The sheet stands HELD and unreleased at LH (R93). -/
def Unreleased (x : Sensor) (sh : Sheet) : Prop := x = .LH ∧ sh.state = .held ∧ sh.resting = false

theorem sheetShort_iff {sh : Sheet} (hs : s.sheet h = some sh) :
    (s.begin.cover x false).sheetShort x h = true ↔ Early s x ∨ Unreleased x sh := by
  have sheet : (s.begin.cover x false).sheet h = some sh := hs
  simp only [State.sheetShort, sheet, sensor_cover, Bool.or_eq_true, Bool.and_eq_true, beq_iff_eq, decide_eq_true_eq,
    Bool.not_eq_true', and_assoc]
  exact Or.comm

theorem sheetShort_free (hs : s.sheet h = none) : (s.begin.cover x false).sheetShort x h = true ↔ Early s x := by
  have sheet : (s.begin.cover x false).sheet h = none := hs
  simp only [State.sheetShort, sheet, sensor_cover, Bool.false_or, decide_eq_true_eq]
  exact Iff.rfl

theorem judgeSheetTrail_short (short : (s.begin.cover x false).sheetShort x h = true) :
    (s.begin.cover x false).judgeSheetTrail x h
      = ((left s x).modifySheet h fun sh => { sh with halted := true }).fault .short x (some (.sheet h)) :=
  if_pos short

theorem judgeSheetTrail_accepted (accepted : ¬ (s.begin.cover x false).sheetShort x h = true) :
    (s.begin.cover x false).judgeSheetTrail x h = (left s x).sheetPassed x h := if_neg accepted

/-! ## The sheet table behind a trailing edge -/

theorem putSheet_putSheet (s : State) (h : Handle) (a b : Option Sheet) :
    (s.putSheet h a).putSheet h b = s.putSheet h b := by
  simp [State.putSheet, State.setTracker, put_put]

theorem put_self {α : Type} {n : Nat} (v : Vector α n) (i : Fin n) : put v i v[i] = v := by simp [put]

theorem modifySheet_none (free : s.sheet h = none) (f : Sheet → Sheet) : s.modifySheet h f = s := by
  have same : put s.tracker.sheets h none = s.tracker.sheets := by
    rw [← show s.tracker.sheets[h] = none from free]
    exact put_self _ _
  simp only [State.modifySheet, State.putSheet, free, Option.map_none, same]
  rfl

theorem cover_putSensor (u : State) (level : Bool) (r : SensorRecord) :
    (u.cover x level).putSensor x r = u.putSensor x r := State.putSensor_putSensor u x _ _

theorem left_sheet (occ : (s.sensor x).occupant = .sheet h) : left s x
    = (s.putSensor x (clearedRecord s x)).begin.modifySheet h
        fun sh => { sh with covering := (s.putSensor x (clearedRecord s x)).occupies h } := by
  unfold left State.vacate
  simp only [sensor_cover, cover_putSensor, show (s.begin.sensor x).occupant = .sheet h from occ]
  rfl

/-- What a sensor's occupant leaving does when it is no sheet. -/
theorem left_other (other : ∀ h, (s.sensor x).occupant ≠ .sheet h) :
    left s x = (s.putSensor x (clearedRecord s x)).begin := by
  unfold left State.vacate
  simp only [sensor_cover, cover_putSensor]
  cases occ : (s.begin.sensor x).occupant with
  | sheet h => exact absurd occ (other h)
  | _ => rfl

theorem short_faultTaken {sh : Sheet} (occ : (s.sensor x).occupant = .sheet h) (hs : s.sheet h = some sh) :
    FaultTaken ⟨.short, some x, some sh.plan.sequence, false⟩
      ((s.putSensor x (clearedRecord s x)).putSheet h
        (some { sh with halted := true, covering := (s.putSensor x (clearedRecord s x)).occupies h }))
      (((left s x).modifySheet h fun sh => { sh with halted := true }).fault .short x (some (.sheet h))).grant := by
  have entry : (s.putSensor x (clearedRecord s x)).begin.sheet h = some sh := hs
  rw [left_sheet occ, Machine.modifySheet_some _ h _ sh entry, Machine.modifySheet_some _ h _ _
    (State.sheet_putSheet _ _ _), putSheet_putSheet]
  have taken := faultTaken ((s.putSensor x (clearedRecord s x)).putSheet h
    (some { sh with halted := true, covering := (s.putSensor x (clearedRecord s x)).occupies h })) .short x
      (some (.sheet h))
  simp only [State.reportOf, State.sequenceOf, State.sheet_putSheet] at taken
  exact taken

theorem short_faultTaken_free (occ : (s.sensor x).occupant = .sheet h) (free : s.sheet h = none) :
    FaultTaken ⟨.short, some x, none, false⟩ (s.putSensor x (clearedRecord s x))
      (((left s x).modifySheet h fun sh => { sh with halted := true }).fault .short x (some (.sheet h))).grant := by
  have free' : (s.putSensor x (clearedRecord s x)).begin.sheet h = none := free
  rw [left_sheet occ, modifySheet_none free', modifySheet_none free']
  have taken := faultTaken (s.putSensor x (clearedRecord s x)) .short x (some (.sheet h))
  simp only [State.reportOf, State.sequenceOf, show (s.putSensor x (clearedRecord s x)).sheet h = none from free,
    Option.map_none] at taken
  exact taken

end

/-! ## Accepted trailing edges (R91, R95) -/

section
variable {s : State} {x : Sensor} {h : Handle} {sh : Sheet}

theorem gatePassed_tracker (u : State) (x : Sensor) (h : Handle) : (u.gatePassed x h).tracker = u.tracker := by
  unfold State.gatePassed
  split <;> rfl

/-- The entry of a sheet that has left a sensor is its own but for its covering flag. -/
theorem sheet_left (hs : s.sheet h = some sh) :
    ∃ c, ((left s x).gatePassed x h).sheet h = some { sh with covering := c } := by
  obtain ⟨-, -, sheets, -⟩ := vacated s x
  rw [State.sheet_congr (gatePassed_tracker (left s x) x h) h]
  have entry := sheets h
  rw [hs, Option.map_some] at entry
  split at entry
  · exact ⟨_, entry⟩
  · exact ⟨sh.covering, entry⟩

theorem sheetPassed_live {u : State} {sh : Sheet} (live : (u.gatePassed x h).sheet h = some sh) :
    u.sheetPassed x h = (u.gatePassed x h).sheetLeaves x h sh := by
  simp only [State.sheetPassed, live]

theorem sheetPassed_free {u : State} (free : u.sheet h = none) : u.sheetPassed x h = u.gatePassed x h := by
  have free' : (u.gatePassed x h).sheet h = none :=
    (State.sheet_congr (gatePassed_tracker u x h) h).trans free
  simp only [State.sheetPassed, free']

theorem sheetLeaves_stays (u : State) (elsewhere : x ≠ .LI)
    (not_arrived : ∀ d, sh.route = some d → d.sensor = x → sh.halted = true) : u.sheetLeaves x h sh = u := by
  have none : sh.arrivesAt x = none := by
    unfold Sheet.arrivesAt
    split
    · rfl
    · next r route => exact if_neg fun ⟨at_, free⟩ => by simp [not_arrived r route at_] at free
  simp only [State.sheetLeaves, elsewhere, if_false, none]

theorem sheetLeaves_arrives (u : State) {r : Route} (elsewhere : x ≠ .LI) (route : sh.route = some r)
    (at_ : r.sensor = x) (free : sh.halted = false) : u.sheetLeaves x h sh = u.leaveTable h sh r := by
  have arrived : sh.arrivesAt x = some r := by simp [Sheet.arrivesAt, route, at_, free]
  simp only [State.sheetLeaves, elsewhere, if_false, arrived]

/-- The state in which a sheet that has left its sensor has its entry FREE (R78). -/
def tableLeft (s : State) (x : Sensor) (h : Handle) : State :=
  (((left s x).gatePassed x h).putSheet h none).putTimers h SheetTimers.none

/-- The edge of a sheet that is taken at its destination (R78). -/
theorem exec_trailingEdge_arrives {r : Route} (covered : (s.sensor x).covered = true)
    (occ : (s.sensor x).occupant = .sheet h) (hs : s.sheet h = some sh) (judged : s.run.state.judgesSheets = true)
    (accepted : ¬ (Early s x ∨ Unreleased x sh)) (elsewhere : x ≠ .LI) (route : sh.route = some r)
    (at_ : r.sensor = x) (free : sh.halted = false) :
    ∃ c, exec (.trailingEdge x) s = .next ((((tableLeft s x h).handOverSheet { sh with covering := c } r).examineCopy
      sh.plan.copy).examineDrain.evaluate).grant := by
  obtain ⟨c, live⟩ := sheet_left (x := x) hs
  refine ⟨c, ?_⟩
  rw [exec_trailingEdge covered, takeTrailingEdge_sheet occ judged, judgeSheetTrail_accepted
    (mt (sheetShort_iff hs).1 accepted), sheetPassed_live live, sheetLeaves_arrives _ elsewhere ?_ at_ ?_]
  · rfl
  · exact route
  · exact free

end

/-! ## The set's trailing edge (R89, R91) -/

theorem scatterInFlight_members (s : State) (c : Cause) :
    (s.scatterInFlight c).output.set.members = s.output.set.members := by
  simp only [State.scatterInFlight, State.scatter, State.doubt]
  split
  · split
    · rfl
    · split <;> simp
  · rfl

theorem scattersInFlight (s : State) (c : Cause) :
    (s.output.set.flies → Disturbs True c s (s.scatterInFlight c))
      ∧ (¬ s.output.set.flies → KeepsBut [] s (s.scatterInFlight c)) := by
  rw [← flies_iff]
  refine ⟨fun flies => ?_, fun rests => ?_⟩
  · rw [State.scatterInFlight, if_pos flies]
    exact scatters s c
  · rw [State.scatterInFlight, if_neg rests]
    exact .refl

theorem purges (u : State) (sh : Sheet) : ∃ b,
    DropsLost (usesOf [(sh.plan.front, sh.plan.back)]) u b
      ∧ HandsOver ⟨u.tick, .purged ⟨sh.plan.sequence, sh.plan.statement, sh.plan.k, sh.plan.slot⟩⟩ b
          (u.purgeDirect sh) := by
  refine ⟨_, dropsLost1 u _ _, ?_⟩
  have tick : (u.dropSides false sh.plan.front sh.plan.back).tick = u.tick := by simp
  rw [← tick]
  exact handsOver _ _ _

/-- Settles O27: by the sensor's occupant. -/
theorem trailingEdges : Obligations.TrailingEdges := by
  intro s x covered
  have edge := exec_trailingEdge covered
  refine ⟨fun h sh occ hs judged => ⟨fun short => ?_, fun inTime released => ?_⟩,
    fun h occ free judged => ⟨fun early => ?_, fun inTime => ?_⟩, fun h occ judged => ?_, fun occ => ?_, fun occ => ?_,
    fun occ => ?_⟩
  · rw [takeTrailingEdge_sheet occ judged, judgeSheetTrail_short ((sheetShort_iff hs).2 short)] at edge
    exact ⟨_, edge, short_faultTaken occ hs⟩
  · rw [takeTrailingEdge_sheet occ judged, judgeSheetTrail_accepted fun short =>
      ((sheetShort_iff hs).1 short).elim inTime released] at edge
    obtain ⟨c, live⟩ := sheet_left (x := x) hs
    rw [sheetPassed_live live] at edge
    have told := gateTold (left s x) x h
    refine ⟨?_, fun elsewhere stays => ?_, ?_⟩
    · rintro rfl
      refine ⟨fun halted => ?_, fun free => ?_⟩
      · have stays : ((left s .LI).gatePassed .LI h).sheetLeaves .LI h { sh with covering := c }
            = (left s .LI).gatePassed .LI h := if_pos halted
        rw [stays] at edge
        exact ⟨_, _, _, _, edge, vacated s .LI, told, .refl, granted _⟩
      · have leaves : ((left s .LI).gatePassed .LI h).sheetLeaves .LI h { sh with covering := c }
            = ((left s .LI).gatePassed .LI h).place h (.leg 8) := if_neg (Bool.eq_false_iff.1 free)
        rw [leaves] at edge
        exact ⟨_, _, _, _, edge, vacated s .LI, told, places _ h 8, granted _⟩
    · rw [sheetLeaves_stays (sh := { sh with covering := c }) _ elsewhere stays] at edge
      exact ⟨_, _, _, _, edge, vacated s x, told, .refl, granted _⟩
    · rintro rfl route free
      rw [sheetLeaves_arrives (x := .PB) (sh := { sh with covering := c }) _ (by decide) route rfl free] at edge
      obtain ⟨b, drops, hands⟩ := purges (tableLeft s .PB h) { sh with covering := c }
      have tick : (tableLeft s .PB h).tick = s.tick := by simp [tableLeft, left]
      rw [tick] at hands
      exact ⟨_, _, _, _, edge, vacated s .PB, told, ⟨tableLeft s .PB h, b, _, handleFreed _ h, drops, hands,
        followsLeaving _ _⟩, granted _⟩
  · rw [takeTrailingEdge_sheet occ judged, judgeSheetTrail_short ((sheetShort_free free).2 early)] at edge
    exact ⟨_, edge, short_faultTaken_free occ free⟩
  · have left_free : (left s x).sheet h = none := by
      obtain ⟨-, -, sheets, -⟩ := vacated s x
      exact (sheets h).trans (by rw [free]; rfl)
    rw [takeTrailingEdge_sheet occ judged, judgeSheetTrail_accepted (mt (sheetShort_free free).1 inTime),
      sheetPassed_free left_free] at edge
    exact ⟨_, _, _, edge, vacated s x, gateTold _ x h, granted _⟩
  · rw [takeTrailingEdge_unjudged occ judged] at edge
    exact ⟨_, _, edge, vacated s x, granted _⟩
  · rw [takeTrailingEdge_none occ] at edge
    exact ⟨_, edge, actsOn_of_effect (by simp [keepsBut_iff]), sensor_cover s.begin x false,
      fun y hy => State.sensor_putSensor_other s x y _ hy, rfl⟩
  · rw [takeTrailingEdge_set occ] at edge
    have cut : (elapsed ((s.begin.cover x false).sensor x).coverStart (s.begin.cover x false).tick
        < ((s.begin.cover x false).sensor x).coverMin) = Early s x := by rw [sensor_cover]; rfl
    have same : (left s x).output = s.output := by simp [left]
    refine ⟨fun early => ?_, fun inTime => ?_⟩
    · have short : (s.begin.cover x false).judgeSetTrail x
          = ((left s x).scatterInFlight .short).fault .short x (some .set) := if_pos (cut.mpr early)
      rw [short] at edge
      obtain ⟨flies, rests⟩ := scattersInFlight (left s x) .short
      have fault := faults ((left s x).scatterInFlight .short) .short x (some .set)
      rw [same] at flies rests
      simp only [State.reportOf, State.sequenceOf, scatterInFlight_members, same] at fault
      exact ⟨_, _, _, _, edge, vacated s x, flies, rests, fault, granted _⟩
    · have done : (s.begin.cover x false).judgeSetTrail x = (left s x).ejectCompleted := if_neg (cut.mp.mt inTime)
      rw [done] at edge
      exact ⟨_, _, _, _, _, _, edge, vacated s x, setCompletes _, drainExamined _, evaluates _, clearanceExamined _,
        granted _⟩
  · rw [takeTrailingEdge_untracked occ, left_other (by simp [occ])] at edge
    exact ⟨_, edge, actsOn_of_effect (by simp [keepsBut_iff]) rfl rfl, State.sensor_putSensor s x _,
      fun y hy => State.sensor_putSensor_other s x y _ hy, rfl⟩

/-! ## Delivery at a stacker (R116) -/

/-- What the delivery of a DIRECT sheet does: references, record, stack top and jog line. -/
theorem delivers (u : State) (sh : Sheet) (k : Stacker) : ∃ a b,
    DropsDelivered (usesOf [(sh.plan.front, sh.plan.back)]) u a
      ∧ HandsOver ⟨u.tick, .delivered ⟨sh.plan.sequence, sh.plan.statement, sh.plan.k, sh.plan.slot⟩ k⟩ a b
      ∧ (u.deliverDirect sh k).output.top k = some (match u.output.top k with
          | some (c, n) => if c = sh.plan.copy then (c, n + 1) else (sh.plan.copy, 1)
          | none => (sh.plan.copy, 1))
      ∧ (u.deliverDirect sh k).output.top k.other = u.output.top k.other
      ∧ (u.deliverDirect sh k).output = { u.output with
          top1 := (u.deliverDirect sh k).output.top1
          top2 := (u.deliverDirect sh k).output.top2
          jog1 := if k = .k1 ∧ sh.plan.k = 1 then u.output.jog1.toggle else u.output.jog1
          jog2 := if k = .k2 ∧ sh.plan.k = 1 then u.output.jog2.toggle else u.output.jog2 }
      ∧ KeepsBut [.output] b (u.deliverDirect sh k) := by
  have handed := handsOver (u.dropSides true sh.plan.front sh.plan.back) (.delivered sh.plan.disposition k)
    (u.dropSides true sh.plan.front sh.plan.back).tick
  have tick : (u.dropSides true sh.plan.front sh.plan.back).tick = u.tick := by simp
  have output : ((u.dropSides true sh.plan.front sh.plan.back).record (.delivered sh.plan.disposition k)).output
      = u.output := by simp
  rw [tick] at handed
  refine ⟨_, _, dropsDelivered u _ _, handed, ?_, ?_, ?_, ?_⟩
  case refine_4 =>
    rw [← tick]
    simp [keepsBut_iff, State.deliverDirect, State.record]
  all_goals
    simp only [State.deliverDirect, State.setOutput_output, output]
    cases k <;> by_cases first : sh.plan.k = 1 <;>
      simp [first, OutputUnit.setTop, OutputUnit.jog, OutputUnit.top, Stacker.other] <;> rfl

theorem accepted {s : State} {x : Sensor} {sh : Sheet}
    (inTime : (s.sensor x).coverMin ≤ (s.tick - (s.sensor x).coverStart).toNat) (elsewhere : x ≠ .LH) :
    ¬ (Early s x ∨ Unreleased x sh) :=
  fun short => short.elim (fun early => absurd early (Nat.not_lt.2 inTime)) fun held => elsewhere held.1

theorem tableLeft_tick (s : State) (x : Sensor) (h : Handle) : (tableLeft s x h).tick = s.tick := by
  simp [tableLeft, left]

section
variable {s : State} {x : Sensor} {h : Handle}

theorem tableLeft_ungated (fx : x ≠ .FX) (xo : x ≠ .XO) :
    tableLeft s x h = ((left s x).putSheet h none).putTimers h SheetTimers.none := by
  have untold : (left s x).gatePassed x h = left s x := by
    unfold State.gatePassed
    split
    · exact absurd rfl fx
    · exact absurd rfl xo
    · rfl
  rw [tableLeft, untold]

theorem tableLeft_freed (fx : x ≠ .FX) (xo : x ≠ .XO) : HandleFreed h (left s x) (tableLeft s x h) := by
  rw [tableLeft_ungated fx xo]
  exact handleFreed _ h

/-- A sheet that leaves its entry at a sensor without a gate leaves the output unit as it is. -/
theorem tableLeft_output (fx : x ≠ .FX) (xo : x ≠ .XO) : (tableLeft s x h).output = s.output := by
  rw [tableLeft_ungated fx xo]
  simp [left]

end

/-- Settles O28, with the stacker a parameter: at its sensor no gate is told. -/
theorem directDelivery : Obligations.DirectDelivery := by
  intro s k h sh x covered occ hs judged route free inTime
  have elsewhere : x ≠ .LI ∧ x ≠ .LH ∧ x ≠ .FX ∧ x ≠ .XO := by cases k <;> decide
  obtain ⟨li, lh, fx, xo⟩ := elsewhere
  have route : sh.route = some k.route := by cases k <;> exact route
  have at_ : k.route.sensor = x := by cases k <;> rfl
  have hand (u : State) (y : Sheet) : u.handOverSheet y k.route = u.deliverDirect y k := by cases k <;> rfl
  obtain ⟨c, edge⟩ := exec_trailingEdge_arrives covered occ hs judged (accepted inTime lh) li route at_ free
  rw [hand] at edge
  obtain ⟨a, b, drops, hands, own, other, rest, keeps⟩ := delivers (tableLeft s x h) { sh with covering := c } k
  rw [tableLeft_tick] at hands
  rw [tableLeft_output fx xo] at own other rest
  exact ⟨_, _, a, b, _, _, _, edge, vacated s x, tableLeft_freed fx xo, drops, hands, own, other, rest, keeps,
    followsLeaving _ _, granted _⟩

/-! ## The accumulator set (R109, R110) -/

theorem append_eq (r : SetRecord) (sh : Sheet) : r.append sh = { r with
    state := if r.members.length + 1 = r.n ∧ (r.broken || sh.breaks) = false ∧ r.condition ≠ .disturbed then .complete
      else r.state
    members := r.members ++ [sh.member], broken := r.broken || sh.breaks } := by
  unfold SetRecord.append
  dsimp only
  rw [List.length_append, List.length_singleton]
  split <;> rfl

theorem opensWith_iff {r : SetRecord} {sh : Sheet} : r.opensWith sh = true ↔ r.state = .empty ∧ sh.plan.k = 1 := by
  simp [SetRecord.opensWith]

theorem continuesWith_iff {r : SetRecord} {sh : Sheet} : r.continuesWith sh = true ↔
    r.state = .collecting ∧ r.members.length < r.n ∧ r.copy = some sh.plan.copy
      ∧ sh.plan.k = r.members.length + 1 := by
  simp [SetRecord.continuesWith, and_assoc]

section
variable {u : State} {sh : Sheet}

theorem takeMember_opens (opens : u.output.set.opensWith sh = true) :
    u.takeMember sh = (u.modifySet fun r => (r.opened sh).append sh).examineSet := if_pos opens

theorem takeMember_continues (fresh : ¬ u.output.set.opensWith sh = true)
    (continues : u.output.set.continuesWith sh = true) :
    u.takeMember sh = (u.modifySet fun r => r.append sh).examineSet :=
  (if_neg fresh).trans (if_pos continues)

theorem takeMember_overruns (fresh : ¬ u.output.set.opensWith sh = true)
    (foreign : ¬ u.output.set.continuesWith sh = true) : u.takeMember sh = u.overrun sh :=
  (if_neg fresh).trans (if_neg foreign)

end

/-- Settles O30: by how the set takes the sheet. -/
theorem setCollects : Obligations.SetCollects := by
  intro s h sh covered occ hs judged route free inTime
  obtain ⟨c, edge⟩ := exec_trailingEdge_arrives covered occ hs judged (accepted inTime (by decide)) (by decide) route
    rfl free
  have freed : HandleFreed h (left s .AC) (tableLeft s .AC h) := tableLeft_freed (by decide) (by decide)
  have set : (tableLeft s .AC h).output.set = s.output.set := by rw [tableLeft_output (by decide) (by decide)]
  have takes {w : State} (taken : (tableLeft s .AC h).takeMember { sh with covering := c } = w) :
      exec (.trailingEdge .AC) s = .next ((w.examineCopy sh.plan.copy).examineDrain.evaluate).grant := by
    rw [edge, ← taken]
    rfl
  refine ⟨fun opens => ⟨_, _, _, _, _, takes (takeMember_opens ?_), vacated s .AC, freed,
      ⟨_, ?_, setExamined _⟩, followsLeaving _ _, granted _⟩,
    fun continues => ⟨_, _, _, _, _, takes (takeMember_continues ?_ ?_), vacated s .AC, freed,
      ⟨_, ?_, setExamined _⟩, followsLeaving _ _, granted _⟩,
    fun notOpens notContinues => ⟨_, _, _, _, _, takes (takeMember_overruns ?_ ?_), vacated s .AC, freed,
      overruns _ _, followsLeaving _ _, granted _⟩⟩
  · rw [set]
    exact opensWith_iff.2 opens
  · have becomes := setBecomes (tableLeft s .AC h) fun r => (r.opened { sh with covering := c }).append { sh with covering := c }
    rw [set, append_eq] at becomes
    simp only [Sheet.breaks, ← Bool.or_assoc] at becomes ⊢
    exact becomes
  · rw [set, opensWith_iff]
    rintro ⟨empty, -⟩
    exact nomatch empty.symm.trans continues.1
  · rw [set]
    exact continuesWith_iff.2 continues
  · have becomes := setBecomes (tableLeft s .AC h) fun r => r.append { sh with covering := c }
    rw [set, append_eq, continues.1] at becomes
    simp only [Sheet.breaks, ← Bool.or_assoc] at becomes ⊢
    exact becomes
  · rw [set]
    exact mt opensWith_iff.1 notOpens
  · rw [set]
    exact mt continuesWith_iff.1 notContinues

end Sys2Proof.Proofs.Trailing

/-! The lines of the image fault, the trays, the stackers and the purge bin (chapters 4 to 6): the statements O31, O32
and O33. -/

namespace Sys2Proof.Proofs.OutputLines
open Sys2Proof Sys2Proof.Machine Sys2Proof.Proofs.CommandFrames Sys2Proof.Proofs.Admission

/-! ## What a withdrawal and a break leave alone -/

theorem each_keeps {α : Type} {R : α → State → State → Prop} {L : List Block}
    (one : ∀ x u t, R x u t → KeepsBut L u t) {l : List α} {u t : State} (h : Each R l u t) : KeepsBut L u t := by
  induction l generalizing u with
  | nil => exact KeepsBut.mono h (by simp)
  | cons x xs ih =>
    obtain ⟨v, first, others⟩ := h
    exact (one x u v first).trans (ih others)

theorem handsOver_keeps {r : LogRecord} {u t : State} (h : HandsOver r u t) :
    KeepsBut [.junction, .log, .attention] u t := h.2.2

theorem withdraws_keeps {gone queue : List PlanEntry} {tail : Option Tail} {u t : State}
    (h : Withdraws gone queue tail u t) :
    t.plan = { u.plan with queue := queue, tail := tail }
      ∧ KeepsBut [.plan, .buffers, .junction, .log, .attention] u t := by
  obtain ⟨v, w, plan, keeps, ⟨-, -, dropped⟩, records⟩ := h
  have handed := each_keeps (fun _ _ _ => handsOver_keeps) records
  exact ⟨(handed .plan (by simp)).trans ((dropped .plan (by simp)).trans plan),
    ((keeps.mono (by simp)).trans (dropped.mono (by simp))).trans (handed.mono (by simp))⟩

/-- A break of a copy with a live sheet leaves its record to wait on that sheet (R118). -/
theorem breaksCopy_live {c : Copy} {mode : OutputMode} {u t : State} (broken : BreaksCopy c mode u t)
    (live : ∃ h sh, u.sheet h = some sh ∧ sh.plan.copy = c) :
    t.plan.queue = u.plan.queue.filter (fun e => !(e.copy == c))
      ∧ ∃ r, t.output.brokenRecord c = some r ∧ r.withdrawalPending = false := by
  obtain ⟨v, sheets, -, -, -, kept, a, b, -, kept', record, -, withdrawn, -, examined⟩ := broken
  obtain ⟨plan, kept''⟩ := withdraws_keeps withdrawn
  have record' : b.output.brokenRecord c = some ⟨c, _, false⟩ :=
    (congrArg (·.brokenRecord c) (kept'' .output (by simp))).trans record
  have live' : ∃ h sh, b.sheet h = some sh ∧ sh.plan.copy = c := by
    obtain ⟨h, sh, at_h, own⟩ := live
    have tracker : b.tracker = v.tracker := (kept'' .tracker (by simp)).trans (kept' .tracker (by simp))
    refine ⟨h, { sh with broken := true }, (State.sheet_congr tracker h).trans ?_, own⟩
    rw [sheets, at_h, Option.map_some, if_pos own]
  have still : KeepsBut [] b t := (examined _ record').1 (.inr live')
  have queue : a.plan.queue = u.plan.queue :=
    congrArg PlanIntake.queue ((kept' .plan (by simp)).trans (kept .plan (by simp)))
  have plan' : t.plan = _ := (still .plan (by simp)).trans plan
  have output : t.output = b.output := still .output (by simp)
  refine ⟨?_, _, (congrArg (·.brokenRecord c) output).trans record', rfl⟩
  rw [plan', queue]

/-! ## The image fault (R96) -/

theorem exec_imageFault {s : State} (clear : s.lines.imageFault = false) :
    exec .imageFault s
      = .next (s.setLines { s.lines with imageFault := true }).begin.imageFaultAsserted.grant := by
  show Host.Outcome.next (if s.begin.lines.imageFault then _ else _ : State).grant = _
  rw [if_neg (show ¬ s.begin.lines.imageFault = true from Bool.eq_false_iff.1 clear)]
  rfl

theorem imageFaultAsserted_marks {u : State} {h : Handle} (occ : (u.sensor .TR).occupant = .sheet h)
    (judged : u.run.state.judgesSheets = true) : u.imageFaultAsserted = u.markImageFault h := by
  simp only [State.imageFaultAsserted, occ]
  exact if_pos judged

theorem imageFaultAsserted_none {u : State}
    (unjudged : (∀ h, (u.sensor .TR).occupant ≠ .sheet h) ∨ u.run.state.judgesSheets = false) :
    u.imageFaultAsserted = u := by
  unfold State.imageFaultAsserted
  split
  · next h occ =>
    exact if_neg (Bool.eq_false_iff.1 (unjudged.resolve_left fun other => other h occ))
  all_goals rfl

/-- Settles O31: the mark where a sheet is judged at TR, and a break of a copy that its own sheet keeps open. -/
theorem imageFaultEffect : Obligations.ImageFaultEffect := by
  intro s clear
  refine ⟨fun h sh occ judged hs => ?_, fun unjudged => ⟨_, exec_imageFault clear, ?_⟩⟩
  · have asserted := exec_imageFault clear
    rw [imageFaultAsserted_marks (u := (s.setLines { s.lines with imageFault := true }).begin) occ judged] at asserted
    have faulted := sideFaulted (s.setLines { s.lines with imageFault := true }).begin h sh hs
    refine ⟨_, _, _, asserted, begun _, faulted, granted _, fun first => ?_⟩
    obtain ⟨v, ⟨entry, -, -, -, kept⟩, breaks, -⟩ := faulted
    have live : ∃ k y, v.sheet k = some y ∧ y.plan.copy = sh.plan.copy :=
      ⟨h, _, entry, by split <;> rfl⟩
    have queue : v.plan.queue = s.plan.queue := congrArg PlanIntake.queue (kept .plan (by simp))
    rw [← queue]
    obtain ⟨left, waits⟩ := breaksCopy_live (breaks first) live
    exact ⟨left, waits⟩
  · rw [imageFaultAsserted_none (u := (s.setLines { s.lines with imageFault := true }).begin) unjudged]
    exact ⟨actsOn_of_effect (by simp [keepsBut_iff]) rfl rfl, rfl⟩

/-! ## Trays (R67, R68) -/

theorem exec_trayEmptyDeasserted {s : State} {k : Tray} (empty : s.lines.trayEmpty[k] = true) :
    exec (.trayEmptyDeasserted k) s = .next (((s.setLines { s.lines with
      trayEmpty := put s.lines.trayEmpty k false }).setRun { s.run with holds := { s.run.holds with
        tray := put s.run.holds.tray k false } }).begin.evaluate).grant := by
  show Host.Outcome.next (if s.begin.lines.trayEmpty[k] then _ else _ : State).grant = _
  rw [if_pos (show s.begin.lines.trayEmpty[k] = true from empty)]
  rfl

/-! ## The feed holds of the stackers and the purge bin (R120) -/

/-- A line of the output unit has fallen: its hold removed, which prompts admission, and the set examined. -/
def fallen (u : State) (holds : FeedHolds) (held : Bool) : State :=
  (if held then (u.setHolds holds).evaluate else u.setHolds holds).examineSet

section
variable {s : State}

theorem exec_purgeFull {b : Bool} (edge : s.lines.purgeFull ≠ b) : exec (.purgeFull b) s = .next
    (if s.run.state = .inactive then s.begin.setLines { s.lines with purgeFull := b }
      else if b then (s.begin.setLines { s.lines with purgeFull := b }).setHolds { s.run.holds with purgeFull := true }
      else fallen (s.begin.setLines { s.lines with purgeFull := b }) { s.run.holds with purgeFull := false }
        s.run.holds.purgeFull).grant := by
  show Host.Outcome.next (if s.begin.lines.purgeFull = b then _ else _ : State).grant = _
  rw [if_neg (show ¬ s.begin.lines.purgeFull = b from edge)]
  rfl

theorem exec_stackerFull {k : Stacker} {b : Bool} (edge : s.lines.stackerFull k ≠ b) : exec (.stackerFull k b) s = .next
    (if s.run.state = .inactive then s.begin.setLines (s.lines.setStackerFull k b)
      else if b then (s.begin.setLines (s.lines.setStackerFull k b)).stackerFilled
      else fallen (s.begin.setLines (s.lines.setStackerFull k b)) { s.run.holds with stackersFull := false }
        s.run.holds.stackersFull).grant := by
  show Host.Outcome.next (if s.begin.lines.stackerFull k = b then _ else _ : State).grant = _
  rw [if_neg (show ¬ s.begin.lines.stackerFull k = b from edge)]
  rfl

variable {l : Lines} {holds : FeedHolds}

theorem fallen_spec (s : State) (l : Lines) (holds : FeedHolds) (held : Bool) : ∃ u v w,
    u.lines = l ∧ u.run = { s.run with holds := holds } ∧ u.pulses = [] ∧ KeepsBut [.lines, .run, .pulses] s u
      ∧ (held = true → Evaluates u v) ∧ (held = false → KeepsBut [] u v) ∧ SetExamined v w
      ∧ Granted w (fallen (s.begin.setLines l) holds held).grant := by
  refine ⟨(s.begin.setLines l).setHolds holds, _, _, rfl, rfl, rfl, by simp [keepsBut_iff, State.setHolds], ?_, ?_,
    setExamined _, granted _⟩
  · rintro rfl
    exact evaluates _
  · rintro rfl
    exact .refl

/-- Nothing of an EMPTY, SOUND set is ejected or dumped (R111, R112). -/
theorem examineSet_empty {u : State} (empty : u.output.set.state = .empty) (sound : u.output.set.condition = .sound) :
    u.examineSet = u := by
  have stays : u.examineEject = u := by simp [State.examineEject, State.mayEject, empty]
  rw [State.examineSet, stays]
  simp [State.examineDump, State.mayDump, empty, sound]

theorem fallen_held (empty : s.output.set.state = .empty) (sound : s.output.set.condition = .sound) :
    EvaluatedAs ((s.setLines l).setRun { s.run with holds := holds })
      (fallen (s.begin.setLines l) holds true).grant := by
  have output : ((s.begin.setLines l).setHolds holds).evaluate.output = s.output := by simp [State.setHolds]
  have same : fallen (s.begin.setLines l) holds true = ((s.begin.setLines l).setHolds holds).evaluate :=
    examineSet_empty (u := ((s.begin.setLines l).setHolds holds).evaluate) (by rw [output]; exact empty)
      (by rw [output]; exact sound)
  rw [same]
  exact evaluatedAs_begin ((s.setLines l).setRun { s.run with holds := holds })

theorem fallen_free (empty : s.output.set.state = .empty) (sound : s.output.set.condition = .sound)
    (free : holds = s.run.holds) :
    ActsOn [.lines] s (fallen (s.begin.setLines l) holds false).grant
      ∧ (fallen (s.begin.setLines l) holds false).grant.lines = l := by
  subst free
  have same : fallen (s.begin.setLines l) s.run.holds false = (s.begin.setLines l).setHolds s.run.holds :=
    examineSet_empty (u := (s.begin.setLines l).setHolds s.run.holds) empty sound
  rw [same]
  exact ⟨actsOn_of_effect (by simp [keepsBut_iff, State.setHolds]) rfl rfl, rfl⟩

theorem setLines_only (s : State) (l : Lines) :
    ActsOn [.lines] s (s.begin.setLines l).grant ∧ (s.begin.setLines l).grant.lines = l :=
  ⟨actsOn_of_effect (by simp [keepsBut_iff]) rfl rfl, rfl⟩

/-- A STACKER FULL line has risen: the hold is added when both lines are then asserted. -/
theorem stackerFilled_spec (s : State) (l : Lines) :
    ActsOn [.lines, .run] s (s.begin.setLines l).stackerFilled.grant
      ∧ (s.begin.setLines l).stackerFilled.grant.lines = l
      ∧ (s.begin.setLines l).stackerFilled.grant.run = { s.run with holds := { s.run.holds with
          stackersFull := s.run.holds.stackersFull || l.bothFull } } := by
  cases both : l.bothFull with
  | true =>
    have filled : (s.begin.setLines l).stackerFilled
        = (s.begin.setLines l).setHolds { s.run.holds with stackersFull := true } := if_pos both
    rw [filled, Bool.or_true]
    exact ⟨actsOn_of_effect (by simp [keepsBut_iff, State.setHolds]) rfl rfl, rfl, rfl⟩
  | false =>
    have filled : (s.begin.setLines l).stackerFilled = s.begin.setLines l := if_neg (Bool.eq_false_iff.1 both)
    rw [filled, Bool.or_false]
    exact ⟨actsOn_of_effect (by simp [keepsBut_iff]) rfl rfl, rfl, rfl⟩

section
variable {s : State} {k : Stacker} {b : Bool}

theorem exec_purgeFull_inactive (edge : s.lines.purgeFull ≠ b) (inactive : s.run.state = .inactive) :
    exec (.purgeFull b) s = .next (s.begin.setLines { s.lines with purgeFull := b }).grant := by
  rw [exec_purgeFull edge, if_pos inactive]

theorem exec_stackerFull_inactive (edge : s.lines.stackerFull k ≠ b) (inactive : s.run.state = .inactive) :
    exec (.stackerFull k b) s = .next (s.begin.setLines (s.lines.setStackerFull k b)).grant := by
  rw [exec_stackerFull edge, if_pos inactive]

theorem exec_purgeFull_falls (full : s.lines.purgeFull = true) (active : s.run.state ≠ .inactive) :
    exec (.purgeFull false) s = .next (fallen (s.begin.setLines { s.lines with purgeFull := false })
      { s.run.holds with purgeFull := false } s.run.holds.purgeFull).grant := by
  rw [exec_purgeFull (by simp [full]), if_neg active, if_neg Bool.false_ne_true]

theorem exec_stackerFull_falls (full : s.lines.stackerFull k = true) (active : s.run.state ≠ .inactive) :
    exec (.stackerFull k false) s = .next (fallen (s.begin.setLines (s.lines.setStackerFull k false))
      { s.run.holds with stackersFull := false } s.run.holds.stackersFull).grant := by
  rw [exec_stackerFull (by simp [full]), if_neg active, if_neg Bool.false_ne_true]

theorem exec_purgeFull_rises (clear : s.lines.purgeFull = false) (active : s.run.state ≠ .inactive) :
    exec (.purgeFull true) s = .next ((s.begin.setLines { s.lines with purgeFull := true }).setHolds
      { s.run.holds with purgeFull := true }).grant := by
  rw [exec_purgeFull (by simp [clear]), if_neg active, if_pos rfl]

theorem exec_stackerFull_rises (clear : s.lines.stackerFull k = false) (active : s.run.state ≠ .inactive) :
    exec (.stackerFull k true) s
      = .next (s.begin.setLines (s.lines.setStackerFull k true)).stackerFilled.grant := by
  rw [exec_stackerFull (by simp [clear]), if_neg active, if_pos rfl]

end

end

/-- Settles O32: the tray's hold by its line, and the other two by theirs, before and after activation. -/
theorem lineHolds : Obligations.LineHolds := by
  refine ⟨fun s k empty => ⟨_, exec_trayEmptyDeasserted empty, ?_⟩, fun s => ⟨fun inactive => ?_, fun active => ?_,
    fun active => ?_⟩⟩
  · rw [show (((s.setLines { s.lines with trayEmpty := put s.lines.trayEmpty k false }).setRun { s.run with
      holds := { s.run.holds with tray := put s.run.holds.tray k false } }).begin.evaluate).grant.run
        = { s.run with holds := { s.run.holds with tray := put s.run.holds.tray k false } } by simp,
      show (((s.setLines { s.lines with trayEmpty := put s.lines.trayEmpty k false }).setRun { s.run with
      holds := { s.run.holds with tray := put s.run.holds.tray k false } }).begin.evaluate).grant.lines
        = { s.lines with trayEmpty := put s.lines.trayEmpty k false } by simp]
    exact ⟨put_same _ _ _, fun j hj => put_other _ _ _ _ hj, put_same _ _ _, fun j hj => put_other _ _ _ _ hj,
      evaluatedAs_begin _⟩
  · refine ⟨fun b edge => ⟨_, exec_purgeFull_inactive edge inactive, setLines_only s _⟩,
      fun b edge => ⟨_, exec_stackerFull_inactive edge inactive, setLines_only s _⟩,
      fun b edge => ⟨_, exec_stackerFull_inactive edge inactive, setLines_only s _⟩⟩
  · refine ⟨fun clear => ⟨_, exec_purgeFull_rises clear active, actsOn_of_effect (by simp [keepsBut_iff, State.setHolds])
        rfl rfl, rfl, rfl⟩,
      fun clear => ⟨_, exec_stackerFull_rises clear active, stackerFilled_spec s _⟩,
      fun clear => ⟨_, exec_stackerFull_rises clear active, ?_⟩,
      fun empty sound => ⟨fun full held => ?_, fun full held => ?_, fun full held => ?_, fun full free => ?_,
        fun full free => ?_, fun full free => ?_⟩⟩
    · have filled := stackerFilled_spec s (s.lines.setStackerFull .k2 true)
      rw [show (s.lines.setStackerFull .k2 true).bothFull = s.lines.stackerFull1 from Bool.and_true _] at filled
      exact filled
    · rw [exec_purgeFull_falls full active, held]
      exact ⟨_, rfl, fallen_held empty sound⟩
    · rw [exec_stackerFull_falls (k := .k1) full active, held]
      exact ⟨_, rfl, fallen_held empty sound⟩
    · rw [exec_stackerFull_falls (k := .k2) full active, held]
      exact ⟨_, rfl, fallen_held empty sound⟩
    · rw [exec_purgeFull_falls full active, free]
      exact ⟨_, rfl, fallen_free empty sound (by rw [← free])⟩
    · rw [exec_stackerFull_falls (k := .k1) full active, free]
      exact ⟨_, rfl, fallen_free empty sound (by rw [← free])⟩
    · rw [exec_stackerFull_falls (k := .k2) full active, free]
      exact ⟨_, rfl, fallen_free empty sound (by rw [← free])⟩
  · have falls {i : Instr} {l : Lines} {holds : FeedHolds} {held : Bool}
        (edge : exec i s = .next (fallen (s.begin.setLines l) holds held).grant) : ∃ u v w t, exec i s = .next t
          ∧ u.lines = l ∧ u.run = { s.run with holds := holds } ∧ u.pulses = []
          ∧ KeepsBut [.lines, .run, .pulses] s u ∧ (held = true → Evaluates u v) ∧ (held = false → KeepsBut [] u v)
          ∧ SetExamined v w ∧ Granted w t := by
      obtain ⟨u, v, w, lines, run, pulses, keeps, evaluated, stays, examined, granted⟩ := fallen_spec s l holds held
      exact ⟨u, v, w, _, edge, lines, run, pulses, keeps, evaluated, stays, examined, granted⟩
    exact ⟨fun full => falls (exec_purgeFull_falls full active), fun full => falls (exec_stackerFull_falls full active),
      fun full => falls (exec_stackerFull_falls full active)⟩

/-! ## An eject that a falling line allows (R111) -/

/-- An evaluation of admission reaches neither the sensors nor the timing set. -/
theorem evaluateTimes_paths (n : Nat) (u : State) : (u.evaluateTimes n).tracker.timing = u.tracker.timing
    ∧ (u.evaluateTimes n).tracker.sensors = u.tracker.sensors := by
  induction n generalizing u with
  | zero => exact ⟨rfl, rfl⟩
  | succ n ih =>
    rw [State.evaluateTimes]
    split
    · exact ⟨rfl, rfl⟩
    · exact ih _

theorem decideBoundary_set (u : State) (flag : Bool) : (u.decideBoundary flag).output.set = u.output.set := by
  unfold State.decideBoundary State.settleBoundary
  dsimp only
  split <;> simp

theorem launch_set (u : State) (d : Destination) (l : List Member) :
    (u.launch d l).output.set.condition = u.output.set.condition
      ∧ (u.launch d l).output.set.state ≠ .collecting := by
  unfold State.launch
  dsimp only
  simp only [State.placeSet_keeps, State.pulse_keeps]
  exact ⟨rfl, by show (if d = .purge then SetState.dumping else .ejecting) ≠ _; split <;> decide⟩

theorem beginEject_set (u : State) :
    u.beginEject.output.set.condition = u.output.set.condition ∧ u.beginEject.output.set.state ≠ .collecting := by
  have decided : ((u.decideBoundary u.output.set.breakFlag).launch
        (u.decideBoundary u.output.set.breakFlag).output.active.destination u.output.set.members).output.set.condition
          = u.output.set.condition
      ∧ ((u.decideBoundary u.output.set.breakFlag).launch
        (u.decideBoundary u.output.set.breakFlag).output.active.destination u.output.set.members).output.set.state
          ≠ .collecting := by
    obtain ⟨condition, state⟩ := launch_set (u.decideBoundary u.output.set.breakFlag)
      (u.decideBoundary u.output.set.breakFlag).output.active.destination u.output.set.members
    exact ⟨condition.trans (by rw [decideBoundary_set]), state⟩
  unfold State.beginEject
  dsimp only
  split
  · split
    · exact launch_set _ _ _
    · exact decided
  · exact decided

/-- A set that goes into an eject is not dumped as well. -/
theorem examineSet_ejects {u : State} (may : u.mayEject = true) : u.examineSet = u.beginEject := by
  obtain ⟨condition, state⟩ := beginEject_set u
  have sound : u.output.set.condition = .sound := by
    simp only [State.mayEject, Bool.and_eq_true, beq_iff_eq] at may
    exact may.1.1.2
  have ejects : u.examineEject = u.beginEject := if_pos may
  rw [State.examineSet, ejects]
  simp [State.examineDump, State.mayDump, condition, sound, state]

/-- Settles O33: the line's fall leaves the set its eject, and no dump. -/
theorem ejectBegins : Obligations.EjectBegins := by
  intro s k c timing full1 full2 runs complete sound members config set
  have full : s.lines.stackerFull k = true := by cases k <;> assumption
  have active : s.run.state ≠ .inactive := by
    intro inactive
    simp [inactive] at runs
  have edge := exec_stackerFull_falls full active
  obtain ⟨u, hu⟩ : ∃ u, u = (s.begin.setLines (s.lines.setStackerFull k false)).setHolds
    { s.run.holds with stackersFull := false } := ⟨_, rfl⟩
  obtain ⟨v, hv⟩ : ∃ v, v = if s.run.holds.stackersFull then u.evaluate else u := ⟨_, rfl⟩
  have evaluated : s.run.holds.stackersFull = true → Evaluates u v := fun held => by
    rw [hv, if_pos held]
    exact evaluates u
  have stays : s.run.holds.stackersFull = false → KeepsBut [] u v := fun free => by
    rw [hv, if_neg (Bool.eq_false_iff.1 free)]
    exact .refl
  have kept : KeepsBut [.plan, .scheduler, .tracker] u v := by
    cases held : s.run.holds.stackersFull with
    | true =>
      obtain ⟨-, -, -, kept⟩ := evaluated held
      exact kept
    | false => exact (stays held).mono (by simp)
  have timing' : v.tracker.timing = u.tracker.timing := by
    rw [hv]
    split
    · exact (evaluateTimes_paths 17 u).1
    · rfl
  have begun := ejectBegun v
  have output : v.output = s.output := (kept .output (by simp)).trans (by simp [hu])
  have run : v.run.state = s.run.state := (congrArg RunControl.state (kept .run (by simp))).trans (by simp [hu, State.setHolds])
  have lines : v.lines = s.lines.setStackerFull k false := (kept .lines (by simp)).trans (by simp [hu])
  have fell : v.lines.bothFull = false := by rw [lines]; cases k <;> simp [Lines.setStackerFull, Lines.bothFull]
  have may : v.mayEject = true := by
    simp [State.mayEject, output, run, complete, sound, fell, runs, or_assoc]
  have ejects := examineSet_ejects may
  obtain ⟨committed, decided⟩ := begun c timing ((kept .config (by simp)).trans (by simp [hu, config]))
    (timing'.trans (by simp [hu, set])) (by rw [output]; exact members)
  rw [output] at committed decided
  refine ⟨u, v, v.beginEject, _, edge, ?_, ?_, ?_, ?_, evaluated, stays, fun a d copy names => committed a d copy names,
    decided, ?_⟩
  · cases k <;> simp [hu, Lines.setStackerFull]
  · simp [hu, State.setHolds]
  · simp [hu]
  · simp [hu, keepsBut_iff, State.setHolds]
  · rw [← ejects, hv, hu]
    exact granted _

end Sys2Proof.Proofs.OutputLines

/-! The drive monitor's events (chapter 7): windows, locks, losses and the lock timeout; the statements O34, O35 and
O36. -/

namespace Sys2Proof.Proofs.DriveEvents
open Sys2Proof Sys2Proof.Machine Sys2Proof.Proofs.CommandFrames Sys2Proof.Proofs.OutputLines

/-! ## The judgement of a closing window -/

theorem inBand_iff {expected tolerance count : Nat} :
    inBand expected tolerance count = true ↔ InBand expected tolerance count := by
  simp [inBand, InBand]

section
variable {s : State} {close : Tick} {c : Configuration} {timing : TimingSet}

/-- The drive after a window has closed, with the report that follows. -/
def judged (s : State) : Drive × DriveReport := s.drive.closeWindow s.tick s.inLockBand s.inRunBand

theorem exec_encoderWindowClose (opened : s.drive.windowClose = some close) (due : notEarlier s.tick close = true) :
    exec .encoderWindowClose s
      = .next ((s.setDrive (judged s).1).begin.takeDriveReport s.drive.current (judged s).2).grant := by
  show Host.Outcome.next (if s.begin.due s.begin.drive.windowClose then _ else _ : State).grant = _
  rw [if_pos (show s.begin.due s.begin.drive.windowClose = true by simp [State.due, opened, due])]
  rfl

theorem exec_encoderWindowClose_early (opened : s.drive.windowClose = some close)
    (early : notEarlier s.tick close = false) : exec .encoderWindowClose s = .next s.begin.grant := by
  show Host.Outcome.next (if s.begin.due s.begin.drive.windowClose then _ else _ : State).grant = _
  rw [if_neg (show ¬ s.begin.due s.begin.drive.windowClose = true by simp [State.due, opened, early])]

/-- The judgement of a closing window, by the drive state. -/
theorem judged_eq (s : State) : judged s = match s.drive.state with
    | .spinUp => s.nextWindow.judgeLock (s.inLockBand s.drive.count)
    | .relock => s.nextWindow.judgeLock (s.inLockBand s.drive.count)
    | .locked => s.nextWindow.judgeRun (s.inRunBand s.drive.count) s.drive.count
    | .coasting => (s.nextWindow.judgeCoast s.drive.count, .nothing)
    | .off => ({ s.drive with count := 0, windowClose := none }, .nothing) := rfl

theorem judged_seeking (seeking : s.drive.state.seeking = true) :
    judged s = s.nextWindow.judgeLock (s.inLockBand s.drive.count) := by
  rw [judged_eq]
  cases state : s.drive.state with
  | spinUp => rfl
  | relock => rfl
  | _ => simp [state, DriveState.seeking] at seeking

theorem judged_locked (locked : s.drive.state = .locked) :
    judged s = s.nextWindow.judgeRun (s.inRunBand s.drive.count) s.drive.count := by rw [judged_eq, locked]

theorem judged_coasting (coasting : s.drive.state = .coasting) :
    judged s = (s.nextWindow.judgeCoast s.drive.count, .nothing) := by rw [judged_eq, coasting]

theorem inLockBand_iff (config : s.config = some c) : s.inLockBand s.drive.count = true
    ↔ InBand (encoderCountOf c c.speed[s.drive.target]) c.lockTolerance s.drive.count := by
  simp only [State.inLockBand, config, inBand_iff]

theorem inRunBand_iff (config : s.config = some c) (set : s.tracker.timing = some timing) :
    s.inRunBand s.drive.count = true ↔ InBand timing.encoderCount c.runTolerance s.drive.count := by
  simp only [State.inRunBand, config, set, inBand_iff]

/-- A window whose judgement reports nothing changes the drive alone. -/
theorem closes_quietly {d : Drive} (opened : s.drive.windowClose = some close)
    (due : notEarlier s.tick close = true) (quiet : judged s = (d, .nothing)) :
    ∃ t, exec .encoderWindowClose s = .next t ∧ ActsOn [.drive] s t ∧ t.drive = d := by
  refine ⟨_, exec_encoderWindowClose opened due, ?_⟩
  rw [quiet]
  exact ⟨actsOn_of_effect (by simp [keepsBut_iff, State.takeDriveReport]) rfl rfl, rfl⟩

end

theorem judgeLock_outside (d : Drive) : d.judgeLock false = ({ d with inBandRun := 0 }, .nothing) := rfl

theorem judgeLock_short {d : Drive} (short : d.inBandRun + 1 < 4) :
    d.judgeLock true = ({ d with inBandRun := d.inBandRun + 1 }, .nothing) :=
  (if_pos rfl).trans (if_neg (Nat.not_le.2 short))

theorem judgeLock_fourth {d : Drive} (fourth : d.inBandRun = 3) : d.judgeLock true = (d.lock, .lock) := by
  simp [Drive.judgeLock, fourth]

theorem judgeRun_outside (d : Drive) (count : Nat) : d.judgeRun false count =
    ({ d with deviationRun := min 3 (d.deviationRun + 1)
              zeroRun := if count = 0 then min 2 (d.zeroRun + 1) else 0 },
      if (if count = 0 then min 2 (d.zeroRun + 1) else 0) = 2 then .loss
      else if min 3 (d.deviationRun + 1) = 3 then .deviation else .nothing) := rfl

theorem judgeCoast_turning {d : Drive} {count : Nat} (turned : count ≠ 0) :
    d.judgeCoast count = { d with zeroRun := 0 } := if_neg turned

theorem judgeCoast_first {d : Drive} (short : d.zeroRun + 1 < 2) :
    d.judgeCoast 0 = { d with zeroRun := d.zeroRun + 1 } := (if_pos rfl).trans (if_neg (Nat.not_le.2 short))

theorem judgeCoast_second {d : Drive} (second : d.zeroRun = 1) :
    d.judgeCoast 0 = { d with zeroRun := 2, state := .off, count := 0, windowClose := none } :=
  (if_pos rfl).trans (if_pos (by omega))

/-- Settles O34: each close that reports nothing, by the drive state. -/
theorem encoderWindows : Obligations.EncoderWindows := by
  intro s
  refine ⟨⟨_, rfl, actsOn_of_effect (by simp [keepsBut_iff]) rfl rfl, ?_⟩,
    fun c close config opened => ⟨fun early => ⟨_, exec_encoderWindowClose_early opened early, actsOn_begin [] s⟩,
      fun due => ?_⟩⟩
  · show s.drive.pulse = _
    unfold Drive.pulse
    split
    · rfl
    · rfl
  · have closes {d : Drive} (quiet : judged s = (d, .nothing)) := closes_quietly opened due quiet
    refine ⟨fun seeking outside => closes ?_, fun seeking inside short => closes ?_,
      fun coasting turned => closes ?_, fun coasting zero short => closes ?_, fun coasting zero second => closes ?_,
      fun timing locked set => ⟨fun inside => closes ?_, fun outside turned few => closes ?_,
        fun outside zero few zeros => closes ?_⟩⟩
    · rw [judged_seeking seeking, Bool.eq_false_iff.2 (mt (inLockBand_iff config).1 outside), judgeLock_outside]
    · rw [judged_seeking seeking, (inLockBand_iff config).2 inside, judgeLock_short (d := s.nextWindow) short]
      rfl
    · rw [judged_coasting coasting, judgeCoast_turning turned]
    · rw [judged_coasting coasting, zero, judgeCoast_first (d := s.nextWindow) short]
      rfl
    · rw [judged_coasting coasting, zero, judgeCoast_second (d := s.nextWindow) second]
      simp [State.nextWindow, zero]
    · rw [judged_locked locked, (inRunBand_iff config set).2 inside]
      rfl
    · rw [judged_locked locked, Bool.eq_false_iff.2 (mt (inRunBand_iff config set).1 outside), judgeRun_outside]
      have run : min 3 (s.drive.deviationRun + 1) = s.drive.deviationRun + 1 := by omega
      simp [State.nextWindow, turned, run, show s.drive.deviationRun ≠ 2 by omega]
    · rw [judged_locked locked, Bool.eq_false_iff.2 (mt (inRunBand_iff config set).1 outside), judgeRun_outside]
      have run : min 3 (s.drive.deviationRun + 1) = s.drive.deviationRun + 1 := by omega
      have run' : min 2 (s.drive.zeroRun + 1) = s.drive.zeroRun + 1 := by omega
      simp [State.nextWindow, zero, run, run', show s.drive.deviationRun ≠ 2 by omega,
        show s.drive.zeroRun ≠ 1 by omega]

/-! ## What admission looks at -/

/-- Two states that admission cannot tell apart. -/
structure SameAdmission (u w : State) : Prop where
  tick : w.tick = u.tick
  config : w.config = u.config
  lines : w.lines = u.lines
  plan : w.plan = u.plan
  scheduler : w.scheduler = u.scheduler
  tracker : w.tracker = u.tracker
  output : w.output = u.output
  drive : w.drive = u.drive
  run : w.run = u.run
  producer : w.log.producer = u.log.producer
  consumer : w.log.consumer = u.log.consumer

section
variable {u w : State}

theorem evaluation_same (same : SameAdmission u w) : w.evaluation = u.evaluation := by
  have free : w.freeHandle = u.freeHandle := by simp only [State.freeHandle, State.sheet, same.tracker]
  have entries : w.logEntries = u.logEntries := by rw [State.logEntries, same.config]; rfl
  have log : w.logFree = u.logFree := by rw [State.logFree, State.logUsed, entries, same.producer, same.consumer]; rfl
  have live : w.liveCount = u.liveCount := by rw [State.liveCount, same.tracker]; rfl
  have room : w.reserveAllows = u.reserveAllows := by rw [State.reserveAllows, log, live, same.output]; rfl
  have head (g : Grid) (q : List PlanEntry) : w.evaluateHead g q = u.evaluateHead g q := by
    cases q with
    | nil => rfl
    | cons x rest => simp only [State.evaluateHead, free, room, same.run, same.lines, same.tick, same.scheduler]
  simp only [State.evaluation, head, same.scheduler, same.run, same.drive, same.plan]

theorem sameAdmission_admitHead (same : SameAdmission u w) (g : Grid) (x : PlanEntry) (rest : List PlanEntry)
    (h : Handle) (front : Nat) : SameAdmission (u.admitHead g x rest h front) (w.admitHead g x rest h front) := by
  have after (v : State) : (v.admitHead g x rest h front).plan = { v.plan with queue := rest }
      ∧ (v.admitHead g x rest h front).scheduler = { v.scheduler with
          grid := some (g.admitHead x h front)
          admissionBounds := some ⟨front, g.finalSlot x front, g.pickDue front x.tray⟩
          timers := put v.scheduler.timers h (g.admissionTimers x front) }
      ∧ (v.admitHead g x rest h front).tracker = { v.tracker with
          sheets := put v.tracker.sheets h (some (admittedSheet g x front)) } := ⟨rfl, rfl, rfl⟩
  obtain ⟨plan, scheduler, tracker⟩ := after u
  obtain ⟨plan', scheduler', tracker'⟩ := after w
  exact ⟨same.tick, same.config, same.lines, by rw [plan, plan', same.plan], by rw [scheduler, scheduler', same.scheduler],
    by rw [tracker, tracker', same.tracker], same.output, same.drive, same.run, same.producer, same.consumer⟩

theorem evaluateTimes_same (n : Nat) (same : SameAdmission u w) : (w.evaluateTimes n).plan = (u.evaluateTimes n).plan
    ∧ (w.evaluateTimes n).scheduler = (u.evaluateTimes n).scheduler
    ∧ (w.evaluateTimes n).tracker = (u.evaluateTimes n).tracker := by
  induction n generalizing u w with
  | zero => exact ⟨same.plan, same.scheduler, same.tracker⟩
  | succ n ih =>
    rw [State.evaluateTimes, State.evaluateTimes, evaluation_same same]
    cases u.evaluation with
    | waits r => exact ⟨same.plan, congrArg (fun x : Scheduler => { x with waitReason := r }) same.scheduler, same.tracker⟩
    | admits g x rest h front => exact ih (sameAdmission_admitHead same g x rest h front)

/-- Admission does in both what it does in one. -/
theorem evaluate_same (same : SameAdmission u w) : w.evaluate.plan = u.evaluate.plan
    ∧ w.evaluate.scheduler = u.evaluate.scheduler ∧ w.evaluate.tracker = u.evaluate.tracker :=
  evaluateTimes_same 17 same

end

/-! ## Records and results behind what is under way -/

section
variable {u : State}

/-- An event record handed over with a write in flight and room in the list waits (R170, R171). -/
theorem handOver_waits {x : Word × LogRecord} (flying : u.log.inFlight = some x) (time : Tick) (body : LogBody)
    (few : ((x.2 :: u.log.waiting).filter (fun r => r.body.disposition.isNone)).length < 32) :
    u.handOver time body = u.setLog { u.log with waiting := u.log.waiting ++ [⟨time, body⟩] } := by
  have room : ¬ 32 ≤ u.log.eventsPending := by
    rw [LogWriter.eventsPending, LogWriter.pendingList_some _ flying]
    exact Nat.not_le.2 few
  simp [State.handOver, room, State.takeRecord, flying]

theorem finishIf_own {k : RunningCommand} {code : CommandCode} (own : u.run.running = some k)
    (named : k.code = some code) (result : ResultCode) (detail : Nat) :
    u.finishIf code result detail = (u.setRun u.run.finished).ask (finishOp k result detail) := by
  simp [State.finishIf, State.runs, own, named, State.finish]
  rfl

theorem finishIf_other {code : CommandCode} (other : ∀ k, u.run.running = some k → k.code ≠ some code)
    (result : ResultCode) (detail : Nat) : u.finishIf code result detail = u := by
  unfold State.finishIf State.runs
  cases own : u.run.running with
  | none => simp
  | some k => simp [other k own]

end

/-! ## The lock (R126, R128, R133) -/

/-- The drive as the fourth count in the lock band leaves it (R126). -/
def lockedDrive (s : State) : Drive :=
  { s.nextWindow with
    state := .locked, current := s.drive.target, speed := s.drive.target, lockDeadline := none,
    inBandRun := 0, deviationRun := 0, zeroRun := 0 }

/-- The state at a lock with the timing set and the grid that it starts. -/
def gridded (s : State) (c : Configuration) : State :=
  ((s.setDrive (lockedDrive s)).setTracker { s.tracker with
    timing := some (timingSet c s.drive.target) }).setScheduler { s.scheduler with
      grid := some ⟨s.tick, (timingSet c s.drive.target).pitch, (timingSet c s.drive.target).lead,
        (timingSet c s.drive.target).returnLead, (timingSet c s.drive.target).loopPitches,
        (timingSet c s.drive.target).setGap, 1, List.replicate 32 .free⟩
      admissionBounds := none, pickBounds := none }

section
variable {s : State} {c : Configuration} {close : Tick}

theorem exec_lock (config : s.config = some c) (opened : s.drive.windowClose = some close)
    (due : notEarlier s.tick close = true) (seeking : s.drive.state.seeking = true) (third : s.drive.inBandRun = 3)
    (inside : InBand (encoderCountOf c c.speed[s.drive.target]) c.lockTolerance s.drive.count) :
    exec .encoderWindowClose s
      = .next ((s.setDrive (lockedDrive s)).begin.takeLock s.drive.current).grant := by
  have locks : judged s = (lockedDrive s, .lock) := by
    rw [judged_seeking seeking, (inLockBand_iff config).2 inside, judgeLock_fourth (d := s.nextWindow) third]
    rfl
  rw [exec_encoderWindowClose opened due, locks]
  rfl

theorem setGrid_lock (config : s.config = some c) :
    (s.setDrive (lockedDrive s)).begin.computeTiming.setGrid = (gridded s c).begin := by
  have set : (s.setDrive (lockedDrive s)).begin.computeTiming
      = ((s.setDrive (lockedDrive s)).setTracker { s.tracker with
          timing := some (timingSet c s.drive.target) }).begin := by
    have config' : (s.setDrive (lockedDrive s)).begin.config = some c := config
    rw [State.computeTiming, config']
    rfl
  rw [set]
  rfl

theorem takeLock_starting (config : s.config = some c) (starting : s.run.state = .starting) :
    (s.setDrive (lockedDrive s)).begin.takeLock s.drive.current
      = (((((gridded s c).begin.record (.speedSet s.drive.current s.drive.target)).enter .running).finishIf
          .start .done 0).evaluate).examineSet := by
  have starting' : (s.setDrive (lockedDrive s)).begin.run.state = .starting := starting
  simp only [State.takeLock, starting', setGrid_lock config]
  rfl

theorem takeLock_relocked (config : s.config = some c) (respeed : s.run.state = .respeed)
    (relocking : s.run.changeStatus = .relocking) :
    (s.setDrive (lockedDrive s)).begin.takeLock s.drive.current
      = (((((gridded s c).begin.enter .running).record (.speedSet s.drive.current s.drive.target)).endChange
          .done).evaluate).examineSet := by
  have respeed' : (s.setDrive (lockedDrive s)).begin.run.state = .respeed := respeed
  have relocking' : (s.setDrive (lockedDrive s)).begin.run.changeStatus = .relocking := relocking
  simp only [State.takeLock, respeed', State.runAtLock, setGrid_lock config, relocking']
  rfl

theorem takeLock_returned (config : s.config = some c) (respeed : s.run.state = .respeed)
    (returning : s.run.changeStatus = .returning) :
    (s.setDrive (lockedDrive s)).begin.takeLock s.drive.current
      = (((((gridded s c).begin.enter .running).endChange .cancelled).finishIf .cancelSpeedChange .cancelled
          0).evaluate).examineSet := by
  have respeed' : (s.setDrive (lockedDrive s)).begin.run.state = .respeed := respeed
  have returning' : (s.setDrive (lockedDrive s)).begin.run.changeStatus = .returning := returning
  simp only [State.takeLock, respeed', State.runAtLock, setGrid_lock config, returning']

end

/-- The state `t` that a lock leaves with the set EMPTY, its run controller `r`, is the gridded one with admission
evaluated. -/
def Lands (s : State) (c : Configuration) (t : State) (r : RunControl) : Prop :=
  t.drive = lockedDrive s ∧ t.run = r ∧ t.plan = ((gridded s c).setRun r).evaluate.plan
    ∧ t.scheduler = ((gridded s c).setRun r).evaluate.scheduler
    ∧ t.tracker = ((gridded s c).setRun r).evaluate.tracker ∧ t.pulses = []
    ∧ KeepsBut [.junction, .pulses, .plan, .scheduler, .tracker, .drive, .run, .log, .attention] s t

/-- Where a state differs from the gridded one with its run controller, admission does not look. -/
theorem lands {s w : State} {c : Configuration} (same : SameAdmission ((gridded s c).setRun w.run) w)
    (pulses : w.pulses = []) (empty : s.output.set.state = .empty) (sound : s.output.set.condition = .sound)
    (keeps : KeepsBut [.junction, .pulses, .plan, .scheduler, .tracker, .drive, .run, .log, .attention] s w) :
    Lands s c w.evaluate.examineSet.grant w.run ∧ w.evaluate.examineSet.grant.log = w.log
      ∧ w.evaluate.examineSet.grant.attention = w.attention
      ∧ w.evaluate.examineSet.grant.junction = w.junction.grant := by
  have output : w.evaluate.output = s.output := (by simp : w.evaluate.output = w.output).trans (keeps .output (by simp))
  have still : w.evaluate.examineSet = w.evaluate :=
    examineSet_empty (by rw [output]; exact empty) (by rw [output]; exact sound)
  obtain ⟨plan, scheduler, tracker⟩ := evaluate_same same
  obtain ⟨-, -, -, kept⟩ := evaluates w
  rw [still]
  exact ⟨⟨(kept .drive (by simp)).trans same.drive, kept .run (by simp), plan, scheduler, tracker,
    (kept .pulses (by simp)).trans pulses, (keeps.trans (kept.mono (by simp))).grant (by simp)⟩,
    kept .log (by simp), kept .attention (by simp), congrArg Junction.grant (kept .junction (by simp))⟩

/-- What admission looks at is not in the log's list, the junction or the attention. -/
theorem sameAdmission_gridded {s w : State} {c : Configuration}
    (keeps : KeepsBut [.junction, .log, .attention, .run] (gridded s c).begin w)
    (producer : w.log.producer = s.log.producer) (consumer : w.log.consumer = s.log.consumer) :
    SameAdmission ((gridded s c).setRun w.run) w :=
  ⟨keeps .tick (by simp), keeps .config (by simp), keeps .lines (by simp), keeps .plan (by simp),
    keeps .scheduler (by simp), keeps .tracker (by simp), keeps .output (by simp), keeps .drive (by simp), rfl,
    producer, consumer⟩

theorem gridded_keeps (s : State) (c : Configuration) :
    KeepsBut [.drive, .tracker, .scheduler, .pulses] s (gridded s c).begin := by simp [keepsBut_iff, gridded]

/-- The end of a lock's event with the set EMPTY, from the state `w` in which admission is evaluated. -/
theorem lands_from {s w : State} {c : Configuration}
    (keeps : KeepsBut [.junction, .log, .attention, .run] (gridded s c).begin w)
    (producer : w.log.producer = s.log.producer) (consumer : w.log.consumer = s.log.consumer)
    (empty : s.output.set.state = .empty) (sound : s.output.set.condition = .sound) :
    Lands s c w.evaluate.examineSet.grant w.run ∧ w.evaluate.examineSet.grant.log = w.log
      ∧ w.evaluate.examineSet.grant.attention = w.attention
      ∧ w.evaluate.examineSet.grant.junction = w.junction.grant :=
  lands (sameAdmission_gridded keeps producer consumer) (keeps .pulses (by simp)) empty sound
    (((gridded_keeps s c).mono (by simp)).trans (keeps.mono (by simp)))

section
variable {s : State} {c : Configuration} {close : Tick} {x : Word × LogRecord}

/-- The record of a speed set at a lock. -/
def speedSet (s : State) : LogRecord := ⟨s.tick, .speedSet s.drive.current s.drive.target⟩

variable {k : RunningCommand}

theorem lands_started (config : s.config = some c) (starting : s.run.state = .starting)
    (empty : s.output.set.state = .empty) (sound : s.output.set.condition = .sound) (flying : s.log.inFlight = some x)
    (few : ((x.2 :: s.log.waiting).filter (fun r => r.body.disposition.isNone)).length < 32)
    (own : s.run.running = some k) (named : k.code = some .start) :
    ∃ t, (s.setDrive (lockedDrive s)).begin.takeLock s.drive.current = t
      ∧ Lands s c t.grant { s.run with state := .running, command := .done, running := none }
      ∧ t.grant.log = { s.log with waiting := s.log.waiting ++ [speedSet s] } ∧ t.grant.attention = s.attention
      ∧ t.grant.junction = (s.junction.asked [finishOp k .done 0]).grant := by
  have own' : (((gridded s c).begin.setLog { s.log with waiting := s.log.waiting ++ [speedSet s] }).enter
    .running).run.running = some k := own
  have reached : (((gridded s c).begin.record (.speedSet s.drive.current s.drive.target)).enter .running).finishIf
      .start .done 0 = ((((gridded s c).begin.setLog { s.log with waiting := s.log.waiting ++ [speedSet s] }).enter
        .running).setRun { s.run with state := .running, command := .done, running := none }).ask (finishOp k .done 0) := by
    rw [State.record, handOver_waits (u := (gridded s c).begin) flying _ _ few]
    exact finishIf_own own' named .done 0
  rw [takeLock_starting config starting, reached]
  obtain ⟨landed, log, attention, junction⟩ := lands_from (s := s) (c := c)
    (w := ((((gridded s c).begin.setLog { s.log with waiting := s.log.waiting ++ [speedSet s] }).enter
        .running).setRun { s.run with state := .running, command := .done, running := none }).ask (finishOp k .done 0))
    (by simp [keepsBut_iff, State.enter]) rfl rfl empty sound
  exact ⟨_, rfl, landed, log, attention.trans (by simp [State.enter, gridded]), junction⟩

theorem lands_relocked (config : s.config = some c) (respeed : s.run.state = .respeed)
    (relocking : s.run.changeStatus = .relocking) (empty : s.output.set.state = .empty)
    (sound : s.output.set.condition = .sound) (flying : s.log.inFlight = some x)
    (few : ((x.2 :: s.log.waiting).filter (fun r => r.body.disposition.isNone)).length < 32) :
    ∃ t, (s.setDrive (lockedDrive s)).begin.takeLock s.drive.current = t
      ∧ Lands s c t.grant { s.run with state := .running, changeStatus := .done, drainTarget := none }
      ∧ t.grant.log = { s.log with waiting := s.log.waiting ++ [speedSet s] }
      ∧ t.grant.attention = s.attention.withE .speedChangeEnd ∧ t.grant.junction = s.junction.grant := by
  have reached : (((gridded s c).begin.enter .running).record (.speedSet s.drive.current s.drive.target)).endChange .done
      = ((((gridded s c).begin.setLog { s.log with waiting := s.log.waiting ++ [speedSet s] }).setRun
        { s.run with state := .running, changeStatus := .done, drainTarget := none })).raiseE .speedChangeEnd := by
    rw [State.record, handOver_waits (u := (gridded s c).begin.enter .running) flying _ _ few]
    rfl
  rw [takeLock_relocked config respeed relocking, reached]
  obtain ⟨landed, log, attention, junction⟩ := lands_from (s := s) (c := c)
    (w := ((((gridded s c).begin.setLog { s.log with waiting := s.log.waiting ++ [speedSet s] }).setRun
        { s.run with state := .running, changeStatus := .done, drainTarget := none })).raiseE .speedChangeEnd)
    (by simp [keepsBut_iff]) rfl rfl empty sound
  exact ⟨_, rfl, landed, log, attention, junction.trans (by simp [gridded])⟩

theorem lands_returned (config : s.config = some c) (respeed : s.run.state = .respeed)
    (returning : s.run.changeStatus = .returning) (empty : s.output.set.state = .empty)
    (sound : s.output.set.condition = .sound) (own : s.run.running = some k)
    (named : k.code = some .cancelSpeedChange) :
    ∃ t, (s.setDrive (lockedDrive s)).begin.takeLock s.drive.current = t
      ∧ Lands s c t.grant { s.run with
          state := .running, changeStatus := .cancelled, drainTarget := none, command := .done, running := none }
      ∧ t.grant.log = s.log ∧ t.grant.attention = s.attention.withE .speedChangeEnd
      ∧ t.grant.junction = (s.junction.asked [finishOp k .cancelled 0]).grant := by
  have own' : (((gridded s c).begin.enter .running).endChange .cancelled).run.running = some k := own
  have reached : (((gridded s c).begin.enter .running).endChange .cancelled).finishIf .cancelSpeedChange .cancelled 0
      = ((((gridded s c).begin.setRun { s.run with
        state := .running, changeStatus := .cancelled, drainTarget := none, command := .done, running := none })).raiseE
          .speedChangeEnd).ask (finishOp k .cancelled 0) := by
    rw [finishIf_own own' named .cancelled 0]
    rfl
  rw [takeLock_returned config respeed returning, reached]
  obtain ⟨landed, log, attention, junction⟩ := lands_from (s := s) (c := c)
    (w := ((((gridded s c).begin.setRun { s.run with state := .running, changeStatus := .cancelled, drainTarget := none
                                                     command := .done, running := none })).raiseE .speedChangeEnd).ask
      (finishOp k .cancelled 0))
    (by simp [keepsBut_iff]) rfl rfl empty sound
  exact ⟨_, rfl, landed, log.trans (by simp [gridded]), attention, junction⟩

end

/-- Settles O35: the run started or the change ended, and what is left of it with nothing else to do. -/
theorem locksTaken : Obligations.LocksTaken := by
  intro s c close config opened due seeking third inside
  have edge := exec_lock config opened due seeking third inside
  have entered (u : State) : (u.enter .running).run = { u.run with state := .running }
      ∧ KeepsBut [.run] u (u.enter .running) := ⟨rfl, by simp [keepsBut_iff]⟩
  have ended (u : State) (x : ChangeStatus) : (u.endChange x).run
        = { u.run with changeStatus := x, drainTarget := none }
      ∧ (u.endChange x).attention = u.attention.withE .speedChangeEnd
      ∧ KeepsBut [.run, .attention] u (u.endChange x) := ⟨rfl, rfl, by simp [keepsBut_iff]⟩
  have settles (v : State) : ∃ w x, Evaluates v w ∧ SetExamined w x ∧ Granted x v.evaluate.examineSet.grant :=
    ⟨_, _, evaluates v, setExamined _, granted _⟩
  refine ⟨fun starting => ?_, fun respeed relocking => ?_, fun respeed returning => ?_,
    fun x empty sound flying few => ⟨fun k starting own named => ?_, fun respeed relocking => ?_,
      fun k respeed returning own named => ?_⟩⟩
  · rw [takeLock_starting config starting] at edge
    exact ⟨_, _, _, _, _, edge, begun _, handsOver _ _ _, entered _, finishes _ _ _ _, settles _⟩
  · rw [takeLock_relocked config respeed relocking] at edge
    exact ⟨_, _, _, _, _, edge, begun _, entered _, handsOver _ _ _, ended _ _, settles _⟩
  · rw [takeLock_returned config respeed returning] at edge
    exact ⟨_, _, _, _, _, edge, begun _, entered _, ended _ _, finishes _ _ _ _, settles _⟩
  · obtain ⟨t, taken, landed⟩ := lands_started config starting empty sound flying few own named
    exact ⟨t.grant, by rw [edge, taken], landed⟩
  · obtain ⟨t, taken, landed⟩ := lands_relocked config respeed relocking empty sound flying few
    exact ⟨t.grant, by rw [edge, taken], landed⟩
  · obtain ⟨t, taken, landed⟩ := lands_returned config respeed returning empty sound own named
    exact ⟨t.grant, by rw [edge, taken], landed⟩

/-! ## Losses and deviations (R129, R138) -/

section
variable {s : State} {close : Tick} {d : Drive} {c : Cause}

theorem reports_loss (opened : s.drive.windowClose = some close) (due : notEarlier s.tick close = true)
    (loss : judged s = (d, .loss)) : ∃ t, exec .encoderWindowClose s = .next t
      ∧ ReportTaken (Report.bare .driveLoss) (s.setDrive d) t := by
  refine ⟨_, exec_encoderWindowClose opened due, ?_⟩
  rw [loss]
  exact Edges.reportTaken (s.setDrive d) (Report.bare .driveLoss)

theorem reports_deviation (opened : s.drive.windowClose = some close) (due : notEarlier s.tick close = true)
    (deviation : judged s = (d, .deviation)) : ∃ t, exec .encoderWindowClose s = .next t
      ∧ ReportTaken (Report.bare .driveDeviation) (s.setDrive d) t := by
  refine ⟨_, exec_encoderWindowClose opened due, ?_⟩
  rw [deviation]
  exact Edges.reportTaken (s.setDrive d) (Report.bare .driveDeviation)

end

/-! ## The lock timeout (R127, R134) -/

/-- The state in which the lock deadline has expired and the drive coasts. -/
def coasted (s : State) : State := s.setDrive ({ s.drive with lockDeadline := none }.coast s.tick)

section
variable {s : State} {deadline : Tick}

theorem exec_lockTimeout (set : s.drive.lockDeadline = some deadline) (due : notEarlier s.tick deadline = true) :
    exec .lockTimeout s
      = .next ((s.setDrive { s.drive with lockDeadline := none }).begin.takeLockTimeout).grant := by
  show Host.Outcome.next (if s.begin.due s.begin.drive.lockDeadline then _ else _ : State).grant = _
  rw [if_pos (show s.begin.due s.begin.drive.lockDeadline = true by simp [State.due, set, due])]
  rfl

theorem takeLockTimeout_starting (starting : s.run.state = .starting) :
    (s.setDrive { s.drive with lockDeadline := none }).begin.takeLockTimeout
      = (((coasted s).begin.enter .idle).finishIf .start .failed 0x202).examineSet := by
  have starting' : (s.setDrive { s.drive with lockDeadline := none }).begin.run.state = .starting := starting
  simp only [State.takeLockTimeout, starting']
  rfl

theorem takeLockTimeout_respeed (respeed : s.run.state = .respeed) :
    (s.setDrive { s.drive with lockDeadline := none }).begin.takeLockTimeout
      = ((((coasted s).begin.enter .idle).endChange .failed).finishIf .cancelSpeedChange .failed 0).examineSet := by
  have respeed' : (s.setDrive { s.drive with lockDeadline := none }).begin.run.state = .respeed := respeed
  simp only [State.takeLockTimeout, respeed']
  rfl

theorem takeLockTimeout_other (other : s.run.state ≠ .starting) (other' : s.run.state ≠ .respeed) :
    (s.setDrive { s.drive with lockDeadline := none }).begin.takeLockTimeout
      = (s.setDrive { s.drive with lockDeadline := none }).begin := by
  unfold State.takeLockTimeout
  split
  · next starting => exact absurd starting other
  · next respeed => exact absurd respeed other'
  · rfl

end

theorem coast_powered (d : Drive) (now : Tick)
    (powered : d.state = .spinUp ∨ d.state = .locked ∨ d.state = .relock) : d.coast now = { d with
      state := .coasting, target := d.current, speed := d.current, enable := false, lockDeadline := none
      count := 0, windowClose := some (now + 1000), inBandRun := 0, deviationRun := 0, zeroRun := 0 } := by
  unfold Drive.coast
  split
  · next off => simp [off] at powered
  · next coasting => simp [coasting] at powered
  all_goals rfl

/-- Settles O36: loss before deviation, the deadline by the run state, and the two requests of the drive. -/
theorem driveFaults : Obligations.DriveFaults := by
  refine ⟨fun s c close timing config opened due locked set few fewZeros outside => ?_, fun s deadline set due => ?_,
    fun s deadline set due empty sound => ?_, fun d now => ⟨?_, coast_powered d now, fun _ _ => rfl⟩⟩
  · have judges : judged s = _ := (judged_locked locked).trans (by
      rw [Bool.eq_false_iff.2 (mt (inRunBand_iff config set).1 outside), judgeRun_outside])
    have run : min 3 (s.nextWindow.deviationRun + 1) = s.drive.deviationRun + 1 := by
      show min 3 (s.drive.deviationRun + 1) = _
      omega
    rw [run] at judges
    refine ⟨fun zero second => ?_, fun third turned => ?_, fun third zero first => ?_⟩
    · have zeros : min 2 (s.nextWindow.zeroRun + 1) = 2 := by simp [State.nextWindow, second]
      rw [if_pos zero, zeros, if_pos rfl] at judges
      exact reports_loss opened due judges
    · rw [if_neg turned, if_neg (by decide), third, if_pos rfl] at judges
      exact reports_deviation opened due judges
    · have zeros : min 2 (s.nextWindow.zeroRun + 1) = 1 := by simp [State.nextWindow, first]
      rw [if_pos zero, zeros, if_neg (by decide), third, if_pos rfl] at judges
      exact reports_deviation opened due judges
  · have edge := exec_lockTimeout set due
    refine ⟨fun starting => ?_, fun respeed => ?_, fun other other' => ?_⟩
    · rw [takeLockTimeout_starting starting] at edge
      exact ⟨_, (coasted s).begin.enter .idle, _, _, _, edge, begun _, rfl, by simp [keepsBut_iff, State.enter, coasted],
        finishes _ _ _ _, setExamined _, granted _⟩
    · rw [takeLockTimeout_respeed respeed] at edge
      exact ⟨_, ((coasted s).begin.enter .idle).endChange .failed, _, _, _, edge, begun _, rfl, rfl,
        by simp [keepsBut_iff, State.enter, State.endChange, coasted], finishes _ _ _ _, setExamined _, granted _⟩
    · rw [takeLockTimeout_other other other'] at edge
      exact ⟨_, edge, actsOn_of_effect (by simp [keepsBut_iff]) rfl rfl, rfl⟩
  · have edge := exec_lockTimeout set due
    refine ⟨fun k starting own named => ?_, fun respeed other => ?_, fun k respeed own named => ?_⟩
    · rw [takeLockTimeout_starting starting, finishIf_own (u := (coasted s).begin.enter .idle) (k := k) own named,
        examineSet_empty (by exact empty) (by exact sound)] at edge
      exact ⟨_, edge, rfl, rfl, rfl, rfl, by simp [keepsBut_iff, State.enter, coasted]⟩
    · rw [takeLockTimeout_respeed respeed,
        finishIf_other (u := ((coasted s).begin.enter .idle).endChange .failed) other,
        examineSet_empty (by exact empty) (by exact sound)] at edge
      exact ⟨_, edge, actsOn_of_effect (by simp [keepsBut_iff, State.enter, State.endChange, coasted]) (by simp [State.enter, State.endChange, coasted])
        (by simp [State.enter, State.endChange, coasted]), rfl, rfl, rfl⟩
    · rw [takeLockTimeout_respeed respeed,
        finishIf_own (u := ((coasted s).begin.enter .idle).endChange .failed) (k := k) own named,
        examineSet_empty (by exact empty) (by exact sound)] at edge
      exact ⟨_, edge, rfl, rfl, rfl, rfl, rfl, by simp [keepsBut_iff, State.enter, State.endChange, coasted]⟩
  · rintro (off | coasting)
    · simp [Drive.coast, off]
    · simp [Drive.coast, coasting]

end Sys2Proof.Proofs.DriveEvents

/-! The expiries of sheets, expectations, covers and the grace (chapters 4, 5 and 8): the statements O38 to O41. -/

namespace Sys2Proof.Proofs.Timers
open Sys2Proof Sys2Proof.Machine Sys2Proof.Proofs.CommandFrames Sys2Proof.Proofs.Edges

/-! ## The grace (R140) -/

theorem exec_graceExpiry {s : State} {due : Tick} (stopping : s.run.state = .stopping)
    (set : s.run.graceDeadline = some due) (come : notEarlier s.tick due = true) :
    exec .graceExpiry s = .next s.begin.expireGrace.grant := by
  show Host.Outcome.next (if s.begin.due s.begin.run.graceDeadline then s.begin.takeGrace else _ : State).grant = _
  rw [if_pos (show s.begin.due s.begin.run.graceDeadline = true by simp [State.due, set, come]), State.takeGrace,
    if_pos (show s.begin.run.state = .stopping from stopping)]

/-- Settles O41: what the expiry leaves is read off its last step, and the jam off the step before. -/
theorem graceExpires : Obligations.GraceExpires := by
  intro s due stopping set come
  have ends := graceEnds s.begin
  refine ⟨_, _, _, exec_graceExpiry stopping set come, begun s, ends, granted _, ?_⟩
  obtain ⟨v, w, x, y, -, -, -, -, -, -, -, handed, run, attention, -⟩ := ends
  refine ⟨congrArg RunControl.state run, congrArg RunControl.graceDeadline run, ?_, ?_, fun j jam => ?_⟩
  · exact congrArg (fun a : Attention => a.e.stop) attention
  · exact congrArg Attention.lineE attention
  · obtain ⟨kept, -, -, -, keeps⟩ := handed j jam
    have run' : y.run = _ := (keeps .run (by simp)).trans kept
    exact ⟨(congrArg RunControl.lastJam run).trans (congrArg RunControl.lastJam run'),
      (congrArg RunControl.jam run).trans (congrArg RunControl.jam run')⟩

/-! ## LATE (R90, R98) -/

section
variable {s : State} {x : Sensor} {i : Item}

theorem expired_isSome : (s.expired x i).isSome = true ↔
    ∃ e ∈ (s.sensor x).expectations, e.item = i ∧ e.armed = true ∧ notEarlier s.tick e.closes = true := by
  simp [State.expired, List.find?_isSome, and_assoc]

theorem exec_windowExpiry (late : ∃ e ∈ (s.sensor x).expectations, e.item = i ∧ e.armed = true
    ∧ notEarlier s.tick e.closes = true) :
    exec (.windowExpiry x i) s = .next (s.begin.expireWindow x i).grant := by
  show Host.Outcome.next (if (s.begin.expired x i).isSome then _ else _ : State).grant = _
  rw [if_pos (expired_isSome (s := s.begin).2 late)]

theorem exec_windowExpiry_early (early : ¬ ∃ e ∈ (s.sensor x).expectations, e.item = i ∧ e.armed = true
    ∧ notEarlier s.tick e.closes = true) : exec (.windowExpiry x i) s = .next s.begin.grant := by
  show Host.Outcome.next (if (s.begin.expired x i).isSome then _ else _ : State).grant = _
  rw [if_neg (mt (expired_isSome (s := s.begin)).1 early)]

/-- The report of an item at a sensor. -/
def reportAt (s : State) (c : Cause) (x : Sensor) (i : Item) : Report := ⟨c, some x, s.sequenceNamed i, i == .set⟩

theorem reportOf_item (u : State) (c : Cause) (x : Sensor) (i : Item) : u.reportOf c x (some i) = reportAt u c x i := by
  cases i <;> rfl

theorem fault_judged {u : State} {c : Cause} (judged : u.run.state.judgesSheets = true) :
    u.fault c x (some i) = u.report (reportAt u c x i) := by
  rw [State.fault, if_pos judged, reportOf_item]

theorem fault_unjudged {u : State} {c : Cause} (unjudged : u.run.state.judgesSheets = false) :
    u.fault c x (some i) = u.setFailure (reportAt u c x i) := by
  rw [State.fault, if_neg (Bool.eq_false_iff.1 unjudged), reportOf_item]

theorem judgesSheets_of_runs {r : RunState} (runs : r.runs = true) : r.judgesSheets = true ∧ r ≠ .stopping := by
  cases r <;> simp_all [RunState.runs, RunState.judgesSheets]

theorem expireWindow_stopping {u : State} (stopping : u.run.state = .stopping) :
    u.expireWindow x i = (u.disarmExpectation x i).report (reportAt u .late x i) := by
  have judged : (u.disarmExpectation x i).run.state.judgesSheets = true := by
    rw [show (u.disarmExpectation x i).run.state = .stopping from stopping]
    rfl
  unfold State.expireWindow
  rw [if_pos stopping, fault_judged judged]
  rfl

theorem expireWindow_runs {u : State} (runs : u.run.state.runs = true) : u.expireWindow x i =
    (match i with
      | .set => ((u.dropExpectation x i).report (reportAt u .late x i)).scatterInFlight .late
      | .sheet _ => (u.dropExpectation x i).report (reportAt u .late x i)) := by
  obtain ⟨judged, going⟩ := judgesSheets_of_runs runs
  unfold State.expireWindow
  rw [if_neg going, if_pos judged, fault_judged (u := u.dropExpectation x i) judged]
  cases i <;> rfl

theorem unjudged_not_stopping {r : RunState} (unjudged : r.judgesSheets = false) : r ≠ .stopping := by
  rintro rfl
  exact nomatch unjudged

theorem finishIf_state (u : State) (code : CommandCode) (result : ResultCode) (detail : Nat) :
    (u.finishIf code result detail).run.state = u.run.state := by
  unfold State.finishIf State.finish
  split
  · split <;> rfl
  · rfl

theorem scatterInFlight_state (u : State) (c : Cause) : (u.scatterInFlight c).run.state = u.run.state := by
  unfold State.scatterInFlight State.scatter State.doubt
  dsimp only
  split
  · split
    · rfl
    · split
      · exact finishIf_state _ _ _ _
      · rfl
  · rfl

/-- A LATE of the set outside a run scatters it before its own JAM is handed over. -/
theorem expireWindow_set {u : State} (unjudged : u.run.state.judgesSheets = false) :
    u.expireWindow x .set = ((u.dropExpectation x .set).scatterInFlight .late).setFailure (reportAt u .late x .set) := by
  have unjudged' : ((u.dropExpectation x .set).scatterInFlight .late).run.state.judgesSheets = false := by
    rw [scatterInFlight_state]
    exact unjudged
  unfold State.expireWindow
  rw [if_neg (unjudged_not_stopping unjudged), if_neg (Bool.eq_false_iff.1 unjudged)]
  dsimp only
  rw [fault_unjudged unjudged', reportAt, reportAt, State.sequenceNamed, State.sequenceNamed,
    Trailing.scatterInFlight_members]
  rfl

theorem expireWindow_sheet {u : State} {h : Handle} (unjudged : u.run.state.judgesSheets = false) :
    u.expireWindow x (.sheet h) = u.disarmExpectation x (.sheet h) := by
  unfold State.expireWindow
  rw [if_neg (unjudged_not_stopping unjudged), if_neg (Bool.eq_false_iff.1 unjudged)]

end

/-! ## STALL (R92) -/

section
variable {s : State} {x : Sensor} {due : Tick}

theorem exec_stall (set : (s.sensor x).coverTimer = some due) (come : notEarlier s.tick due = true) :
    exec (.stall x) s = .next (s.begin.expireCover x).grant := by
  show Host.Outcome.next (if s.begin.due (s.begin.sensor x).coverTimer then _ else _ : State).grant = _
  rw [if_pos (show s.begin.due (s.begin.sensor x).coverTimer = true by
    rw [show (s.begin.sensor x).coverTimer = some due from set]; exact come)]

theorem exec_stall_early (set : (s.sensor x).coverTimer = some due) (early : notEarlier s.tick due = false) :
    exec (.stall x) s = .next s.begin.grant := by
  show Host.Outcome.next (if s.begin.due (s.begin.sensor x).coverTimer then _ else _ : State).grant = _
  rw [if_neg (show ¬ s.begin.due (s.begin.sensor x).coverTimer = true by
    rw [show (s.begin.sensor x).coverTimer = some due from set]; exact Bool.eq_false_iff.1 early)]

/-- The state in which a cover timer has ended. -/
def coverEnded (s : State) (x : Sensor) : State := s.putSensor x { s.sensor x with coverTimer := none }

theorem expireCover_faults {i : Item} (occ : (s.sensor x).occupant.item = some i)
    (judged : s.run.state.judgesSheets = true ∨ i = .set) :
    s.begin.expireCover x = (coverEnded s x).begin.fault .stall x (some i) := by
  have occ' : (s.begin.sensor x).occupant.item = some i := occ
  unfold State.expireCover
  rw [occ']
  cases i with
  | sheet h => exact if_pos (judged.resolve_right (nomatch ·))
  | set => rfl

theorem expireCover_quiet {i : Item} (occ : (s.sensor x).occupant.item = some i)
    (unjudged : s.run.state.judgesSheets = false) (sheet : i ≠ .set) :
    s.begin.expireCover x = (coverEnded s x).begin := by
  have occ' : (s.begin.sensor x).occupant.item = some i := occ
  unfold State.expireCover
  rw [occ']
  cases i with
  | sheet h => exact if_neg (Bool.eq_false_iff.1 unjudged)
  | set => exact absurd rfl sheet

end

/-- Settles O40: the late window by the run state, the stalled cover by its occupant. -/
theorem lateAndStall : Obligations.LateAndStall := by
  intro s x
  refine ⟨fun e i mem item armed late => ?_, fun i early => ⟨_, exec_windowExpiry_early ?_, actsOn_begin [] s⟩,
    fun due i set come occ => ⟨fun judged => ?_, fun unjudged sheet => ?_⟩,
    fun due set early => ⟨_, exec_stall_early set early, actsOn_begin [] s⟩⟩
  · have edge := exec_windowExpiry ⟨e, mem, item, armed, late⟩
    refine ⟨fun stopping => ?_, fun runs => ?_, fun unjudged => ⟨?_, fun sheet => ?_⟩⟩
    · rw [expireWindow_stopping (u := s.begin) stopping] at edge
      exact ⟨_, edge, reportTaken _ _⟩
    · rw [expireWindow_runs (u := s.begin) runs] at edge
      have taken := reported (s.begin.dropExpectation x i) (reportAt s.begin .late x i)
      obtain ⟨-, set, -⟩ := taken.1 runs
      have scatters := Trailing.scattersInFlight ((s.begin.dropExpectation x i).report (reportAt s.begin .late x i)) .late
      rw [set] at scatters
      refine ⟨(s.begin.dropExpectation x i), _, _, _, edge, begun _, taken, ?_, ?_, granted _⟩
      · rintro rfl
        exact scatters
      · intro sheet
        cases i with
        | set => exact absurd rfl sheet
        | sheet h => exact .refl
    · rintro rfl
      rw [expireWindow_set (u := s.begin) unjudged] at edge
      exact ⟨_, _, _, _, edge, begun _,
        Trailing.scattersInFlight (s.begin.dropExpectation x .set) .late, setFails _ _, granted _⟩
    · cases i with
      | set => exact absurd rfl sheet
      | sheet h =>
        rw [expireWindow_sheet (u := s.begin) unjudged] at edge
        exact ⟨_, _, edge, begun _, granted _⟩
  · rintro ⟨e, mem, item, armed, late⟩
    exact absurd late (Bool.eq_false_iff.1 (early e mem item armed))
  · have edge := exec_stall set come
    rw [expireCover_faults occ judged] at edge
    have taken := faultTaken (coverEnded s x) .stall x (some i)
    rw [reportOf_item] at taken
    refine ⟨_, edge, ?_⟩
    cases i <;> exact taken
  · have edge := exec_stall set come
    rw [expireCover_quiet occ unjudged sheet] at edge
    exact ⟨_, _, edge, begun _, granted _⟩

/-! ## Hold releases (R70, R93) -/

section
variable {s : State} {h : Handle} {sh : Sheet} {due : Tick} {timing : TimingSet}

theorem timers_putTimers (u : State) (h : Handle) (t : SheetTimers) : (u.putTimers h t).timers h = t := put_same _ _ _

theorem timers_putTimers_other (u : State) (h k : Handle) (t : SheetTimers) (other : k ≠ h) :
    (u.putTimers h t).timers k = u.timers k := put_other _ _ _ _ other

theorem putTimers_putTimers (u : State) (h : Handle) (a b : SheetTimers) :
    (u.putTimers h a).putTimers h b = u.putTimers h b := by
  simp [State.putTimers, State.setScheduler, put_put]

theorem exec_releaseDue (set : (s.timers h).release = some due) (come : notEarlier s.tick due = true) :
    exec (.releaseDue h) s = .next (s.begin.expireRelease h).grant := by
  show Host.Outcome.next (if s.begin.due (s.begin.timers h).release then _ else _ : State).grant = _
  rw [if_pos (show s.begin.due (s.begin.timers h).release = true by
    rw [show (s.begin.timers h).release = some due from set]; exact come)]

theorem exec_lateRelease (set : (s.timers h).late = some due) (come : notEarlier s.tick due = true) :
    exec (.lateRelease h) s = .next (s.begin.expireLate h).grant := by
  show Host.Outcome.next (if s.begin.due (s.begin.timers h).late then _ else _ : State).grant = _
  rw [if_pos (show s.begin.due (s.begin.timers h).late = true by
    rw [show (s.begin.timers h).late = some due from set]; exact come)]

/-- The state in which a timer of a sheet has expired: its timers are then `t`. -/
def timersAt (s : State) (h : Handle) (t : SheetTimers) : State := s.begin.putTimers h t

theorem expireRelease_eq (hs : s.sheet h = some sh) (may : s.mayRelease = true) :
    s.begin.expireRelease h = (timersAt s h { s.timers h with release := none }).releaseBy h sh := by
  have hs' : (timersAt s h { s.timers h with release := none }).sheet h = some sh := hs
  show (match (timersAt s h { s.timers h with release := none }).sheet h with
    | none => _
    | some sh => if (timersAt s h { s.timers h with release := none }).mayRelease then _ else _) = _
  rw [hs']
  exact if_pos may

theorem expireLate_eq (hs : s.sheet h = some sh) (may : s.mayRelease = true) (held : sh.state = .held) :
    s.begin.expireLate h = (timersAt s h { s.timers h with late := none }).release h := by
  have hs' : (timersAt s h { s.timers h with late := none }).sheet h = some sh := hs
  have taken : ((timersAt s h { s.timers h with late := none }).mayRelease && sh.state == .held) = true := by
    rw [held]
    exact (Bool.and_true _).trans may
  show (match (timersAt s h { s.timers h with late := none }).sheet h with
    | none => _
    | some sh =>
      if (timersAt s h { s.timers h with late := none }).mayRelease && sh.state == SheetState.held then _ else _) = _
  rw [hs']
  exact if_pos taken

theorem releaseBy_held {u : State} {a : Tick} (held : sh.state = .held) (arrived : (u.timers h).arrival = some a) :
    u.releaseBy h sh = if notEarlier u.tick (a + BitVec.ofNat 32 u.minimumDwell) then u.release h
      else u.putTimers h { u.timers h with late := some (a + BitVec.ofNat 32 u.minimumDwell) } := by
  simp only [State.releaseBy, held, arrived]
  rfl

/-- A sheet on its way to LH gets a pending late release. -/
theorem releaseBy_before {u : State}
    (before : sh.state = .feeding ∨ sh.state = .approach ∨ sh.state = .printing ∨ sh.state = .looping) :
    u.releaseBy h sh = u.putTimers h { u.timers h with latePending := true } := by
  rcases before with at_ | at_ | at_ | at_ <;> simp only [State.releaseBy, at_]

theorem timersAt_timers (s : State) (h : Handle) (t : SheetTimers) : (timersAt s h t).timers h = t :=
  timers_putTimers _ _ _

theorem timersAt_put (s : State) (h : Handle) (a b : SheetTimers) : (timersAt s h a).putTimers h b = timersAt s h b :=
  putTimers_putTimers _ _ _ _

theorem timersAt_tick (s : State) (h : Handle) (t : SheetTimers) : (timersAt s h t).tick = s.tick := rfl

theorem timersAt_dwell {c : Configuration} {t : SheetTimers} (config : s.config = some c) :
    (timersAt s h t).minimumDwell = c.minimumDwell := by
  have config' : (timersAt s h t).config = some c := config
  simp [State.minimumDwell, config']

/-- A timer set or ended changes the scheduler's timers of one handle alone. -/
theorem timersAt_only (s : State) (h : Handle) (t : SheetTimers) : ActsOn [.scheduler] s (timersAt s h t).grant
    ∧ (timersAt s h t).grant.scheduler = { s.scheduler with timers := (timersAt s h t).grant.scheduler.timers }
    ∧ (timersAt s h t).grant.timers h = t ∧ (∀ k, k ≠ h → (timersAt s h t).grant.timers k = s.timers k) :=
  ⟨actsOn_of_effect (by simp [keepsBut_iff, timersAt]) rfl rfl, rfl, timers_putTimers _ _ _,
    fun k other => timers_putTimers_other _ _ _ _ other⟩

theorem startHoldCover_sensor (u : State) (h : Handle) :
    (u.startHoldCover h).sensor .LH = (if (u.sensor .LH).occupant = .sheet h then
        { u.sensor .LH with
          coverStart := u.tick, coverTimer := some (u.tick + BitVec.ofNat 32 (u.sensor .LH).coverMax) }
        else u.sensor .LH)
      ∧ (∀ y, y ≠ .LH → (u.startHoldCover h).sensor y = u.sensor y) := by
  unfold State.startHoldCover
  dsimp only
  split
  · exact ⟨State.sensor_putSensor _ _ _, fun y hy => State.sensor_putSensor_other _ _ _ _ hy⟩
  · exact ⟨rfl, fun _ _ => rfl⟩

theorem startHoldCover_timing (u : State) (h : Handle) : (u.startHoldCover h).tracker.timing = u.tracker.timing
    ∧ ∀ k, (u.startHoldCover h).sheet k = u.sheet k := by
  unfold State.startHoldCover
  dsimp only
  split <;> exact ⟨rfl, fun _ => rfl⟩

/-- The HOLD RELEASE of a sheet whose timers are then `t`. -/
theorem releasedAs (hs : s.sheet h = some sh) (set : s.tracker.timing = some timing) (t : SheetTimers) :
    ReleasedAs s timing h sh ((timersAt s h t).release h).grant
      ∧ ((timersAt s h t).release h).grant.timers h = t := by
  obtain ⟨u, hu⟩ : ∃ u, u = ((timersAt s h t).modifySheet h (fun x => { x with
    state := .returning, pass := 2 })).pulse .holdRelease := ⟨_, rfl⟩
  obtain ⟨entry, others, sensors, timed, -⟩ := sheetBecomes_modifySheet (s := timersAt s h t) (h := h) hs
    fun x => { x with state := .returning, pass := 2 }
  have sensors' (y : Sensor) : u.sensor y = s.sensor y := by rw [hu]; exact State.sensor_congr sensors y
  have sheets (k : Handle) (other : k ≠ h) : u.sheet k = s.sheet k := by rw [hu]; exact others k other
  have entry' : u.sheet h = some { sh with state := .returning, pass := 2 } := by rw [hu]; exact entry
  have timed' : u.tracker.timing = some timing := by rw [hu]; exact timed.trans set
  have tick : u.tick = s.tick := by simp [hu, timersAt]
  obtain ⟨lh, elsewhere⟩ := startHoldCover_sensor u h
  obtain ⟨timed'', sheets'⟩ := startHoldCover_timing u h
  have tick' : (u.startHoldCover h).tick = s.tick := by simpa using tick
  obtain ⟨placed, kept, dest, rest, -⟩ := places (u.startHoldCover h) h 9 _ timing ((sheets' h).trans entry')
    (timed''.trans timed')
  have released : (timersAt s h t).release h = (u.startHoldCover h).place h (.leg 9) := by rw [hu]; rfl
  have expects : (u.startHoldCover h).expects timing h { sh with state := .returning, pass := 2 } (.leg 9)
      = s.expects timing h sh (.leg 9) := by simp only [State.expects, tick']
  rw [released]
  refine ⟨⟨?_, ?_, fun k other => ?_, ?_, ?_, fun y mg hold => ?_, fun k other => ?_, ?_, ?_, ?_⟩, ?_⟩
  · simp [hu, timersAt, State.pulse]
  · exact placed.trans (by rw [tick'])
  · exact (kept k other).trans ((sheets' k).trans (sheets k other))
  · refine dest.trans ?_
    rw [expects, elsewhere _ (by decide), sensors']
    rfl
  · refine (rest .LH (by decide)).trans (lh.trans ?_)
    rw [sensors', tick]
  · exact (rest y mg).trans ((elsewhere y hold).trans (sensors' y))
  · have scheduler : ((u.startHoldCover h).place h (.leg 9)).scheduler = (timersAt s h t).scheduler := by simp [hu]
    show ((u.startHoldCover h).place h (.leg 9)).scheduler.timers[k] = _
    rw [scheduler]
    exact timers_putTimers_other _ _ _ _ other
  · simp [hu, timersAt, State.putTimers]
  · exact congrArg Junction.grant (by simp [hu, timersAt])
  · have keeps : KeepsBut [.junction, .pulses, .scheduler, .tracker] s ((u.startHoldCover h).place h (.leg 9)) := by
      simp [keepsBut_iff, hu, timersAt]
    exact keeps.grant (by simp)
  · have scheduler : ((u.startHoldCover h).place h (.leg 9)).scheduler = (timersAt s h t).scheduler := by simp [hu]
    show ((u.startHoldCover h).place h (.leg 9)).scheduler.timers[h] = _
    rw [scheduler]
    exact timers_putTimers _ _ _

end

/-- Settles O39: what the release due timer does by the sheet's state, and the late release. -/
theorem holdReleases : Obligations.HoldReleases := by
  intro s c h sh due config hs runs locked come
  have may : s.mayRelease = true := (mayRelease_iff s).2 ⟨runs, locked⟩
  refine ⟨fun set => ⟨fun a timing held arrived timed ripe => ?_, fun a held arrived unripe => ?_, fun before => ?_⟩,
    fun set held timing timed => ?_⟩
  · have edge := exec_releaseDue set come
    have arrived' : ((timersAt s h { s.timers h with release := none }).timers h).arrival = some a := by
      rw [timersAt_timers]; exact arrived
    rw [expireRelease_eq hs may, releaseBy_held held arrived', timersAt_dwell config, timersAt_tick, if_pos ripe] at edge
    exact ⟨_, edge, releasedAs hs timed _⟩
  · have edge := exec_releaseDue set come
    have arrived' : ((timersAt s h { s.timers h with release := none }).timers h).arrival = some a := by
      rw [timersAt_timers]; exact arrived
    rw [expireRelease_eq hs may, releaseBy_held held arrived', timersAt_dwell config, timersAt_tick,
      if_neg (Bool.eq_false_iff.1 unripe), timersAt_timers, timersAt_put] at edge
    exact ⟨_, edge, timersAt_only s h _⟩
  · have edge := exec_releaseDue set come
    rw [expireRelease_eq hs may, releaseBy_before before, timersAt_timers, timersAt_put] at edge
    exact ⟨_, edge, timersAt_only s h _⟩
  · have edge := exec_lateRelease set come
    rw [expireLate_eq hs may held] at edge
    exact ⟨_, edge, releasedAs hs timed _⟩

/-! ## Picks (R66, R67) -/

section
variable {s : State} {h : Handle} {sh : Sheet} {due : Tick} {timing : TimingSet}

/-- The state in which the pick due timer of a sheet has expired. -/
def pickTaken (s : State) (h : Handle) : State := timersAt s h { s.timers h with pick := none }

theorem exec_pickDue (set : (s.timers h).pick = some due) (come : notEarlier s.tick due = true)
    (hs : s.sheet h = some sh) (scheduled : sh.state = .scheduled) (running : s.run.state = .running)
    (locked : s.drive.state = .locked) :
    exec (.pickDue h) s = .next (if s.lines.trayEmpty[sh.plan.tray] then (pickTaken s h).trayFoundEmpty sh.plan.tray
      else (pickTaken s h).pick h sh due).grant := by
  have hs' : (pickTaken s h).sheet h = some sh := hs
  have ready : (pickTaken s h).run.state = .running ∧ (pickTaken s h).drive.state = .locked := ⟨running, locked⟩
  have expires : s.begin.expirePick h due = if s.lines.trayEmpty[sh.plan.tray] then (pickTaken s h).trayFoundEmpty sh.plan.tray
      else (pickTaken s h).pick h sh due := by
    show (match (pickTaken s h).sheet h with
      | none => _
      | some sh =>
        if sh.state = SheetState.scheduled then
          if (pickTaken s h).lines.trayEmpty[sh.plan.tray] then _
          else if (pickTaken s h).run.state = RunState.running ∧ (pickTaken s h).drive.state = DriveState.locked then _
          else _
        else _) = _
    rw [hs']
    dsimp only
    rw [if_pos scheduled, if_pos ready]
    rfl
  show Host.Outcome.next (match (s.begin.timers h).pick with
    | some d => if notEarlier s.begin.tick d then s.begin.expirePick h d else _
    | none => _ : State).grant = _
  rw [show (s.begin.timers h).pick = some due from set]
  dsimp only
  rw [if_pos (show notEarlier s.begin.tick due = true from come), expires]

end

section
variable {s : State} {h : Handle} {sh : Sheet} {due : Tick} {timing : TimingSet}

/-- The state in which a sheet is FEEDING, with PICK pulsed, before its expectation is placed. -/
def feeding (s : State) (h : Handle) (sh : Sheet) (due : Tick) : State :=
  (((pickTaken s h).modifySheet h (fun x => { x with state := .feeding })).pulse (.pick sh.plan.tray)).setScheduler
    { (pickTaken s h).scheduler with pickBounds := some ⟨sh.frontSlot, sh.finalSlot, due⟩ }

/-- The pick of a sheet: PICK pulsed, and its expectation placed from the pulse. -/
theorem pick_spec (hs : s.sheet h = some sh) (set : s.tracker.timing = some timing) :
    let t := ((pickTaken s h).pick h sh due).grant
    let x := traySensor sh.plan.tray
    t.pulses = [.pick sh.plan.tray]
      ∧ t.sheet h = some { sh with state := .feeding, leg := some (.pick sh.plan.tray), reference := s.tick }
      ∧ (∀ k, k ≠ h → t.sheet k = s.sheet k)
      ∧ t.sensor x = { s.sensor x with
          expectations := insertByOpen (s.expects timing h sh (.pick sh.plan.tray)) (s.sensor x).expectations }
      ∧ (∀ y, y ≠ x → t.sensor y = s.sensor y)
      ∧ t.scheduler = { s.scheduler with
          pickBounds := some ⟨sh.frontSlot, sh.finalSlot, due⟩, timers := t.scheduler.timers }
      ∧ t.timers h = { s.timers h with pick := none } ∧ (∀ k, k ≠ h → t.timers k = s.timers k)
      ∧ t.junction = s.junction.grant ∧ KeepsBut [.junction, .pulses, .scheduler, .tracker] s t := by
  intro t x
  obtain ⟨entry, others, sensors, timed, -⟩ := sheetBecomes_modifySheet (s := pickTaken s h) (h := h) hs
    fun x => { x with state := .feeding }
  have picked : (pickTaken s h).pick h sh due = (feeding s h sh due).place h (.pick sh.plan.tray) := by
    simp [State.pick, feeding]
  obtain ⟨-, placed, kept, dest, rest⟩ := State.place_spec (feeding s h sh due) h (.pick sh.plan.tray)
    { sh with state := .feeding } timing entry (timed.trans set)
  have scheduler : ((feeding s h sh due).place h (.pick sh.plan.tray)).scheduler = { (pickTaken s h).scheduler with
        pickBounds := some ⟨sh.frontSlot, sh.finalSlot, due⟩ } := by simp [feeding]
  have tick : (feeding s h sh due).tick = s.tick := by simp [feeding, pickTaken, timersAt]
  have sensors' (y : Sensor) : (feeding s h sh due).sensor y = s.sensor y := State.sensor_congr sensors y
  rw [tick] at placed dest
  rw [sensors'] at dest
  simp only [t, picked]
  refine ⟨?_, ?_, fun k other => (kept k other).trans (others k other), ?_,
    fun y hy => (rest y hy).trans (sensors' y), ?_, ?_, fun k other => ?_, ?_, ?_⟩
  · simp [feeding, pickTaken, timersAt, State.pulse]
  · exact placed
  · exact dest
  · simp [feeding, pickTaken, timersAt, State.putTimers]
  · refine (congrArg (fun x : Scheduler => x.timers[h]) (scheduler)).trans ?_
    exact timersAt_timers s h _
  · refine (congrArg (fun x : Scheduler => x.timers[k]) (scheduler)).trans ?_
    exact timers_putTimers_other _ _ _ _ other
  · exact congrArg Junction.grant (by simp [feeding, pickTaken, timersAt])
  · have keeps : KeepsBut [.junction, .pulses, .scheduler, .tracker] s
        ((feeding s h sh due).place h (.pick sh.plan.tray)) := by
      simp [keepsBut_iff, feeding, pickTaken, timersAt]
    exact keeps.grant (by simp)

end

/-! ## A tray found empty (R67, R72) -/

theorem each_rewithdraws_sound {l : List PlanEntry} {u v : State} (sound : u.output.broken = [])
    (each : Each Rewithdraws l u v) : KeepsBut [] u v := by
  induction l generalizing u with
  | nil => exact each
  | cons e es ih =>
    obtain ⟨w, first, others⟩ := each
    have still := first.1 (by rw [OutputUnit.brokenRecord, sound]; rfl)
    exact still.trans (ih ((congrArg OutputUnit.broken (still .output (by simp))).trans sound) others)

theorem any_of_tray {f : FeedHolds} {k : Tray} (held : f.tray[k] = true) : f.any = true := by
  have mem : true ∈ f.tray.toList := by
    rw [Vector.mem_toList_iff, Vector.mem_iff_getElem]
    exact ⟨k.val, k.isLt, held⟩
  have tray : f.tray.toList.any id = true := List.any_eq_true.2 ⟨true, mem, rfl⟩
  simp [FeedHolds.any, tray]

/-- With a feed hold set admission waits: for the hold where there is a grid and a head. -/
theorem evaluate_held {u : State} (held : u.run.holds.any = true) (head : u.plan.queue ≠ []) :
    ∃ r, u.evaluate = u.setWaitReason r
      ∧ (u.run.state = .running → u.drive.state = .locked → u.scheduler.grid.isSome = true → r = .hold) := by
  by_cases ready : u.scheduler.grid = none ∨ u.run.state ≠ .running ∨ u.drive.state ≠ .locked
  · refine ⟨_, Admission.evaluate_of_waits (Admission.evaluation_notRunning ready), fun running locked grid => ?_⟩
    rcases ready with none | stopped | free
    · simp [none] at grid
    · exact absurd running stopped
    · exact absurd locked free
  · simp only [not_or, not_not] at ready
    obtain ⟨some, running, locked⟩ := ready
    obtain ⟨g, grid⟩ := Option.ne_none_iff_exists'.1 some
    obtain ⟨x, rest, queue⟩ := List.exists_cons_of_ne_nil head
    refine ⟨.hold, Admission.evaluate_of_waits ?_, fun _ _ _ => rfl⟩
    rw [Admission.evaluation_running grid running locked, queue, Admission.evaluateHead_cons, if_pos (.inl held)]

theorem mem_scheduledPlans {s : State} {h : Handle} {sh : Sheet} (hs : s.sheet h = some sh)
    (scheduled : sh.state = .scheduled) : sh.plan ∈ s.scheduledPlans := by
  rw [State.scheduledPlans, List.mem_filterMap]
  exact ⟨h, List.mem_finRange h, by simp [hs, scheduled, Option.filter]⟩

/-- Settles O38: a pick with paper, and the deschedule of an empty tray with and without broken copies. -/
theorem picksMade : Obligations.PicksMade := by
  intro s h sh due set come hs scheduled running locked
  have edge := exec_pickDue set come hs scheduled running locked
  refine ⟨fun timing paper timed => ?_, fun empty => ?_, fun empty sound => ?_⟩
  · rw [if_neg (Bool.eq_false_iff.1 paper)] at edge
    exact ⟨_, edge, pick_spec hs timed⟩
  · rw [if_pos empty] at edge
    refine ⟨pickTaken s h, _, (pickTaken s h).deschedule.setHolds { (pickTaken s h).deschedule.run.holds with
        tray := put (pickTaken s h).deschedule.run.holds.tray sh.plan.tray true }, _, _, edge, timersAt_timers _ _ _,
      fun k other => timers_putTimers_other _ _ _ _ other, rfl, rfl, by simp [keepsBut_iff, pickTaken, timersAt],
      deschedules _, rfl, put_same _ _ _, fun k other => put_other _ _ _ _ other,
      by simp [keepsBut_iff], evaluates _, granted _⟩
  · rw [if_pos empty] at edge
    obtain ⟨newest, v, sorted, perm, plan, sheets, sensors, -, -, -, grid, admission, pick, -, keeps, each⟩ :=
      deschedules (pickTaken s h)
    have sound' : v.output.broken = [] := (congrArg OutputUnit.broken (keeps .output (by simp))).trans sound
    have still := each_rewithdraws_sound sound' each
    have all : KeepsBut [.plan, .scheduler, .tracker] (pickTaken s h) (pickTaken s h).deschedule :=
      keeps.trans (still.mono (by simp))
    have run : (pickTaken s h).deschedule.run = s.run := all .run (by simp)
    have holds : (pickTaken s h).trayFoundEmpty sh.plan.tray = ((pickTaken s h).deschedule.setHolds { s.run.holds with
        tray := put s.run.holds.tray sh.plan.tray true }).evaluate := by
      rw [State.trayFoundEmpty, run]
    generalize (pickTaken s h).deschedule = d at still all run holds
    have plan' : d.plan = _ := (still .plan (by simp)).trans plan
    have scheduler : d.scheduler = v.scheduler := still .scheduler (by simp)
    have tracker : d.tracker = v.tracker := still .tracker (by simp)
    have locked' : d.drive.state = .locked := (congrArg Drive.state (all .drive (by simp))).trans locked
    have mem : sh.plan ∈ newest := perm.mem_iff.2 (mem_scheduledPlans (s := pickTaken s h) hs scheduled)
    have head : (newest.reverse ++ s.plan.queue) ≠ [] := by
      simp [List.ne_nil_of_mem mem]
    obtain ⟨r, waits, reason⟩ := evaluate_held (u := d.setHolds { s.run.holds with
        tray := put s.run.holds.tray sh.plan.tray true }) (any_of_tray (put_same _ sh.plan.tray true))
      (by simp only [State.setHolds_keeps]; rw [plan']; exact head)
    rw [holds, waits] at edge
    have grown : KeepsBut [.run, .scheduler] d ((d.setHolds { s.run.holds with
        tray := put s.run.holds.tray sh.plan.tray true }).setWaitReason r) := by simp [keepsBut_iff]
    have frame := (all.mono (M := [.junction, .pulses, .plan, .scheduler, .tracker, .run]) (by decide)).trans
      (grown.mono (by decide))
    have start : KeepsBut [.junction, .pulses, .plan, .scheduler, .tracker, .run] s.begin (pickTaken s h) := by
      simp [keepsBut_iff, pickTaken, timersAt]
    refine ⟨_, newest.reverse, edge, actsOn_of_effect (start.trans frame) ?_ ?_, ?_, ?_, ?_, fun k => ?_, ?_, ?_, ?_,
      fun k other => ?_, fun isSome => ?_, ?_, ?_⟩
    · exact (grown .junction (by simp)).trans (all .junction (by simp))
    · exact (grown .pulses (by simp)).trans (all .pulses (by simp))
    · exact (grown .plan (by simp)).trans plan'
    · simpa [List.pairwise_reverse] using sorted
    · exact (List.reverse_perm _).trans perm
    · exact (State.sheet_congr ((grown .tracker (by simp)).trans tracker) k).trans (sheets k)
    · exact (congrArg Tracker.sensors ((grown .tracker (by simp)).trans tracker)).trans sensors
    · simp [State.setHolds, run]
    · exact put_same s.run.holds.tray sh.plan.tray true
    · simp [State.setHolds, put_other _ _ _ _ other]
    · obtain ⟨g, hg⟩ := Option.isSome_iff_exists.1 isSome
      obtain ⟨ring, discarded, -⟩ := grid g hg
      have held := reason (by simpa [State.setHolds, run] using running) (by simpa using locked')
        (by simp [scheduler, discarded])
      simp [State.setWaitReason, held]
    · exact (congrArg Scheduler.admissionBounds scheduler).trans admission
    · exact (congrArg Scheduler.pickBounds scheduler).trans pick

end Sys2Proof.Proofs.Timers

/-! The accesses of the upstream ports: their judgement by window and guard (chapter 11), the statements O42 to O44. -/

namespace Sys2Proof.Proofs.Accesses
open Sys2Proof Sys2Proof.Machine Sys2Proof.Proofs.CommandFrames Sys2Proof.Proofs.Invariants

variable {s : State} {c : Configuration} {d : Descriptor} {p : Port} {a : Access}

/-! ## The bytes an access writes -/

theorem byteAt_layOut (l : List Byte) (b x : Nat) :
    byteAt (layOut b l) x = if b ≤ x then l[x - b]? else none := by
  induction l generalizing b with
  | nil => simp [byteAt, layOut]
  | cons v vs ih =>
    have tail : byteAt (layOut b (v :: vs)) x = if b = x then some v else byteAt (layOut (b + 1) vs) x := by
      by_cases here : b = x <;> simp [byteAt, layOut, here]
    rw [tail, ih]
    by_cases here : b = x
    · simp [here]
    · by_cases below : b ≤ x
      · rw [if_neg here, if_pos (by omega), if_pos below, show x - b = (x - (b + 1)) + 1 by omega]
        rfl
      · rw [if_neg here, if_neg (by omega), if_neg below]

/-- A write writes a value at an address exactly when the laid out bytes have it there. -/
theorem byteAt_eq_some {x : Nat} {v : Byte} : byteAt a.cells x = some v ↔ a.writes x v := by
  unfold Access.cells Access.writes
  by_cases write : a.write = true
  · rw [if_pos write, byteAt_layOut]
    by_cases below : a.addr.toNat ≤ x <;> simp [write, below]
  · simp [write, byteAt]

theorem byteAt_eq_none {x : Nat} : byteAt a.cells x = none ↔ ∀ v, ¬ a.writes x v := by
  rw [Option.eq_none_iff_forall_ne_some]
  exact forall_congr' fun v => not_congr byteAt_eq_some

/-- A byte that a filter of the addresses keeps stands among the filtered bytes as before. -/
theorem byteAt_filter (cells : List Host.Cell) (keep : Nat → Bool) {x : Nat} (kept : keep x = true) :
    byteAt (cells.filter (fun y => keep y.1)) x = byteAt cells x := by
  unfold byteAt
  rw [List.find?_filter]
  refine congrArg _ (List.find?_congr fun y _ => ?_)
  by_cases here : y.1 = x <;> simp [here, kept]

/-! ## The window that applies (R179) -/

/-- The first enabled window that contains the address and admits the access. -/
def applying (c : Configuration) (p : Port) (a : Access) : Option Descriptor :=
  (c.containing a).find? (fun d => d.admits p a.write)

theorem contains_iff {x : Nat} :
    d.contains x = true ↔ d.enabled = true ∧ d.base ≤ x ∧ x < d.base + 2 ^ d.sizeLog2 := by
  simp only [Descriptor.contains, Bool.and_eq_true, decide_eq_true_eq, and_assoc]
  rfl

theorem applying_eq_some : applying c p a = some d ↔ c.Applies p a d := by
  have judged (e : Descriptor) : (e.contains a.addr.toNat && e.admits p a.write) = true ↔
      e.enabled = true ∧ e.base ≤ a.addr.toNat ∧ a.addr.toNat < e.base + 2 ^ e.sizeLog2
        ∧ e.admits p a.write = true := by
    rw [Bool.and_eq_true, contains_iff]
    tauto
  unfold applying Configuration.containing Configuration.Applies
  rw [List.find?_filter, List.find?_eq_some_iff_getElem]
  simp only [Bool.decide_and, Bool.decide_eq_true, judged, Bool.not_eq_true', ← Bool.not_eq_true]
  constructor
  · rintro ⟨fits, i, hi, rfl, before⟩
    exact ⟨⟨i, by simpa using hi⟩, rfl, fits, fun j hj => before j.val hj⟩
  · rintro ⟨i, rfl, fits, before⟩
    exact ⟨fits, i.val, by simp, rfl, fun j hj => before ⟨j, by omega⟩ hj⟩

theorem containing_isEmpty : (c.containing a).isEmpty = true ↔ ¬ c.Contains a := by
  unfold Configuration.containing Configuration.Contains
  rw [List.isEmpty_iff, List.filter_eq_nil_iff, ← not_iff_not]
  simp only [not_forall, not_not, Vector.mem_toList_iff, Vector.mem_iff_getElem]
  constructor
  · rintro ⟨_, ⟨i, hi, rfl⟩, inside⟩
    exact ⟨⟨i, hi⟩, contains_iff.1 inside⟩
  · rintro ⟨i, inside⟩
    exact ⟨_, ⟨i.val, i.isLt, rfl⟩, contains_iff.2 inside⟩

theorem judge_applies (config : s.config = some c) (applies : c.Applies p a d) :
    s.judge p a = if a.write then s.judgeWrite c d p a else judgeRead d a := by
  have found := applying_eq_some.2 applies
  unfold applying at found
  simp only [State.judge, config, found]

theorem judge_unmapped (config : s.config = some c) (none : ∀ d, ¬ c.Applies p a d) :
    s.judge p a = if (c.containing a).isEmpty then .passes a.cells (anchorEvents p a.cells)
      else .violates .permission := by
  have absent : applying c p a = .none :=
    Option.eq_none_iff_forall_ne_some.2 fun d found => none d (applying_eq_some.1 found)
  unfold applying at absent
  simp only [State.judge, config, absent]

theorem contains_of_applies (applies : c.Applies p a d) : c.Contains a := by
  obtain ⟨i, rfl, ⟨enabled, above, below, -⟩, -⟩ := applies
  exact ⟨i, enabled, above, below⟩

/-! ## An access taken (R177) -/

theorem exec_upstreamAccess (ready : s.Presents p a) :
    exec (.upstreamAccess p a) s = .next (s.begin.carryOut p a (s.judge p a)).grant := by
  obtain ⟨wf, free⟩ := ready
  show Host.Outcome.next (if _ then _ else _ : State).grant = _
  rw [if_pos (by simp [wf, State.ready, free])]
  rfl

/-- A row that names a kind of access takes one that is judged so. -/
theorem takeAccessIf_of_kind {kind : Judgement → Bool} {j : Judgement} (ready : s.Presents p a)
    (judged : s.judge p a = j) (named : kind j = true) :
    s.begin.takeAccessIf p a kind = s.begin.carryOut p a j := by
  obtain ⟨wf, free⟩ := ready
  subst judged
  unfold State.takeAccessIf
  rw [if_pos ?_]
  · rfl
  · simp only [Bool.and_eq_true]
    exact ⟨⟨wf, by simp [State.ready, free]⟩, named⟩

theorem passesWith {bytes : List Host.Cell} {events : List PortEvent} (ready : s.Presents p a)
    (judged : s.judge p a = .passes bytes events) :
    ∃ t, exec (.upstreamAccess p a) s = .next t ∧ PassesWith s p a bytes events t := by
  refine ⟨_, exec_upstreamAccess ready, ?_⟩
  rw [judged]
  exact actsOn_begin [] (s.setJunction _)

theorem violates {cause : CaptureCause} (ready : s.Presents p a) (judged : s.judge p a = .violates cause) :
    ∃ t, exec (.upstreamAccess p a) s = .next t ∧ Violates s p a cause t := by
  refine ⟨_, exec_upstreamAccess ready, ?_⟩
  rw [judged]
  have junction : (s.begin.carryOut p a (.violates cause)).junction = ({ s.junction with latch := some (match s.junction.latch with
      | none => ⟨a.addr, p, a.write, cause, false⟩
      | some x => { x with more := true }) } : Junction).setResponse p (some ⟨false, a.errorData⟩) := by
    have latched : latchAfter s.junction.latch ⟨a.addr, p, a.write, cause, false⟩ = some (match s.junction.latch with
      | none => ⟨a.addr, p, a.write, cause, false⟩
      | some x => { x with more := true }) := by
      cases s.junction.latch <;> rfl
    rw [← latched]
    cases p <;> rfl
  refine ⟨actsOn_of_effect ?_ junction ?_, ?_⟩
  · cases p <;> simp [keepsBut_iff, State.carryOut, State.capture, State.respond]
  · cases p <;> simp [State.carryOut, State.capture, State.respond]
  · cases p <;> rfl

/-! ## Accesses outside the guard -/

theorem cells_of_read (read : a.write = false) : a.cells = [] := by simp [Access.cells, read]

theorem anchorEvents_of_writes {x : Byte} (writes : a.writes 0xFFFFF04 x) :
    anchorEvents .E a.cells = if x = 1 then [.anchor .activate] else if x = 2 then [.anchor .deactivate] else [] := by
  have written : byteAt a.cells (anchorBase + 4) = some x := byteAt_eq_some.2 writes
  simp only [anchorEvents, written]

theorem anchorEvents_of_not_writes (other : p = .E → ¬ a.writes 0xFFFFF04 1 ∧ ¬ a.writes 0xFFFFF04 2) :
    anchorEvents p a.cells = [] := by
  cases p with
  | P => rfl
  | E =>
    cases written : byteAt a.cells (anchorBase + 4) with
    | none => simp only [anchorEvents, written]
    | some x =>
      have writes := byteAt_eq_some.1 written
      have not1 : x ≠ 1 := fun one => (other rfl).1 (one ▸ writes)
      have not2 : x ≠ 2 := fun two => (other rfl).2 (two ▸ writes)
      simp only [anchorEvents, written, if_neg not1, if_neg not2]

theorem not_writes_of_read (read : a.write = false) (x : Nat) (v : Byte) : ¬ a.writes x v := fun writes => by
  simp [Access.writes, read] at writes

/-- Outside the guard an access passes with the anchor event its bytes make. -/
theorem judge_free (free : s.config = none ∨ ∃ c, s.config = some c
      ∧ (¬ c.Contains a ∨ ∃ d, c.Applies p a d ∧ d.kind = some .plain)) :
    s.judge p a = .passes a.cells (anchorEvents p a.cells) := by
  rcases free with off | ⟨c, config, unmapped | ⟨d, applies, plain⟩⟩
  · simp only [State.judge, off]
  · rw [judge_unmapped config fun d applies => unmapped (contains_of_applies applies),
      if_pos (containing_isEmpty.2 unmapped)]
  · rw [judge_applies config applies]
    by_cases write : a.write = true
    · rw [if_pos write]
      simp only [State.judgeWrite, plain]
    · have read : a.write = false := by simpa using write
      rw [if_neg write, judgeRead, plain, if_neg (by decide), cells_of_read read]
      cases p <;> rfl

/-- Settles O42: each access by the window that applies to it, or by none. -/
theorem accessesJudged : Obligations.AccessesJudged := by
  refine ⟨fun s p a ready => ⟨?_, ?_, ?_, ?_, ?_, ?_⟩, fun s p a _ busy => ?_⟩
  · rintro - free rfl writes
    exact passesWith ready ((judge_free free).trans (by rw [anchorEvents_of_writes writes]; rfl))
  · rintro - free rfl writes
    exact passesWith ready ((judge_free free).trans (by rw [anchorEvents_of_writes writes]; rfl))
  · intro _ free other
    exact passesWith ready ((judge_free free).trans (by rw [anchorEvents_of_not_writes other]))
  · intro read free
    have none := anchorEvents_of_not_writes (p := p) fun _ => ⟨not_writes_of_read read _ _, not_writes_of_read read _ _⟩
    exact passesWith ready ((judge_free free).trans (by rw [none]))
  · intro c d config applies read notView
    refine passesWith ready ?_
    rw [judge_applies config applies, if_neg (by simp [read]), judgeRead, if_neg notView, cells_of_read read]
  · intro c config contained denied
    refine violates ready ?_
    rw [judge_unmapped config denied, if_neg (mt containing_isEmpty.1 (not_not_intro contained))]
  · refine ⟨s.begin.grant, ?_, actsOn_begin [] s⟩
    show Host.Outcome.next (if _ then _ else _ : State).grant = _
    rw [if_neg]
    simp [State.ready, busy]

/-! ## The write guard (R180, R181) -/

/-- What a guard decides of a write: blocked with the guard on where its rule says so, and else passed. -/
theorem judge_guarded {blocks : Bool} {cause : CaptureCause} {events : List PortEvent} (config : s.config = some c)
    (applies : c.Applies p a d) (write : a.write = true)
    (rule : s.judgeWrite c d p a = if s.junction.guardOn && blocks then .violates cause else .passes a.cells events) :
    (s.junction.guardOn = true ∧ blocks = true → s.judge p a = .violates cause)
      ∧ (¬ (s.junction.guardOn = true ∧ blocks = true) → s.judge p a = .passes a.cells events) := by
  rw [judge_applies config applies, if_pos write, rule, ← Bool.and_eq_true]
  exact ⟨fun blocked => if_pos blocked, fun open' => if_neg open'⟩

theorem planBlocked_iff {base : Nat} : s.planBlocked base a = true ↔
    s.plan.slots[(a.addr.toNat - base) / 32]? = some .pending
      ∨ s.plan.slots[(a.addr.toNat - base) / 32]? = some .taken := by
  rw [State.planBlocked, State.slotState]
  cases s.plan.slots[(a.addr.toNat - base) / 32]? with
  | none => simp
  | some x => cases x <;> simp

theorem tagOpen_iff (config : s.config = some c) {b : Nat} : s.tagOpen b = true ↔ s.Open c b := by
  have count : s.bufferCount = c.bufferCount := by simp only [State.bufferCount, config]
  unfold State.tagOpen State.Open
  cases field : bufferField b with
  | none =>
    refine iff_of_false (by simp) ?_
    rintro ⟨n, rfl, -⟩
    simp [bufferField_eq_some.2 rfl] at field
  | some n =>
    obtain rfl := bufferField_eq_some.1 field
    simp only [Bool.and_eq_true, decide_eq_true_eq, beq_iff_eq, count]
    constructor
    · rintro ⟨below, filling⟩
      exact ⟨n, rfl, below, filling⟩
    · rintro ⟨k, same, below, filling⟩
      obtain rfl := Fin.ext same
      exact ⟨below, filling⟩

theorem mem_tagSlots {base b : Nat} : b ∈ tagSlots base a ↔ a.touchesTag base b := by
  unfold tagSlots Access.touchesTag
  dsimp only
  split
  · next same => simp [← same]
  · simp

theorem nodup_tagSlots {base : Nat} : (tagSlots base a).Nodup := by
  unfold tagSlots
  dsimp only
  split
  · simp
  · next differ => simpa using differ

theorem tagBlocked_iff (config : s.config = some c) {base : Nat} : s.tagBlocked base a = true ↔
    ∃ x, a.touchesTag base x ∧ ¬ s.Open c x := by
  simp only [State.tagBlocked, Bool.not_eq_true', ← Bool.not_eq_true, List.all_eq_true, not_forall, mem_tagSlots,
    tagOpen_iff config, exists_prop]

theorem bufferBlocked_iff (config : s.config = some c) {base : Nat} : s.bufferBlocked c base p a = true ↔
    ¬ (p = .P ∧ s.Open c ((a.addr.toNat - base) / 2 ^ c.bufferSizeLog2)) := by
  rw [← tagOpen_iff config]
  simp [State.bufferBlocked, imp_iff_not_or]

theorem mem_tagEvent {base b : Nat} {e : PortEvent} : e ∈ tagEvent base a.cells b ↔
    ∃ n : BufferNo, n.val = b ∧ e = .tagCommit n ∧ a.writes (base + 16 * b + 12) 1 := by
  unfold tagEvent
  cases field : bufferField b with
  | none =>
    refine iff_of_false (by simp) ?_
    rintro ⟨n, rfl, -⟩
    simp [bufferField_eq_some.2 rfl] at field
  | some n =>
    obtain rfl := bufferField_eq_some.1 field
    by_cases writes : a.writes (base + 16 * n.val + 12) 1
    · simp only [if_pos (byteAt_eq_some.2 writes), List.mem_singleton]
      refine ⟨fun eq => ⟨n, rfl, eq, writes⟩, fun ⟨k, same, eq, _⟩ => ?_⟩
      rw [eq, Fin.ext same]
    · simp only [if_neg (mt byteAt_eq_some.1 writes)]
      exact iff_of_false (by simp) fun ⟨_, _, _, written⟩ => writes written

theorem nodup_tagEvent {base b : Nat} {cells : List Host.Cell} : (tagEvent base cells b).Nodup := by
  unfold tagEvent
  split
  · split <;> simp
  · simp

theorem mem_tagEvents {base : Nat} {e : PortEvent} : e ∈ tagEvents base p a a.cells ↔
    p = .P ∧ ∃ n : BufferNo, e = .tagCommit n ∧ a.touchesTag base n.val ∧ a.writes (base + 16 * n.val + 12) 1 := by
  cases p with
  | E => simp [tagEvents]
  | P =>
    simp only [tagEvents, List.mem_flatMap, mem_tagSlots, mem_tagEvent, true_and]
    constructor
    · rintro ⟨_, touches, n, rfl, eq, writes⟩
      exact ⟨n, eq, touches, writes⟩
    · rintro ⟨n, eq, touches, writes⟩
      exact ⟨n.val, touches, n, rfl, eq, writes⟩

theorem nodup_tagEvents {base : Nat} : (tagEvents base p a a.cells).Nodup := by
  cases p with
  | E => simp [tagEvents]
  | P =>
    refine List.nodup_flatMap.2 ⟨fun _ _ => nodup_tagEvent, nodup_tagSlots.imp fun differ => ?_⟩
    intro e left right
    obtain ⟨n, rfl, rfl, -⟩ := mem_tagEvent.1 left
    obtain ⟨k, rfl, same, -⟩ := mem_tagEvent.1 right
    exact differ (congrArg Fin.val (PortEvent.tagCommit.inj same))

/-! ## The consumer word of a write (R173) -/

/-- Byte `n` of a word of four bytes, least significant first. -/
theorem extract_littleEndian (b0 b1 b2 b3 : Byte) (n : Fin 4) :
    (BitVec.ofNat 32 (littleEndian [b0, b1, b2, b3])).extractLsb' (8 * n.val) 8 = [b0, b1, b2, b3][n] := by
  have h0 := b0.isLt
  have h1 := b1.isLt
  have h2 := b2.isLt
  have h3 := b3.isLt
  apply BitVec.eq_of_toNat_eq
  rw [BitVec.extractLsb'_toNat, BitVec.toNat_ofNat, Nat.shiftRight_eq_div_pow]
  fin_cases n <;> simp [littleEndian] <;> omega

theorem getLsbD_bits : ∀ (b0 b1 b2 b3 : Bool) (n : Fin 4), (BitVec.ofNat 4 ((if b0 then 1 else 0)
      + 2 * ((if b1 then 1 else 0) + 2 * ((if b2 then 1 else 0) + 2 * ((if b3 then 1 else 0) + 2 * 0))))).getLsbD n.val
    = [b0, b1, b2, b3][n] := by decide

theorem getLsbD_writtenMask (x0 x1 x2 x3 : Option Byte) (n : Fin 4) :
    (writtenMask [x0, x1, x2, x3]).getLsbD n.val = [x0, x1, x2, x3][n].isSome := by
  refine (getLsbD_bits x0.isSome x1.isSome x2.isSome x3.isSome n).trans ?_
  fin_cases n <;> rfl

theorem extract_writtenWord (x0 x1 x2 x3 : Option Byte) (n : Fin 4) :
    (writtenWord [x0, x1, x2, x3]).extractLsb' (8 * n.val) 8 = [x0, x1, x2, x3][n].getD 0 := by
  refine (extract_littleEndian (x0.getD 0) (x1.getD 0) (x2.getD 0) (x3.getD 0) n).trans ?_
  fin_cases n <;> rfl

theorem wordBytes_get (cells : List Host.Cell) (base : Nat) (n : Fin 4) :
    (wordBytes cells base)[n]'n.isLt = byteAt cells (base + n.val) := by
  fin_cases n <;> rfl

theorem wordBytes_any {base : Nat} {q : Option Byte → Bool} {cells : List Host.Cell} :
    (wordBytes cells base).any q = true ↔ ∃ x, base ≤ x ∧ x < base + 4 ∧ q (byteAt cells x) = true := by
  simp only [wordBytes, List.any_cons, List.any_nil, Bool.or_false, Bool.or_eq_true]
  constructor
  · rintro (here | here | here | here)
    · exact ⟨base, le_rfl, by omega, here⟩
    · exact ⟨base + 1, by omega, by omega, here⟩
    · exact ⟨base + 2, by omega, by omega, here⟩
    · exact ⟨base + 3, by omega, by omega, here⟩
  · rintro ⟨x, above, below, here⟩
    obtain rfl | rfl | rfl | rfl : x = base ∨ x = base + 1 ∨ x = base + 2 ∨ x = base + 3 := by omega
    all_goals simp [here]

/-- The consumer write of a write into the CONSUMER word carries the bytes written and which they are. -/
theorem logEvents_of_writes {base : Nat} (touches : ∃ x v, base ≤ x ∧ x < base + 4 ∧ a.writes x v) :
    ∃ w m, logEvents base a.cells = [.consumer w m]
      ∧ ∀ n : Fin 4, (m.getLsbD n.val = true ↔ ∃ v, a.writes (base + n.val) v)
        ∧ ∀ v, a.writes (base + n.val) v → w.extractLsb' (8 * n.val) 8 = v := by
  obtain ⟨x, v, above, below, writes⟩ := touches
  have any : (wordBytes a.cells base).any Option.isSome = true :=
    wordBytes_any.2 ⟨x, above, below, by rw [byteAt_eq_some.2 writes]; rfl⟩
  refine ⟨_, _, if_pos any, fun n => ⟨?_, fun v written => ?_⟩⟩
  · rw [wordBytes, getLsbD_writtenMask]
    refine (Bool.eq_iff_iff.1 (congrArg Option.isSome (wordBytes_get a.cells base n))).trans ?_
    simp only [Option.isSome_iff_exists, byteAt_eq_some]
  · rw [wordBytes, extract_writtenWord]
    refine (congrArg (Option.getD · 0) (wordBytes_get a.cells base n)).trans ?_
    rw [byteAt_eq_some.2 written]
    rfl

theorem logEvents_of_not_writes {base : Nat} (silent : ∀ x v, base ≤ x → x < base + 4 → ¬ a.writes x v) :
    logEvents base a.cells = [] := by
  refine if_neg fun any => ?_
  obtain ⟨x, above, below, some⟩ := wordBytes_any.1 any
  obtain ⟨v, written⟩ := Option.isSome_iff_exists.1 some
  exact silent x v above below (byteAt_eq_some.1 written)

/-- Settles O43: window by window, the guard's rule and then the events of the bytes written. -/
theorem guardedWrites : Obligations.GuardedWrites := by
  intro s c d p a config ready write applies
  have judged {blocks : Bool} {cause : CaptureCause} {events : List PortEvent}
      (rule : s.judgeWrite c d p a =
        if s.junction.guardOn && blocks then .violates cause else .passes a.cells events) :=
    judge_guarded config applies write rule
  refine ⟨fun plan => ?_, fun tag => ?_, fun buffer => ?_, fun log => ?_⟩
  · obtain ⟨shut, opened⟩ := judged (blocks := s.planBlocked d.base a) (cause := .planGuard)
      (events := planEvents c d.base a a.cells) (by simp only [State.judgeWrite, plan])
    rw [planBlocked_iff] at shut opened
    refine ⟨fun blocked => violates ready (shut blocked), fun open' => ⟨fun n same below writes => ?_, fun none => ?_⟩⟩
    · refine passesWith ready ((opened open').trans ?_)
      rw [planEvents, if_pos ⟨below, byteAt_eq_some.2 writes⟩, ← same]
      simp
    · refine passesWith ready ((opened open').trans ?_)
      rw [planEvents, if_neg]
      rintro ⟨below, writes⟩
      exact none.elim (· below) (· (byteAt_eq_some.1 writes))
  · obtain ⟨shut, opened⟩ := judged (blocks := s.tagBlocked d.base a) (cause := .tagGuard)
      (events := tagEvents d.base p a a.cells) (by simp only [State.judgeWrite, tag])
    rw [tagBlocked_iff config] at shut opened
    exact ⟨fun blocked => violates ready (shut blocked),
      fun open' => ⟨_, passesWith ready (opened open'), nodup_tagEvents, fun _ => mem_tagEvents⟩⟩
  · obtain ⟨shut, opened⟩ := judged (blocks := s.bufferBlocked c d.base p a) (cause := .bufferGuard)
      (events := []) (by simp only [State.judgeWrite, buffer])
    rw [bufferBlocked_iff config] at shut opened
    exact ⟨fun blocked => violates ready (shut blocked), fun open' => passesWith ready (opened open')⟩
  · obtain ⟨shut, opened⟩ := judged (blocks := logBlocked d.base a) (cause := .logGuard)
      (events := logEvents d.base a.cells) (by simp only [State.judgeWrite, log])
    rw [logBlocked, decide_eq_true_eq] at shut opened
    refine ⟨fun blocked => violates ready (shut blocked), fun open' => ⟨fun touches => ?_, fun silent => ?_⟩⟩
    · obtain ⟨w, m, events, bytes⟩ := logEvents_of_writes touches
      exact ⟨w, m, passesWith ready ((opened open').trans (by rw [events])), bytes⟩
    · exact passesWith ready ((opened open').trans (by rw [logEvents_of_not_writes silent]))

/-! ## The COMMAND and VIEW windows (R180, R182) -/

theorem judge_view_burst (config : s.config = some c) (applies : c.Applies p a d) (view : d.kind = some .view)
    (burst : a.size = .burst) : s.judge p a = .violates .viewBurst := by
  rw [judge_applies config applies]
  split
  · simp only [State.judgeWrite, view, judgeViewWrite, if_pos burst]
  · rw [judgeRead, if_pos view, if_pos burst]

/-- The bytes a write into the COMMAND window keeps: those outside the state and result words. -/
theorem kept_eq (base : Nat) : a.cells.filter (fun x => !inAnswerWords base x.1)
    = a.cells.filter (fun x => decide (x.1 < base + 12) || decide (base + 20 ≤ x.1)) := by
  refine List.filter_congr fun x _ => ?_
  simp only [inAnswerWords, Bool.not_and, ← decide_not, Nat.not_le, Nat.not_lt]

theorem any_code_iff {base : Nat} : (wordBytes (a.cells.filter (fun x => !inAnswerWords base x.1)) (base + 28)).any
      (fun b => match b with | some v => v != 0 | none => false) = true
    ↔ ∃ x v, base + 28 ≤ x ∧ x < base + 32 ∧ a.writes x v ∧ v ≠ 0 := by
  rw [wordBytes_any]
  have kept {x : Nat} (above : base + 28 ≤ x) :
      byteAt (a.cells.filter (fun y => !inAnswerWords base y.1)) x = byteAt a.cells x :=
    byteAt_filter a.cells (fun y => !inAnswerWords base y) (by simp [inAnswerWords]; omega)
  constructor
  · rintro ⟨x, above, below, nonzero⟩
    rw [kept above] at nonzero
    cases written : byteAt a.cells x with
    | none => simp [written] at nonzero
    | some v => exact ⟨x, v, above, by omega, byteAt_eq_some.1 written, by simpa [written] using nonzero⟩
  · rintro ⟨x, v, above, below, writes, nonzero⟩
    exact ⟨x, above, by omega, by rw [kept above, byteAt_eq_some.2 writes]; simpa using nonzero⟩

theorem codeEvents_of_coded {base : Nat} (coded : ∃ x v, base + 28 ≤ x ∧ x < base + 32 ∧ a.writes x v ∧ v ≠ 0) :
    codeEvents base (a.cells.filter (fun x => !inAnswerWords base x.1)) = [.code] :=
  if_pos (any_code_iff.2 coded)

theorem codeEvents_of_not_coded {base : Nat}
    (plain : ¬ ∃ x v, base + 28 ≤ x ∧ x < base + 32 ∧ a.writes x v ∧ v ≠ 0) :
    codeEvents base (a.cells.filter (fun x => !inAnswerWords base x.1)) = [] :=
  if_neg (mt any_code_iff.1 plain)

theorem judge_command (config : s.config = some c) (applies : c.Applies p a d) (write : a.write = true)
    (command : d.kind = some .command) : s.judge p a =
      if (a.cells.filter (fun x => !inAnswerWords d.base x.1)).isEmpty then .drops
      else .passes (a.cells.filter (fun x => !inAnswerWords d.base x.1))
        (codeEvents d.base (a.cells.filter (fun x => !inAnswerWords d.base x.1))) := by
  rw [judge_applies config applies, if_pos write]
  simp only [State.judgeWrite, command, judgeCommandWrite]

theorem judge_view_write (config : s.config = some c) (applies : c.Applies p a d) (write : a.write = true)
    (view : d.kind = some .view) : s.judge p a = judgeViewWrite d.base p a := by
  rw [judge_applies config applies, if_pos write]
  simp only [State.judgeWrite, view]

theorem judgeViewWrite_drops {base : Nat} (single : a.size ≠ .burst) (silent : p = .E ∨ ∀ v, ¬ a.writes (base + 8) v) :
    judgeViewWrite base p a = .drops := by
  unfold judgeViewWrite
  rw [if_neg single]
  rcases silent with rfl | silent
  · rfl
  · rw [byteAt_eq_none.2 silent]
    cases p <;> rfl

theorem judgeViewWrite_abandons {base : Nat} {v : Byte} (single : a.size ≠ .burst) (writes : a.writes (base + 8) v) :
    judgeViewWrite base .P a = .abandons v.toNat := by
  unfold judgeViewWrite
  rw [if_neg single, byteAt_eq_some.2 writes]

theorem drops (ready : s.Presents p a) (judged : s.judge p a = .drops) :
    ∃ t, exec (.droppedWrite p a) s = .next t ∧ AnsweredBy s p [] t := by
  refine ⟨_, congrArg (fun u : State => Host.Outcome.next u.grant) (takeAccessIf_of_kind ready judged rfl), ?_⟩
  exact actsOn_begin [] (s.setJunction _)

theorem exec_abandon {n : Nat} (ready : s.Presents .P a) (judged : s.judge .P a = .abandons n) :
    exec (.abandon a) s = .next ((s.begin.abandonBuffer n).respond .P true []).grant :=
  congrArg (fun u : State => Host.Outcome.next u.grant) (takeAccessIf_of_kind ready judged rfl)

/-- A buffer freed: it is FREE, and BUFFER AVAILABLE follows when claim-waiting is set (R54). -/
theorem freeBuffer_spec (s : State) (b : BufferNo) :
    (s.freeBuffer b).buffer b = Buffer.free ∧ (∀ k, k ≠ b → (s.freeBuffer b).buffer k = s.buffer k)
      ∧ (s.freeBuffer b).buffers.claimWaiting = false
      ∧ (s.freeBuffer b).attention = (if s.buffers.claimWaiting then
          { s.attention with p := s.attention.p.add .bufferAvailable, lineP := true } else s.attention) := by
  have claim : (s.putBuffer b Buffer.free).buffers.claimWaiting = s.buffers.claimWaiting := rfl
  unfold State.freeBuffer State.bufferAvailable
  rw [claim]
  by_cases waiting : s.buffers.claimWaiting = true
  · simp only [if_pos waiting]
    exact ⟨put_same _ _ _, fun k other => put_other _ _ _ _ other, rfl, rfl⟩
  · simp only [if_neg waiting]
    exact ⟨put_same _ _ _, fun k other => put_other _ _ _ _ other, claim.trans (by simpa using waiting), rfl⟩

/-- Settles O44: the two windows whose writes do not depend on the guard. -/
theorem commandAndViewWrites : Obligations.CommandAndViewWrites := by
  intro s c d p a config ready applies
  refine ⟨fun write command => ?_, fun write view single => ?_, fun view burst =>
    violates ready (judge_view_burst config applies view burst)⟩
  · have judged := judge_command config applies write command
    rw [kept_eq] at judged
    refine ⟨fun some coded => passesWith ready ?_, fun some plain => passesWith ready ?_, fun none => drops ready ?_⟩
    · rw [judged, if_neg (by simpa using some), ← kept_eq, codeEvents_of_coded coded]
    · rw [judged, if_neg (by simpa using some), ← kept_eq, codeEvents_of_not_coded plain]
    · rw [judged, if_pos (by simpa using none)]
  · have judged := judge_view_write config applies write view
    refine ⟨fun silent => drops ready (judged.trans (judgeViewWrite_drops single silent)), fun v port writes => ?_⟩
    · subst port
      rw [judgeViewWrite_abandons single writes] at judged
      have count : s.begin.bufferCount = c.bufferCount := by simp [State.bufferCount, config]
      refine ⟨fun b number below filling => ?_, fun idle => ?_⟩
      · have field : bufferField v.toNat = some b := bufferField_eq_some.2 (by
          rw [number, BitVec.toNat_ofNat]; omega)
        have abandon : s.begin.abandonBuffer v.toNat = s.begin.freeBuffer b := by
          rw [State.abandonBuffer, field]
          exact if_pos ⟨count ▸ below, filling⟩
        rw [exec_abandon ready judged, abandon]
        obtain ⟨freed, others, claim, attention⟩ := freeBuffer_spec s.begin b
        exact ⟨_, rfl, freed, others, claim, attention,
          actsOn_of_effect (by simp [keepsBut_iff, State.respond]) (by simp [State.respond]) (by simp [State.respond])⟩
      · have abandon : s.begin.abandonBuffer v.toNat = s.begin := by
          unfold State.abandonBuffer
          cases field : bufferField v.toNat with
          | none => rfl
          | some b =>
            refine if_neg fun ⟨below, filling⟩ => idle b ?_ (count ▸ below) filling
            rw [← bufferField_eq_some.1 field]
            simp
        rw [exec_abandon ready judged, abandon]
        exact ⟨_, rfl, actsOn_begin [] (s.setJunction _)⟩

end Sys2Proof.Proofs.Accesses

/-! The completion of an access and the events it carries (R177, R178, R181): the statements O45, O47 and O48. -/

namespace Sys2Proof.Proofs.Completions
open Sys2Proof Sys2Proof.Machine Sys2Proof.Proofs.CommandFrames Sys2Proof.Proofs.Invariants
open Sys2Proof.Proofs.Accesses

variable {s : State}

/-! ## Plan, tag and code events -/

theorem asked_nil (j : Junction) : j.asked [] = j := by simp [Junction.asked]

theorem asked_asked (j : Junction) (l m : List RecordOp) : (j.asked l).asked m = j.asked (l ++ m) := by
  simp [Junction.asked]

/-- What the block answers a tag commit: the fetch of a FILLING buffer's tag, and else a refusal. -/
def tagAnswer (s : State) (b : BufferNo) : RecordOp :=
  if (s.buffer b).state = .filling then .tagFetch b else .tagWrite b .refusedState

theorem takeTagCommit_filling {b : BufferNo} (filling : (s.buffer b).state = .filling) :
    s.takeTagCommit b = (s.putBuffer b { s.buffer b with state := .closing }).ask (.tagFetch b) := if_pos filling

theorem takeTagCommit_refused {b : BufferNo} (other : (s.buffer b).state ≠ .filling)
    (none : ∀ x, x = TagAnswer.refusedState ∨ x = .refusedFormat → .tagWrite b x ∉
      if s.junction.holder = some .agent then s.junction.agentQueue.tail else s.junction.agentQueue) :
    s.takeTagCommit b = s.ask (.tagWrite b .refusedState) := by
  unfold State.takeTagCommit
  rw [if_neg other]
  exact if_neg (by simpa using ⟨none _ (.inl rfl), none _ (.inr rfl)⟩)

theorem takeTagCommit_waiting {b : BufferNo} {x : TagAnswer} (other : (s.buffer b).state ≠ .filling)
    (refusal : x = TagAnswer.refusedState ∨ x = .refusedFormat) (waits : .tagWrite b x ∈
      if s.junction.holder = some .agent then s.junction.agentQueue.tail else s.junction.agentQueue) :
    s.takeTagCommit b = s := by
  unfold State.takeTagCommit
  rw [if_neg other]
  refine if_pos ?_
  rcases refusal with rfl | rfl <;> simp [waits]

/-- An event taken from `s`: the operations it asks of the agent, and the blocks it changes. -/
def TakesEvent (ops : List RecordOp) (changed : List Block) (s t : State) : Prop :=
  t.junction = (s.junction.asked ops).grant ∧ t.pulses = [] ∧ KeepsBut (.junction :: .pulses :: changed) s t

theorem takesEvent_begin (s : State) : TakesEvent [] [] s s.begin.grant :=
  ⟨congrArg Junction.grant (asked_nil _).symm, rfl, (actsOn_begin [] s).1⟩

theorem takesEvent_ask {u : State} {op : RecordOp} {changed : List Block} (junction : u.junction = s.junction)
    (pulses : u.pulses = []) (frame : KeepsBut changed s.begin u) : TakesEvent [op] changed s (u.ask op).grant := by
  refine ⟨congrArg (fun j : Junction => (j.asked [op]).grant) junction, pulses, keepsBut_of_effect ?_ rfl⟩
  refine (frame.mono (by simp +contextual)).trans ?_
  simp [keepsBut_iff]

/-- Settles O47: each event as its block takes it. -/
theorem eventsTaken : Obligations.EventsTaken := by
  intro s
  dsimp only
  refine ⟨fun off => ?_, fun on => ?_⟩
  · have none := takesEvent_begin s
    exact ⟨fun i => ⟨_, congrArg (fun u : State => Host.Outcome.next u.grant) (if_pos off), none⟩,
      fun b => ⟨_, congrArg (fun u : State => Host.Outcome.next u.grant) (if_pos off), none⟩,
      ⟨_, congrArg (fun u : State => Host.Outcome.next u.grant) (if_pos off), none⟩⟩
  · have commit (i : Fin 256) : exec (.commitEvent i) s = .next (s.begin.takeCommit i.val).grant :=
      congrArg (fun u : State => Host.Outcome.next u.grant) (if_neg on)
    have tag (b : BufferNo) : exec (.tagCommitEvent b) s = .next (s.begin.takeTagCommit b).grant :=
      congrArg (fun u : State => Host.Outcome.next u.grant) (if_neg on)
    have code : exec .codeEvent s = .next s.begin.takeCode.grant :=
      congrArg (fun u : State => Host.Outcome.next u.grant) (if_neg on)
    refine ⟨fun i free => ?_, fun i taken => ?_, fun b filling => ?_, fun b other => ⟨fun refuses => ?_, fun none => ?_⟩,
      fun ended => ?_, fun r accepted running => ?_⟩
    · rw [commit, State.takeCommit, if_pos (show s.begin.slotState i.val = some .free from free)]
      exact ⟨_, rfl, takesEvent_ask rfl rfl (by simp [keepsBut_iff, State.putSlot]), rfl⟩
    · rw [commit, State.takeCommit, if_neg (show s.begin.slotState i.val ≠ some .free from taken)]
      exact ⟨_, rfl, takesEvent_begin s⟩
    · rw [tag, takeTagCommit_filling (s := s.begin) filling]
      exact ⟨_, rfl, takesEvent_ask rfl rfl (by simp [keepsBut_iff]), put_same _ _ _,
        fun k other => put_other _ _ _ _ other, rfl⟩
    · have waits : ∃ x, (x = TagAnswer.refusedState ∨ x = .refusedFormat) ∧ .tagWrite b x ∈
          if s.begin.junction.holder = some .agent then s.begin.junction.agentQueue.tail
          else s.begin.junction.agentQueue :=
        refuses.elim (fun h => ⟨_, .inl rfl, h⟩) (fun h => ⟨_, .inr rfl, h⟩)
      obtain ⟨x, refusal, mem⟩ := waits
      rw [tag, takeTagCommit_waiting (s := s.begin) other refusal mem]
      exact ⟨_, rfl, takesEvent_begin s⟩
    · rw [tag, takeTagCommit_refused (s := s.begin) other ?_]
      · exact ⟨_, rfl, takesEvent_ask (u := s.begin) rfl rfl .refl⟩
      · rintro x (rfl | rfl) mem
        · exact none (.inl mem)
        · exact none (.inr mem)
    · refine ⟨_, code, ?_⟩
      have taken : s.begin.takeCode = (s.begin.setRun
          { s.run with command := .accepted, running := some ⟨.none, 0, 0, 0, false⟩ }).ask (.commandOp false) := by
        rcases ended with idle | done
        · simp only [State.takeCode, State.begin_run, idle]
        · simp only [State.takeCode, State.begin_run, done]
      rw [taken]
      exact ⟨takesEvent_ask rfl rfl (by simp [keepsBut_iff]), rfl⟩
    · refine ⟨_, code, ?_⟩
      have taken : s.begin.takeCode = s.begin.setRun { s.run with running := some { r with overrun := true } } := by
        simp only [State.takeCode, State.begin_run, accepted, running, Option.map_some]
      rw [taken]
      exact ⟨⟨congrArg Junction.grant (asked_nil _).symm, rfl, keepsBut_of_effect (by simp [keepsBut_iff]) rfl⟩, rfl⟩

/-! ## The consumer index (R173) -/

theorem word_eq_of_bytes {v w : Word} (h : ∀ n : Fin 4, v.extractLsb' (8 * n.val) 8 = w.extractLsb' (8 * n.val) 8) :
    v = w := by
  have hv := v.isLt
  have hw := w.isLt
  have byte (n : Fin 4) := congrArg BitVec.toNat (h n)
  simp only [BitVec.extractLsb'_toNat, Nat.shiftRight_eq_div_pow] at byte
  have h0 := byte 0
  have h1 := byte 1
  have h2 := byte 2
  have h3 := byte 3
  apply BitVec.eq_of_toNat_eq
  norm_num at h0 h1 h2 h3
  omega

/-- The word a consumer write leaves is the one that has its bytes. -/
theorem mergedWord_eq {old data w : Word} {mask : BitVec 4} (bytes : ∀ n : Fin 4, w.extractLsb' (8 * n.val) 8
      = if mask.getLsbD n.val then data.extractLsb' (8 * n.val) 8 else old.extractLsb' (8 * n.val) 8) :
    mergedWord old data mask = w := by
  refine word_eq_of_bytes fun n => ?_
  rw [bytes n]
  refine (extract_littleEndian _ _ _ _ n).trans ?_
  fin_cases n <;> exact apply_ite (BitVec.extractLsb' _ 8) _ _ _

theorem consumerAfter_behind {l : LogWriter} {w : Word} (behind : (w - l.consumer).toInt ≤ 0) :
    l.consumerAfter w = l.consumer := if_pos behind

theorem toInt_of_pos {x : Word} (pos : 0 < x.toInt) : x.toInt = x.toNat := by
  rw [BitVec.toInt_eq_toNat_cond] at pos ⊢
  split at pos <;> omega

theorem consumerAfter_ahead {l : LogWriter} {w : Word} (ahead : 0 < (w - l.consumer).toInt) :
    l.consumerAfter w = if ((l.producer - l.consumer).toNat : Int) < (w - l.consumer).toInt then l.producer else w := by
  unfold LogWriter.consumerAfter
  have number := toInt_of_pos ahead
  rw [if_neg (show ¬ (w - l.consumer).toInt ≤ 0 by omega), number]
  simp only [Nat.cast_lt]

/-- Settles O48: the index by the word's distance from it, and what an advance lets go on. -/
theorem consumerWrites : Obligations.ConsumerWrites := by
  intro s data w mask on bytes
  have merged := mergedWord_eq bytes
  have event : exec (.consumerWrite data mask) s = .next (s.begin.takeConsumer data mask).grant :=
    congrArg (fun u : State => Host.Outcome.next u.grant) (if_neg on)
  have stays (same : s.log.consumerAfter w = s.log.consumer) :
      ∃ t, exec (.consumerWrite data mask) s = .next t ∧ ActsOn [] s t := by
    refine ⟨_, event, ?_⟩
    have taken : s.begin.takeConsumer data mask = s.begin := if_pos (by
      rw [State.begin_log, merged]; exact same)
    rw [taken]
    exact actsOn_begin [] s
  have advances {x : Word} (after : s.log.consumerAfter w = x) (moves : x ≠ s.log.consumer) :
      ∃ u v y t, exec (.consumerWrite data mask) s = .next t
        ∧ u.log = { s.log with consumer := x, overrun := false } ∧ u.pulses = [] ∧ KeepsBut [.log, .pulses] s u
        ∧ TakesNext u v ∧ Evaluates v y ∧ Granted y t := by
    have taken : s.begin.takeConsumer data mask
        = ((s.begin.setLog { s.log with consumer := x, overrun := false }).takeRecord).evaluate := by
      unfold State.takeConsumer
      simp only [State.begin_log, merged, after, if_neg moves]
    rw [event, taken]
    exact ⟨_, _, _, _, rfl, rfl, rfl, by simp [keepsBut_iff], takesNext _, evaluates _, granted _⟩
  refine ⟨fun behind => stays (consumerAfter_behind behind), fun ahead within => ?_, fun ahead beyond room => ?_,
    fun ahead empty => stays ?_⟩
  · refine advances ((consumerAfter_ahead ahead).trans (if_neg (by omega))) ?_
    rintro rfl
    simp at ahead
  · exact advances ((consumerAfter_ahead ahead).trans (if_pos beyond)) room
  · rw [consumerAfter_ahead ahead, empty]
    exact if_pos (by simpa using ahead)

/-! ## What the events read of the state

The counter of the model's own free values is the one part that an event's own row finds changed; no event reads it. -/

theorem setFreeCount_ite (n : Nat) (p : Prop) [Decidable p] (u v : State) :
    (if p then u else v).setFreeCount n = if p then u.setFreeCount n else v.setFreeCount n :=
  apply_ite (State.setFreeCount · n) p u v

theorem evaluateTimes_setFreeCount (n k : Nat) (s : State) :
    (s.setFreeCount n).evaluateTimes k = (s.evaluateTimes k).setFreeCount n := by
  induction k generalizing s with
  | zero => rfl
  | succ k ih =>
    have same : (s.setFreeCount n).evaluation = s.evaluation := rfl
    unfold State.evaluateTimes
    rw [same]
    cases s.evaluation with
    | waits r => rfl
    | admits g x rest h front => exact ih (s.admitHead g x rest h front)

theorem takeRecord_setFreeCount (n : Nat) (s : State) :
    (s.setFreeCount n).takeRecord = s.takeRecord.setFreeCount n := by
  unfold State.takeRecord
  have free : (s.setFreeCount n).logFree = s.logFree := rfl
  simp only [State.setFreeCount_log, free]
  cases s.log.inFlight with
  | some _ => rfl
  | none =>
    obtain ⟨waiting, next, lost⟩ := takeFrom s.logFree s.log.waiting
    have discard (l : LogWriter) : (((s.setFreeCount n).setLog l).discardEvent)
        = ((s.setLog l).discardEvent).setFreeCount n := by
      unfold State.discardEvent
      rw [setFreeCount_ite]
      rfl
    cases lost with
    | false => cases next <;> rfl
    | true =>
      cases next with
      | none => exact discard _
      | some r => exact congrArg (State.ask · _) (discard _)

theorem takeAnchor_setFreeCount (n : Nat) (s : State) (v : ActivateValue) :
    (s.setFreeCount n).takeAnchor v = (s.takeAnchor v).setFreeCount n := by
  have quiet : (s.setFreeCount n).quiet 0 = s.quiet 0 := rfl
  unfold State.takeAnchor
  simp only [State.setFreeCount_junction, State.setFreeCount_run, quiet]
  split
  · rfl
  · split
    · rfl
    · split <;> rfl
    · split <;> rfl
    · rfl

theorem takeCommit_setFreeCount (n : Nat) (s : State) (i : Nat) :
    (s.setFreeCount n).takeCommit i = (s.takeCommit i).setFreeCount n := by
  unfold State.takeCommit
  rw [setFreeCount_ite]
  rfl

theorem takeTagCommit_setFreeCount (n : Nat) (s : State) (b : BufferNo) :
    (s.setFreeCount n).takeTagCommit b = (s.takeTagCommit b).setFreeCount n := by
  unfold State.takeTagCommit
  dsimp only
  rw [setFreeCount_ite, setFreeCount_ite]
  rfl

theorem takeCode_setFreeCount (n : Nat) (s : State) : (s.setFreeCount n).takeCode = s.takeCode.setFreeCount n := by
  unfold State.takeCode
  simp only [State.setFreeCount_run]
  cases s.run.command <;> rfl

theorem takeConsumer_setFreeCount (n : Nat) (s : State) (w : Word) (m : BitVec 4) :
    (s.setFreeCount n).takeConsumer w m = (s.takeConsumer w m).setFreeCount n := by
  unfold State.takeConsumer
  dsimp only
  rw [setFreeCount_ite]
  refine if_congr Iff.rfl rfl ?_
  refine Eq.trans ?_ (evaluateTimes_setFreeCount n 17 _)
  exact congrArg State.evaluate (takeRecord_setFreeCount n (s.setLog _))

theorem takeEvent_setFreeCount (n : Nat) (s : State) (e : PortEvent) :
    (s.setFreeCount n).takeEvent e = (s.takeEvent e).setFreeCount n := by
  have unlessInactive {u v : State} (same : v = u.setFreeCount n) :
      (if (s.setFreeCount n).run.state = .inactive then s.setFreeCount n else v)
        = (if s.run.state = .inactive then s else u).setFreeCount n := by
    rw [same, setFreeCount_ite]
    rfl
  cases e with
  | anchor v => exact takeAnchor_setFreeCount n s v
  | commit i => exact unlessInactive (takeCommit_setFreeCount n s i.val)
  | tagCommit b => exact unlessInactive (takeTagCommit_setFreeCount n s b)
  | code => exact unlessInactive (takeCode_setFreeCount n s)
  | consumer w m => exact unlessInactive (takeConsumer_setFreeCount n s w m)

/-! ## The grant (R178) -/

theorem waits_iff (j : Junction) (r : Requester) : j.waits r = true ↔ match r with
    | .E => j.accessE ≠ none
    | .P => j.accessP ≠ none
    | .agent => j.agentQueue ≠ [] := by
  cases r <;> simp [Junction.waits, Option.isSome_iff_ne_none]

theorem find_three {α : Type} {q : α → Bool} {x y z r : α} : [x, y, z].find? q = some r ↔
    q r = true ∧ (r = x ∨ (r = y ∧ ¬ q x = true) ∨ (r = z ∧ ¬ q x = true ∧ ¬ q y = true)) := by
  by_cases hx : q x = true
  · rw [List.find?_cons_of_pos hx, Option.some_inj]
    constructor
    · rintro rfl
      exact ⟨hx, .inl rfl⟩
    · rintro ⟨-, rfl | ⟨-, no⟩ | ⟨-, no, -⟩⟩
      · rfl
      · exact absurd hx no
      · exact absurd hx no
  · rw [List.find?_cons_of_neg hx]
    by_cases hy : q y = true
    · rw [List.find?_cons_of_pos hy, Option.some_inj]
      constructor
      · rintro rfl
        exact ⟨hy, .inr (.inl ⟨rfl, hx⟩)⟩
      · rintro ⟨hr, rfl | ⟨rfl, -⟩ | ⟨-, -, no⟩⟩
        · exact absurd hr hx
        · rfl
        · exact absurd hy no
    · rw [List.find?_cons_of_neg hy, List.find?_singleton]
      constructor
      · intro found
        split at found
        · next hz =>
          obtain rfl := Option.some_inj.1 found
          exact ⟨hz, .inr (.inr ⟨rfl, hx, hy⟩)⟩
        · cases found
      · rintro ⟨hr, rfl | ⟨rfl, -⟩ | ⟨rfl, -, -⟩⟩
        · exact absurd hr hx
        · exact absurd hr hy
        · exact if_pos hr

theorem grant_of_first {j : Junction} {r : Requester} (free : j.holder = none)
    (first : j.order.find? j.waits = some r) : j.grant = { j with
      holder := some r
      rotation := match j.arbiter with
        | .rotating => r.next
        | .fixed => j.rotation } := by
  unfold Junction.grant
  rw [free, first] <;> rfl

/-- The three requesters in the order of the arbiter's mode. -/
theorem grantRule (j : Junction) :
    let waits : Requester → Prop := fun r => match r with
      | .E => j.accessE ≠ none
      | .P => j.accessP ≠ none
      | .agent => j.agentQueue ≠ []
    let after : Requester → Requester := fun r => match r with | .E => .P | .P => .agent | .agent => .E
    let first := fun (a b c r : Requester) =>
      waits r ∧ (r = a ∨ (r = b ∧ ¬ waits a) ∨ (r = c ∧ ¬ waits a ∧ ¬ waits b))
    (j.holder ≠ none → j.grant = j)
    ∧ ((∀ r, ¬ waits r) → j.grant = j)
    ∧ (∀ r, j.holder = none → j.arbiter = .rotating →
        first j.rotation (after j.rotation) (after (after j.rotation)) r →
        j.grant = { j with holder := some r, rotation := after r })
    ∧ (∀ r, j.holder = none → j.arbiter = .fixed → first .agent .E .P r → j.grant = { j with holder := some r }) := by
  intro waits after first
  have first_iff {a b c r : Requester} : first a b c r ↔ [a, b, c].find? j.waits = some r := by
    rw [find_three]
    simp only [waits_iff]
    rfl
  refine ⟨fun held => ?_, fun idle => ?_, fun r free rotating front => ?_, fun r free fixed front => ?_⟩
  · obtain ⟨r, holder⟩ := Option.ne_none_iff_exists'.1 held
    unfold Junction.grant
    rw [holder]
  · have nobody : j.order.find? j.waits = none :=
      List.find?_eq_none.2 fun r _ waiting => idle r ((waits_iff j r).1 waiting)
    unfold Junction.grant
    rw [nobody]
    cases j.holder <;> rfl
  · have order : j.order = [j.rotation, after j.rotation, after (after j.rotation)] := by
      unfold Junction.order
      rw [rotating]
      cases j.rotation <;> rfl
    rw [grant_of_first free (by rw [order]; exact first_iff.1 front), rotating]
    cases r <;> rfl
  · have order : j.order = [.agent, .E, .P] := by
      unfold Junction.order
      rw [fixed]
    rw [grant_of_first free (by rw [order]; exact first_iff.1 front), fixed]

/-! ## The completion (R177) -/

/-- Bytes written to distinct addresses all stand, and no others are changed. -/
theorem read_writeAll {m : List Host.Cell} (wf : Memory.wf m = true) {cells : List Host.Cell}
    (distinct : cells.Pairwise (fun c d => c.1 ≠ d.1)) (x : Nat) :
    Memory.read (Memory.writeAll m cells) x = (byteAt cells x).getD (Memory.read m x) := by
  induction cells generalizing m with
  | nil => rfl
  | cons y ys ih =>
    obtain ⟨others, distinct⟩ := List.pairwise_cons.1 distinct
    have written := ih (Memory.wf_write wf y.1 y.2) distinct
    rw [Memory.read_write wf] at written
    refine written.trans ?_
    by_cases here : x = y.1
    · have absent : byteAt ys x = none := by
        rw [byteAt, List.find?_eq_none.2 fun z mem => ?_]
        · rfl
        · simpa [here] using (others z mem).symm
      rw [absent, if_pos here]
      simp [byteAt, here]
    · rw [if_neg here]
      simp [byteAt, Ne.symm here]

theorem distinct_layOut (b : Nat) (l : List Byte) : (layOut b l).Pairwise (fun c d => c.1 ≠ d.1) := by
  induction l generalizing b with
  | nil => exact .nil
  | cons v vs ih =>
    refine .cons (fun y mem => ?_) (ih (b + 1))
    have above := (layOut_ge mem).1
    show b ≠ y.1
    omega

theorem distinct_cells (a : Access) : a.cells.Pairwise (fun c d => c.1 ≠ d.1) := by
  unfold Access.cells
  split
  · exact distinct_layOut _ _
  · exact .nil

theorem length_bytes (m : List Host.Cell) (b n : Nat) : (Memory.bytes m b n).length = n := by
  induction n generalizing b with
  | zero => rfl
  | succ n ih => simp [Memory.bytes, ih]

theorem bytes_get (m : List Host.Cell) {b n i : Nat} (hi : i < n) :
    (Memory.bytes m b n)[i]? = some (Memory.read m (b + i)) := by
  induction n generalizing b i with
  | zero => omega
  | succ n ih =>
    cases i with
    | zero => rfl
    | succ i =>
      refine (ih (b := b + 1) (by omega)).trans ?_
      rw [show b + 1 + i = b + (i + 1) by omega]

theorem exec_accessComplete {p : Port} {f : InFlight} (held : s.junction.holder = some p.requester)
    (access : s.junction.access p = some f) :
    exec .accessComplete s = .next ((s.begin.completeAccess p f).takeEvents f.events).grant := by
  have port : s.begin.junction.holdingPort = some p := by
    cases p <;> simp [Junction.holdingPort, held, Port.requester]
  show (match s.begin.junction.holdingPort with
    | none => s.begin
    | some p =>
      match s.begin.junction.access p with
      | some f => (s.begin.completeAccess p f).takeEvents f.events
      | none => s.begin).done = _
  rw [port]
  simp only [State.begin_junction, access]
  rfl


theorem byteAt_filter_out {cells : List Host.Cell} {keep : Nat → Bool} {x : Nat} (dropped : keep x = false) :
    byteAt (cells.filter (fun y => keep y.1)) x = none := by
  rw [byteAt, List.find?_eq_none.2 fun y mem => ?_]
  · rfl
  · have kept := (List.mem_filter.1 mem).2
    intro here
    rw [beq_iff_eq.1 here, dropped] at kept
    cases kept

/-- A tag commit that finds no refusal asked for is answered, and a FILLING buffer is CLOSING. -/
theorem takeTagCommit_unasked {b : BufferNo} (none : ∀ x, .tagWrite b x ∉ s.junction.agentQueue) :
    (s.takeTagCommit b).junction = s.junction.asked [tagAnswer s b]
      ∧ (∀ n, (s.takeTagCommit b).buffer n = if n = b ∧ (s.buffer n).state = .filling then
          { s.buffer n with state := .closing } else s.buffer n)
      ∧ (s.takeTagCommit b).buffers.claimWaiting = s.buffers.claimWaiting
      ∧ KeepsBut [.junction, .buffers] s (s.takeTagCommit b) := by
  by_cases filling : (s.buffer b).state = .filling
  · rw [takeTagCommit_filling filling, tagAnswer, if_pos filling]
    refine ⟨rfl, fun n => ?_, rfl, by simp [keepsBut_iff]⟩
    refine (buffer_putBuffer s b n _).trans ?_
    by_cases same : n = b
    · subst same
      rw [if_pos rfl, if_pos ⟨rfl, filling⟩]
    · rw [if_neg (Ne.symm same), if_neg (fun both => same both.1)]
  · rw [takeTagCommit_refused filling, tagAnswer, if_neg filling]
    · refine ⟨rfl, fun n => (if_neg ?_).symm, rfl, by simp [keepsBut_iff]⟩
      rintro ⟨rfl, opened⟩
      exact filling opened
    · intro x _ mem
      split at mem
      · exact none x (List.mem_of_mem_tail mem)
      · exact none x mem

theorem tagAnswer_ne {b k : BufferNo} (differ : b ≠ k) (x : TagAnswer) : tagAnswer s b ≠ .tagWrite k x := by
  unfold tagAnswer
  split
  · exact RecordOp.noConfusion
  · intro same
    exact differ (RecordOp.tagWrite.inj same).1

theorem takeEvents_two (s : State) (e f : PortEvent) : s.takeEvents [e, f] = (s.takeEvent e).takeEvent f := rfl

theorem exec_event (s : State) (e : PortEvent) : exec e.command s = .next (s.begin.takeEvent e).grant := by
  cases e <;> rfl

/-- Settles O45: the completion's bytes, its events and the grant. -/
theorem accessCompletes : Obligations.AccessCompletes := by
  refine ⟨fun s p f keep wf held access aligned bytes => ?_, fun j => grantRule j⟩
  have completes := exec_accessComplete held access
  obtain ⟨u, hu⟩ : ∃ u, u = s.begin.completeAccess p f := ⟨_, rfl⟩
  rw [← hu] at completes
  have memory : u.memory = Memory.writeAll s.memory f.bytes := by rw [hu]; rfl
  have junction : u.junction = { (s.junction.setAccess p none).setResponse p (some ⟨true, if f.access.write then []
      else Memory.bytes s.memory f.access.addr.toNat f.access.size.bytes⟩) with holder := none } := by rw [hu]; rfl
  have pulses : u.pulses = [] := by rw [hu]; rfl
  have frame : KeepsBut [.memory, .junction, .pulses] s u := by
    rw [hu]; simp [keepsBut_iff, State.completeAccess]
  have queue : u.junction.agentQueue = s.junction.agentQueue := by rw [junction]; cases p <;> rfl
  clear hu
  have read (x : Nat) : Memory.read u.memory x = (byteAt f.bytes x).getD (Memory.read s.memory x) := by
    rw [memory]
    refine read_writeAll wf ?_ x
    rw [bytes]
    exact (distinct_cells f.access).filter _
  refine ⟨u, _, ⟨junction, fun x v writes kept => ?_, fun x dropped => ?_, fun write => if_pos write, fun isRead => ?_, pulses,
    frame⟩, fun none => ?_, fun e one => ?_, fun b k two differ on unasked => ?_⟩
  · rw [read, bytes, byteAt_filter _ keep kept, byteAt_eq_some.2 writes]
    rfl
  · rw [read, bytes]
    by_cases kept : keep x = true
    · rw [byteAt_filter _ keep kept, byteAt_eq_none.2 fun v writes => by simp [dropped v writes] at kept]
      rfl
    · rw [byteAt_filter_out (by simpa using kept)]
      rfl
  · rw [if_neg (by simp [isRead])]
    exact ⟨length_bytes _ _ _, fun i hi => bytes_get _ hi⟩
  · rw [none] at completes
    exact ⟨u.grant, completes, ⟨KeepsBut.refl.grant (by simp), rfl, pulses⟩⟩
  · rw [one] at completes
    refine ⟨_, _, completes, exec_event u e, ?_⟩
    have begin' : u.begin = u.setFreeCount (u.freeCount + 1) := by
      rw [State.begin, ← pulses]
      rfl
    rw [begin', takeEvent_setFreeCount]
    simp [keepsBut_iff, State.takeEvents]
    rfl
  · have on' : u.run.state ≠ .inactive := by
      rw [frame .run (by simp)]
      exact on
    have buffers (n : BufferNo) : u.buffer n = s.buffer n :=
      congrArg (fun r : Residency => r.table[n]) (frame .buffers (by simp))
    have first := takeTagCommit_unasked (s := u) (b := b) fun x => by rw [queue]; exact unasked b x
    obtain ⟨v, hv⟩ : ∃ v, v = u.takeTagCommit b := ⟨_, rfl⟩
    rw [← hv] at first
    obtain ⟨asked1, table1, claim1, keeps1⟩ := first
    have second := takeTagCommit_unasked (s := v) (b := k) fun x => by
      rw [asked1]
      simp only [Junction.asked, List.mem_append, List.mem_singleton, queue, not_or]
      exact ⟨unasked k x, (tagAnswer_ne differ x).symm⟩
    obtain ⟨asked2, table2, claim2, keeps2⟩ := second
    have taken : u.takeEvents f.events = v.takeTagCommit k := by
      rw [two, takeEvents_two, hv]
      simp only [State.takeEvent, if_neg on']
      exact if_neg (by rw [← hv, keeps1 .run (by simp)]; exact on')
    have answer (w : State) (n : BufferNo) (same : w.buffer n = s.buffer n) : tagAnswer w n = tagAnswer s n := by
      rw [tagAnswer, same]
      rfl
    have other : v.buffer k = s.buffer k := (table1 k).trans ((if_neg fun both => differ both.1.symm).trans (buffers k))
    rw [taken] at completes
    refine ⟨_, completes, congrArg Junction.grant ?_, ?_, fun n => ?_, ?_, ?_⟩
    · rw [asked2, asked1, asked_asked, answer u b (buffers b), answer v k other]
      rfl
    · exact (keeps2 .pulses (by simp)).trans ((keeps1 .pulses (by simp)).trans pulses)
    · refine (table2 n).trans ?_
      by_cases isK : n = k
      · subst isK
        rw [other]
        simp
      · rw [if_neg (fun both => isK both.1), table1 n, buffers n]
        simp [isK]
    · exact claim2.trans (claim1.trans (congrArg Residency.claimWaiting (frame .buffers (by simp))))
    · exact ((keeps1.trans keeps2).mono (by simp)).grant (by simp)

end Sys2Proof.Proofs.Completions

/-! The fetches and the answers of the record agent (chapters 2, 3 and 9): the statements O49 to O51. -/

namespace Sys2Proof.Proofs.Agent
open Sys2Proof Sys2Proof.Machine Sys2Proof.Proofs.CommandFrames Sys2Proof.Proofs.Invariants
open Sys2Proof.Proofs.Completions

variable {s : State} {c : Configuration} {r : PlanRecord}

/-! ## Fields in memory (R188) -/

theorem wordNat_read (m : List Host.Cell) (a n : Nat) : Memory.wordNat m (a + n)
    = (Memory.read m (a + n)).toNat + 256 * (Memory.read m (a + (n + 1))).toNat
      + 65536 * ((Memory.read m (a + (n + 2))).toNat + 256 * (Memory.read m (a + (n + 2 + 1))).toNat) := by
  have bytes : Memory.wordNat m (a + n) = (Memory.read m (a + n)).toNat
      + 256 * ((Memory.read m (a + (n + 1))).toNat
        + 256 * ((Memory.read m (a + (n + 2))).toNat + 256 * ((Memory.read m (a + (n + 2 + 1))).toNat + 256 * 0))) := rfl
  omega

/-! ## The six checks (R24 to R29) -/

/-- The check of a refusal code passes. -/
def passesCheck (s : State) (r : PlanRecord) : PlanRefusal → Bool
  | .sequence => sequencePasses s.plan r
  | .field => fieldsPass r
  | .sides => sidesPass r
  | .buffer => bufferPasses s r r.front && bufferPasses s r r.back
  | .identity => identityPasses s r r.front .front && identityPasses s r r.back .back
  | .continuity => continuityPasses s.plan r

theorem planRefusal_eq (s : State) (r : PlanRecord) : s.planRefusal r =
    [PlanRefusal.sequence, .field, .sides, .buffer, .identity, .continuity].find? (fun e => !passesCheck s r e) := by
  simp only [State.planRefusal, List.find?_cons, List.find?_nil, passesCheck]
  cases sequencePasses s.plan r <;> [rfl; skip]
  cases fieldsPass r <;> [rfl; skip]
  cases sidesPass r <;> [rfl; skip]
  cases (bufferPasses s r r.front && bufferPasses s r r.back) <;> [rfl; skip]
  cases (identityPasses s r r.front .front && identityPasses s r r.back .back) <;> [rfl; skip]
  cases continuityPasses s.plan r <;> rfl

theorem planRefusal_none (passes : ∀ code, passesCheck s r code = true) : s.planRefusal r = none := by
  rw [planRefusal_eq, List.find?_eq_none]
  simp [passes]

theorem planRefusal_first {code : PlanRefusal} (fails : passesCheck s r code = false)
    (before : ∀ d : PlanRefusal, d.code < code.code → passesCheck s r d = true) : s.planRefusal r = some code := by
  have split' : [PlanRefusal.sequence, .field, .sides, .buffer, .identity, .continuity]
      = [PlanRefusal.sequence, .field, .sides, .buffer, .identity, .continuity].filter (fun d => d.code < code.code)
        ++ code :: [PlanRefusal.sequence, .field, .sides, .buffer, .identity, .continuity].filter
            (fun d => code.code < d.code) := by
    cases code <;> rfl
  rw [planRefusal_eq, List.find?_eq_some_iff_append]
  refine ⟨by simp [fails], _, _, split', fun d mem => ?_⟩
  have lower := (List.mem_filter.1 mem).2
  simp [before d (by simpa using lower)]

theorem exists_named {q : Nat × TagSide → Prop} : (∃ x ∈ r.named, q x) ↔
    (r.front ≠ 0xFF ∧ q (r.front, .front)) ∨ (r.back ≠ 0xFF ∧ q (r.back, .back)) := by
  simp only [PlanRecord.named, List.mem_filter, List.mem_cons, List.not_mem_nil, or_false, bne_iff_ne]
  constructor
  · rintro ⟨x, ⟨rfl | rfl, named⟩, holds⟩
    · exact .inl ⟨named, holds⟩
    · exact .inr ⟨named, holds⟩
  · rintro (⟨named, holds⟩ | ⟨named, holds⟩)
    · exact ⟨_, ⟨.inl rfl, named⟩, holds⟩
    · exact ⟨_, ⟨.inr rfl, named⟩, holds⟩

theorem length_named {n : Nat} (named : n ≠ 0xFF) :
    (r.named.filter (fun y => y.1 == n)).length = r.references n := by
  have same : r.named.filter (fun y => y.1 == n)
      = [(r.front, TagSide.front), (r.back, .back)].filter (fun y => y.1 == n) := by
    unfold PlanRecord.named
    rw [List.filter_filter]
    refine List.filter_congr fun y _ => ?_
    by_cases here : y.1 = n <;> simp [here, named]
  rw [same, PlanRecord.references]
  by_cases front : r.front = n <;> by_cases back : r.back = n <;> simp [front, back]

theorem bufferPasses_eq_false (config : s.config = some c) {n : Nat} : bufferPasses s r n = false ↔
    n ≠ 0xFF ∧ ∀ b : BufferNo, b.val = n → c.bufferCount ≤ n ∨ (s.buffer b).state ≠ .held
      ∨ 255 < (s.buffer b).count + r.references n := by
  have count : s.bufferCount = c.bufferCount := by simp only [State.bufferCount, config]
  unfold bufferPasses
  simp only [Bool.or_eq_false_iff, isNamed, Bool.not_eq_false', bne_iff_ne]
  refine and_congr_right fun _ => ?_
  cases field : bufferField n with
  | none =>
    refine iff_of_true rfl fun b same => ?_
    simp [bufferField_eq_some.2 same.symm] at field
  | some k =>
    obtain rfl := bufferField_eq_some.1 field
    have only (q : BufferNo → Prop) : (∀ b : BufferNo, b.val = k.val → q b) ↔ q k :=
      ⟨fun all => all k rfl, fun holds b same => Fin.ext same ▸ holds⟩
    rw [only, count]
    simp only [Bool.and_eq_false_iff, decide_eq_false_iff_not, beq_eq_false_iff_ne, Nat.not_lt, Nat.not_le, or_assoc]

theorem identityPasses_eq_false {n : Nat} {side : TagSide} : identityPasses s r n side = false ↔
    n ≠ 0xFF ∧ ∀ b : BufferNo, b.val = n →
      (s.buffer b).persistent = false ∧ (s.buffer b).tag ≠ some ⟨r.statement, r.k, side⟩ := by
  unfold identityPasses
  simp only [Bool.or_eq_false_iff, isNamed, Bool.not_eq_false', bne_iff_ne]
  refine and_congr_right fun _ => ?_
  cases field : bufferField n with
  | none =>
    refine iff_of_true rfl fun b same => ?_
    simp [bufferField_eq_some.2 same.symm] at field
  | some k =>
    obtain rfl := bufferField_eq_some.1 field
    have only (q : BufferNo → Prop) : (∀ b : BufferNo, b.val = k.val → q b) ↔ q k :=
      ⟨fun all => all k rfl, fun holds b same => Fin.ext same ▸ holds⟩
    rw [only]
    simp

/-- The six checks as R26 to R29 give them. -/
theorem fails_iff (config : s.config = some c) (code : PlanRefusal) :
    s.Fails c r code ↔ passesCheck s r code = false := by
  cases code with
  | sequence =>
    simp only [State.Fails, passesCheck, sequencePasses, Bool.and_eq_false_iff, decide_eq_false_iff_not, Nat.not_lt,
      bne_eq_false_iff_eq]
  | field =>
    simp only [State.Fails, passesCheck, fieldsPass, within, Bool.and_eq_false_iff, decide_eq_false_iff_not,
      Nat.not_le, bne_eq_false_iff_eq]
    omega
  | sides =>
    simp only [State.Fails, passesCheck, sidesPass, isNamed, Bool.or_eq_false_iff, Bool.and_eq_false_iff,
      beq_eq_false_iff_ne, Bool.not_eq_false', bne_iff_ne, bne_eq_false_iff_eq]
    tauto
  | buffer =>
    rw [State.Fails, exists_named, passesCheck, Bool.and_eq_false_iff, bufferPasses_eq_false config,
      bufferPasses_eq_false config]
    refine or_congr (and_congr_right fun named => ?_) (and_congr_right fun named => ?_) <;> rw [length_named named]
  | identity =>
    rw [State.Fails, exists_named, passesCheck, Bool.and_eq_false_iff, identityPasses_eq_false,
      identityPasses_eq_false]
  | continuity =>
    unfold State.Fails passesCheck continuityPasses
    cases s.plan.tail with
    | none => simp
    | some t =>
      simp only [Bool.and_eq_false_iff, decide_eq_false_iff_not, beq_eq_false_iff_ne]
      omega

/-! ## The plan fetch (R24, R25, R31) -/

theorem exec_planFetchComplete {i : Nat} (config : s.config = some c) (progress : s.inProgress = some (.planFetch i)) :
    exec .planFetchComplete s = .next (s.begin.completePlanFetch c i).grant := by
  show (match s.begin.inProgress, s.begin.config with
    | some (.planFetch i), some c => s.begin.completePlanFetch c i
    | _, _ => s.begin).done = _
  simp only [State.begin_config, config, State.begin_inProgress progress] <;> rfl

/-- After an evaluation of admission that is all an event does further. -/
theorem evaluatedAs_evaluate {u : State} (pulses : u.pulses = []) : EvaluatedAs u u.evaluate.grant := by
  refine ⟨rfl, rfl, rfl, congrArg Junction.grant (by simp), ?_, ?_⟩
  · simpa using pulses
  · exact KeepsBut.grant (by simp [keepsBut_iff]) (by simp)

theorem field_named {n : Nat} (passes : n ≠ 0xFF → ∃ b : BufferNo, b.val = n) :
    (bufferField n).map Fin.val = if n = 0xFF then none else some n := by
  by_cases unused : n = 0xFF
  · subst unused
    rfl
  · obtain ⟨b, rfl⟩ := passes unused
    rw [if_neg unused, bufferField_eq_some.2 rfl]
    rfl

/-- A buffer field of a record that passes check 4 is NONE or names a buffer. -/
theorem named_of_bufferPasses {n : Nat} (passes : bufferPasses s r n = true) (named : n ≠ 0xFF) :
    ∃ b : BufferNo, b.val = n := by
  unfold bufferPasses at passes
  cases field : bufferField n with
  | none => simp [isNamed, named, field] at passes
  | some b => exact ⟨b, (bufferField_eq_some.1 field).symm⟩

theorem namings_eq (r : PlanRecord) (b : BufferNo) : namings (bufferField r.front) (bufferField r.back) b
    = (r.named.filter (fun y => y.1 == b.val)).length := by
  rw [length_named (by omega), namings, PlanRecord.references]
  simp only [bufferField_eq_some]

theorem acceptRecord_plan (u : State) (i : Nat) : (u.acceptRecord r i).plan =
    { slots := u.plan.slots.set i .taken
      queue := u.plan.queue ++ [u.entryOf r i]
      lastAccepted := r.sequence
      tail := tailAfter (u.entryOf r i) } := by
  simp [State.acceptRecord, State.putSlot]
  rfl

theorem acceptRecord_junction (u : State) (i : Nat) :
    (u.acceptRecord r i).junction = u.junction.asked [.planWrite i .taken] := by
  simp [State.acceptRecord, State.putSlot, State.ask, Junction.asked]

theorem acceptRecord_claimWaiting (u : State) (i : Nat) :
    (u.acceptRecord r i).buffers.claimWaiting = u.buffers.claimWaiting := by
  have kept (v : State) (o : Option BufferNo) : (v.addReference o).buffers.claimWaiting = v.buffers.claimWaiting := by
    cases o <;> rfl
  exact (kept _ _).trans (kept _ _)

theorem acceptedAs (config : s.config = some c) {i : Nat} (passes : ∀ code, ¬ s.Fails c r code) :
    AcceptedAs s c i r (s.begin.releasePort.acceptRecord r i) := by
  have checks (code : PlanRefusal) : passesCheck s r code = true :=
    Bool.of_not_eq_false (mt (fails_iff config code).2 (passes code))
  have fields := passes .field
  have sides := passes .sides
  have continuity := passes .continuity
  have buffers := checks .buffer
  simp only [State.Fails] at fields sides continuity
  simp only [passesCheck, Bool.and_eq_true] at buffers
  obtain ⟨front, back⟩ := buffers
  have capacity : s.accumulatorCapacity = c.accumulatorCapacity := by simp only [State.accumulatorCapacity, config]
  refine ⟨⟨s.entryOf r i, ?_, rfl, rfl, rfl, rfl, ?_, ?_, ?_, rfl, rfl, ?_, ?_, fun one => ?_, fun p notOne tail => ?_,
    ?_⟩, fun b => ?_, acceptRecord_claimWaiting _ i, acceptRecord_junction _ i, ?_, ?_⟩
  · exact acceptRecord_plan _ i
  · show (r.tray - 1) % 4 + 1 = r.tray
    omega
  · show r.media % 4 = r.media
    omega
  · show (if r.sides = 2 then Sides.duplex else .simplex) = .duplex ↔ r.sides = 2
    split <;> simp_all
  · exact field_named (named_of_bufferPasses front)
  · exact field_named (named_of_bufferPasses back)
  · cases tail : s.plan.tail with
    | none => simp only [State.entryOf, tail]
    | some p => simp [tail, one] at continuity
  · simp only [State.entryOf, tail]
  · simp only [State.entryOf, capacity]
  · rw [buffer_acceptRecord, namings_eq]
    rfl
  · simp
  · simp [keepsBut_iff]

/-- Settles O49: the first check that fails, or the entry that the record becomes. -/
theorem planFetchJudged : Obligations.PlanFetchJudged := by
  intro s c i config progress
  have fetched := exec_planFetchComplete config progress
  refine ⟨?_, fun code fails before => ?_, fun passes => ?_⟩
  · unfold readPlanRecord
    dsimp only
    rw [show Memory.wordNat s.memory (planSlotAddress c i) = _ from wordNat_read _ _ 0, wordNat_read _ _ 4]
    rfl
  · have refused : s.begin.releasePort.planRefusal (readPlanRecord s.memory (planSlotAddress c i)) = some code :=
      planRefusal_first (s := s.begin.releasePort) ((fails_iff config code).1 fails) fun d lower =>
        Bool.of_not_eq_false (mt (fails_iff config d).2 (before d lower))
    have taken : s.begin.completePlanFetch c i = s.begin.releasePort.ask (.planWrite i (.refused code)) := by
      unfold State.completePlanFetch
      simp only [State.begin_memory, refused]
    rw [fetched, taken]
    exact ⟨_, rfl, rfl, rfl, keepsBut_of_effect (by simp [keepsBut_iff]) rfl⟩
  · have accepted : s.begin.releasePort.planRefusal (readPlanRecord s.memory (planSlotAddress c i)) = none :=
      planRefusal_none (s := s.begin.releasePort) fun code =>
      Bool.of_not_eq_false (mt (fails_iff config code).2 (passes code))
    refine ⟨_, _, fetched, acceptedAs config passes, fun waiting => ?_, fun empty => ?_⟩
    · have taken : s.begin.completePlanFetch c i
          = s.begin.releasePort.acceptRecord (readPlanRecord s.memory (planSlotAddress c i)) i := by
        unfold State.completePlanFetch
        simp only [State.begin_memory, accepted]
        exact if_neg (by simpa using waiting)
      rw [taken]
      exact ⟨KeepsBut.refl.grant (by simp), rfl, by simp⟩
    · have taken : s.begin.completePlanFetch c i
          = (s.begin.releasePort.acceptRecord (readPlanRecord s.memory (planSlotAddress c i)) i).evaluate := by
        unfold State.completePlanFetch
        simp only [State.begin_memory, accepted]
        exact if_pos (by simpa using empty)
      rw [taken]
      exact evaluatedAs_evaluate (by simp)

/-! ## The tag fetch (R46, R47) -/

theorem exec_tagFetchComplete {b : BufferNo} (config : s.config = some c) (progress : s.inProgress = some (.tagFetch b)) :
    exec .tagFetchComplete s
      = .next (s.begin.releasePort.judgeTag b (readTagRecord s.memory (tagSlotAddress c b))).grant := by
  show (match s.begin.inProgress, s.begin.config with
    | some (.tagFetch b), some c => s.begin.completeTagFetch c b
    | _, _ => s.begin).done = _
  simp only [State.begin_config, config, State.begin_inProgress progress] <;> rfl

/-- A tag accepted: the buffer is HELD with it, and BUFFER AVAILABLE follows when the open count falls from 16. -/
theorem acceptTag_spec (u : State) (b : BufferNo) (tag : Tag) (persistent : Bool) :
    (u.acceptTag b tag persistent).buffer b = ⟨.held, some tag, 0, persistent, false⟩
      ∧ (∀ k, k ≠ b → (u.acceptTag b tag persistent).buffer k = u.buffer k)
      ∧ (u.acceptTag b tag persistent).junction = u.junction.asked [.tagWrite b .taken]
      ∧ (u.buffers.openCount = 16 ∧ u.buffers.claimWaiting = true →
          (u.acceptTag b tag persistent).buffers.claimWaiting = false
            ∧ (u.acceptTag b tag persistent).attention
              = { u.attention with p := u.attention.p.add .bufferAvailable, lineP := true })
      ∧ (¬ (u.buffers.openCount = 16 ∧ u.buffers.claimWaiting = true) →
          (u.acceptTag b tag persistent).buffers.claimWaiting = u.buffers.claimWaiting
            ∧ (u.acceptTag b tag persistent).attention = u.attention) := by
  have claim : (u.putBuffer b ⟨.held, some tag, 0, persistent, false⟩).buffers.claimWaiting = u.buffers.claimWaiting :=
    rfl
  have same := fun k => put_other u.buffers.table b k ⟨.held, some tag, 0, persistent, false⟩
  unfold State.acceptTag State.bufferAvailable
  dsimp only
  rw [claim]
  by_cases full : u.buffers.openCount = 16 <;> by_cases waiting : u.buffers.claimWaiting = true
  · rw [if_pos full, if_pos waiting]
    exact ⟨put_same _ _ _, same, rfl, fun _ => ⟨rfl, rfl⟩, fun no => absurd ⟨full, waiting⟩ no⟩
  · rw [if_pos full, if_neg waiting]
    exact ⟨put_same _ _ _, same, rfl, fun both => absurd both.2 waiting, fun _ => ⟨rfl, rfl⟩⟩
  · rw [if_neg full]
    exact ⟨put_same _ _ _, same, rfl, fun both => absurd both.1 full, fun _ => ⟨rfl, rfl⟩⟩
  · rw [if_neg full]
    exact ⟨put_same _ _ _, same, rfl, fun both => absurd both.1 full, fun _ => ⟨rfl, rfl⟩⟩

theorem tag_eq_none {r : TagRecord} (any : ¬ (r.persistent = true ∧ r.statement = 0 ∧ r.sheet = 0 ∧ r.side = 3))
    (sided : ¬ ((r.persistent = false ∧ r.statement ≠ 0 ∧ 1 ≤ r.sheet ∧ r.sheet ≤ 1023)
      ∧ (r.side = 1 ∨ r.side = 2))) : r.tag = none := by
  unfold TagRecord.tag
  split
  · next persistent => exact if_neg fun form => any ⟨persistent, form⟩
  · next plain =>
    split
    · rfl
    · next form =>
      have fits : r.persistent = false ∧ r.statement ≠ 0 ∧ 1 ≤ r.sheet ∧ r.sheet ≤ 1023 := by
        simp only [not_or] at form
        exact ⟨by simpa using plain, form.1, by omega, by omega⟩
      rw [if_neg fun side => sided ⟨fits, .inl side⟩, if_neg fun side => sided ⟨fits, .inr side⟩]

theorem tag_of_sided {r : TagRecord} (sided : r.persistent = false ∧ r.statement ≠ 0 ∧ 1 ≤ r.sheet ∧ r.sheet ≤ 1023) :
    r.tag = if r.side = 1 then some ⟨r.statement, r.sheet, .front⟩
      else if r.side = 2 then some ⟨r.statement, r.sheet, .back⟩ else none := by
  obtain ⟨plain, statement, low, high⟩ := sided
  unfold TagRecord.tag
  rw [if_neg (by simp [plain]), if_neg (by omega)]

/-- Settles O50: the tag's two forms, and any other. -/
theorem tagFetchJudged : Obligations.TagFetchJudged := by
  intro s c b config progress
  have fetched := exec_tagFetchComplete config progress
  refine ⟨?_, ?_⟩
  · unfold readTagRecord
    dsimp only
    rw [show Memory.wordNat s.memory (tagSlotAddress c b) = _ from wordNat_read _ _ 0]
    rfl
  · generalize readTagRecord s.memory (tagSlotAddress c b) = r at fetched ⊢
    have holds {tag : Tag} {persistent : Bool} (formed : r.tag = some tag) (kind : r.persistent = persistent) :
        ∃ t, exec .tagFetchComplete s = .next t
          ∧ t.buffer b = ⟨.held, some tag, 0, persistent, false⟩ ∧ (∀ k, k ≠ b → t.buffer k = s.buffer k)
          ∧ t.junction = (s.junction.answered [.tagWrite b .taken]).grant ∧ t.pulses = []
          ∧ (s.buffers.openCount = 16 ∧ s.buffers.claimWaiting = true →
              t.buffers.claimWaiting = false
                ∧ t.attention = { s.attention with p := s.attention.p.add .bufferAvailable, lineP := true })
          ∧ (¬ (s.buffers.openCount = 16 ∧ s.buffers.claimWaiting = true) →
              t.buffers.claimWaiting = s.buffers.claimWaiting ∧ t.attention = s.attention)
          ∧ KeepsBut [.junction, .pulses, .buffers, .attention] s t := by
      have accepted : s.begin.releasePort.judgeTag b r = s.begin.releasePort.acceptTag b tag persistent := by
        unfold State.judgeTag
        rw [formed, kind]
      obtain ⟨held, others, asked, available, silent⟩ := acceptTag_spec s.begin.releasePort b tag persistent
      rw [fetched, accepted]
      exact ⟨_, rfl, held, others, congrArg Junction.grant asked, by simp, available, silent,
        keepsBut_of_effect (by simp [keepsBut_iff]) rfl⟩
    refine ⟨fun sided side => ?_, fun sided side => ?_, fun any => ?_, fun any sided => ?_⟩
    · exact holds (by rw [tag_of_sided sided, if_pos side]) sided.1
    · exact holds (by rw [tag_of_sided sided, if_neg (by omega), if_pos side]) sided.1
    · obtain ⟨persistent, form⟩ := any
      exact holds (by unfold TagRecord.tag; rw [if_pos persistent, if_pos form]) persistent
    · have refused : s.begin.releasePort.judgeTag b r = s.begin.releasePort.ask (.tagWrite b .refusedFormat) := by
        unfold State.judgeTag
        rw [tag_eq_none any sided]
      rw [fetched, refused]
      exact ⟨_, rfl, rfl, rfl, keepsBut_of_effect (by simp [keepsBut_iff]) rfl⟩

/-! ## The agent's answers (R22, R47, R156, R157) -/

/-- An answer written that asks for nothing further. -/
theorem answered_of_release {u : State} (junction : u.junction = s.begin.releasePort.junction) :
    u.grant.junction = (s.junction.answered []).grant := by
  rw [Junction.answered_nil]
  exact congrArg Junction.grant junction

theorem planWritten {i : Nat} {a : PlanAnswer} (config : s.config = some c) (wf : Memory.wf s.memory = true)
    (progress : s.inProgress = some (.planWrite i a)) :
    let at' := planSlotAddress c i + 28
    ∃ t, exec .planCommitWordWritten s = .next t
      ∧ Memory.word t.memory at' = a.word
      ∧ OnlyWrites at' (at' + 4) s.memory t.memory
      ∧ t.plan = { s.plan with slots := if a = .taken then s.plan.slots else s.plan.slots.set i .free }
      ∧ t.junction = (s.junction.answered []).grant ∧ t.pulses = []
      ∧ KeepsBut [.memory, .junction, .pulses, .plan] s t := by
  have written : exec .planCommitWordWritten s = .next (s.begin.completePlanWrite c i a).grant := by
    show (match s.begin.inProgress, s.begin.config with
      | some (.planWrite i a), some c => s.begin.completePlanWrite c i a
      | _, _ => s.begin).done = _
    simp only [State.begin_config, config, State.begin_inProgress progress] <;> rfl
  have memory : (s.begin.completePlanWrite c i a).memory
      = Memory.writeWord s.memory (planSlotAddress c i + 28) a.word := by cases a <;> rfl
  refine ⟨_, written, ?_, ?_, ?_, answered_of_release (by cases a <;> rfl), by cases a <;> rfl, ?_⟩
  · exact (congrArg (Memory.word · _) memory).trans (Memory.word_writeWord wf _ _)
  · show OnlyWrites _ _ _ (s.begin.completePlanWrite c i a).memory
    rw [memory]
    exact Memory.writeWord_only wf _ _
  · cases a <;> rfl
  · exact (keepsBut_of_effect (L := [.memory, .plan]) (u := s.begin.completePlanWrite c i a)
      (by simp [keepsBut_iff]) rfl).mono (by decide)

theorem tagWritten {b : BufferNo} {a : TagAnswer} (config : s.config = some c) (wf : Memory.wf s.memory = true)
    (progress : s.inProgress = some (.tagWrite b a)) :
    let at' := tagSlotAddress c b + 12
    ∃ t, exec .tagCommitWordWritten s = .next t
      ∧ Memory.word t.memory at' = a.word
      ∧ OnlyWrites at' (at' + 4) s.memory t.memory
      ∧ (∀ k, t.buffer k = if k = b ∧ a = .refusedFormat ∧ (s.buffer b).state = .closing then
          { s.buffer b with state := .filling } else s.buffer k)
      ∧ t.buffers.claimWaiting = s.buffers.claimWaiting
      ∧ t.junction = (s.junction.answered []).grant ∧ t.pulses = []
      ∧ KeepsBut [.memory, .junction, .pulses, .buffers] s t := by
  have written : exec .tagCommitWordWritten s = .next (s.begin.completeTagWrite c b a).grant := by
    show (match s.begin.inProgress, s.begin.config with
      | some (.tagWrite b a), some c => s.begin.completeTagWrite c b a
      | _, _ => s.begin).done = _
    simp only [State.begin_config, config, State.begin_inProgress progress] <;> rfl
  obtain ⟨u, hu⟩ : ∃ u, u = (s.begin.writeWord (tagSlotAddress c b + 12) a.word).releasePort := ⟨_, rfl⟩
  have buffers : u.buffers = s.buffers := by rw [hu]; rfl
  have complete : s.begin.completeTagWrite c b a
      = if a = .refusedFormat ∧ (s.buffer b).state = .closing then
          u.putBuffer b { s.buffer b with state := .filling } else u := by
    rw [hu]
    cases a with
    | taken => rfl
    | refusedState => rfl
    | refusedFormat =>
      simp [State.completeTagWrite, State.reopenBuffer]
      rfl
  have memory : (s.begin.completeTagWrite c b a).memory
      = Memory.writeWord s.memory (tagSlotAddress c b + 12) a.word := by
    rw [complete, hu]
    split <;> rfl
  refine ⟨_, written, ?_, ?_, fun k => ?_, ?_, answered_of_release ?_, ?_, ?_⟩
  · exact (congrArg (Memory.word · _) memory).trans (Memory.word_writeWord wf _ _)
  · show OnlyWrites _ _ _ (s.begin.completeTagWrite c b a).memory
    rw [memory]
    exact Memory.writeWord_only wf _ _
  · have table (x : BufferNo) : u.buffer x = s.buffer x := congrArg (fun r : Residency => r.table[x]) buffers
    show (s.begin.completeTagWrite c b a).buffer k = _
    rw [complete]
    by_cases reopens : a = .refusedFormat ∧ (s.buffer b).state = .closing
    · rw [if_pos reopens, buffer_putBuffer, table]
      simp [reopens, eq_comm]
    · rw [if_neg reopens, if_neg fun both => reopens both.2, table]
  · show (s.begin.completeTagWrite c b a).buffers.claimWaiting = _
    rw [complete, hu]
    split <;> rfl
  · rw [complete, hu]
    split <;> rfl
  · show (s.begin.completeTagWrite c b a).pulses = _
    rw [complete, hu]
    split <;> rfl
  · exact (keepsBut_of_effect (L := [.memory, .buffers]) (u := s.begin.completeTagWrite c b a)
      (by simp [keepsBut_iff]) rfl).mono (by decide)

theorem finishWritten {w : Word} (config : s.config = some c) (wf : Memory.wf s.memory = true)
    (progress : s.inProgress = some (.commandFinish w)) :
    ∃ t, exec .commandFinishWritten s = .next t
      ∧ Memory.word t.memory (commandBlock c + 16) = w ∧ Memory.word t.memory (commandBlock c + 12) = 2
      ∧ OnlyWrites (commandBlock c + 12) (commandBlock c + 20) s.memory t.memory
      ∧ t.attention = s.attention.withE .commandDone
      ∧ t.junction = (s.junction.answered []).grant ∧ t.pulses = []
      ∧ KeepsBut [.memory, .junction, .pulses, .attention] s t := by
  have written : exec .commandFinishWritten s = .next (s.begin.completeFinish c w).grant := by
    show (match s.begin.inProgress, s.begin.config with
      | some (.commandFinish w), some c => s.begin.completeFinish c w
      | some .commandAbandon, some c => s.begin.completeAbandon c
      | _, _ => s.begin).done = _
    simp only [State.begin_config, config, State.begin_inProgress progress] <;> rfl
  have wf' := Memory.wf_writeWord wf (commandBlock c + 16) w
  refine ⟨_, written, ?_, Memory.word_writeWord wf' _ _, ?_, rfl, answered_of_release rfl, rfl, ?_⟩
  · refine Eq.trans ?_ (Memory.word_writeWord wf (commandBlock c + 16) w)
    exact Memory.word_congr fun x above _ => Memory.read_writeWord_other wf' _ _ x (.inr (by omega))
  · intro x outside
    exact (Memory.writeWord_only wf' _ _ x (by omega)).trans (Memory.writeWord_only wf _ _ x (by omega))
  · exact (keepsBut_of_effect (L := [.memory, .attention]) (u := s.begin.completeFinish c w)
      (by simp [keepsBut_iff]) rfl).mono (by decide)

theorem abandonWritten (config : s.config = some c) (wf : Memory.wf s.memory = true)
    (progress : s.inProgress = some .commandAbandon) :
    ∃ t, exec .commandFinishWritten s = .next t
      ∧ Memory.word t.memory (commandBlock c + 12) = 0
      ∧ OnlyWrites (commandBlock c + 12) (commandBlock c + 16) s.memory t.memory
      ∧ t.junction = (s.junction.answered []).grant ∧ t.pulses = []
      ∧ KeepsBut [.memory, .junction, .pulses] s t := by
  have written : exec .commandFinishWritten s = .next (s.begin.completeAbandon c).grant := by
    show (match s.begin.inProgress, s.begin.config with
      | some (.commandFinish w), some c => s.begin.completeFinish c w
      | some .commandAbandon, some c => s.begin.completeAbandon c
      | _, _ => s.begin).done = _
    simp only [State.begin_config, config, State.begin_inProgress progress] <;> rfl
  exact ⟨_, written, Memory.word_writeWord wf _ _, Memory.writeWord_only wf _ _, answered_of_release rfl, rfl,
    (keepsBut_of_effect (L := [.memory]) (u := s.begin.completeAbandon c) (by simp [keepsBut_iff]) rfl).mono
      (by decide)⟩

/-! ## Places and codes (R189, R190) -/

theorem windowBase_of_only {k : WindowKind} {d : Descriptor} (only : c.OnlyWindow k d) : c.windowBase k = d.base := by
  obtain ⟨mem, enabled, kind, unique⟩ := only
  unfold Configuration.windowBase
  cases found : c.descriptors.toList.find? (fun d => d.enabled && d.kind == some k) with
  | none => simpa [enabled, kind] using List.find?_eq_none.1 found d mem
  | some x =>
    have fits := List.find?_some found
    simp only [Bool.and_eq_true, beq_iff_eq] at fits
    rw [unique x (List.mem_of_find?_eq_some found) fits.1 fits.2]

theorem ofWord_code {w : Word} (low : 1 ≤ w.toNat) (high : w.toNat ≤ 14) : CommandCode.ofWord w =
    [CommandCode.start, .stop, .pauseFeed, .resumeFeed, .changeSpeed, .cancelSpeedChange, .halt, .clear,
      .withdraw, .releaseBuffer, .reclaimBuffer, .guardOn, .guardOff, .selectStacker][w.toNat - 1]? := by
  unfold CommandCode.ofWord
  generalize w.toNat = n at low high
  interval_cases n <;> rfl

theorem ofWord_unknown {w : Word} (out : w.toNat = 0 ∨ 15 ≤ w.toNat) : CommandCode.ofWord w = none := by
  refine List.find?_eq_none.2 fun x _ named => ?_
  have range : 1 ≤ x.code ∧ x.code ≤ 14 := by cases x <;> decide
  have same : x.code = w.toNat := by simpa using named
  omega

/-- Settles O51: each answer as it is written, and where and how. -/
theorem agentWrites : Obligations.AgentWrites := by
  refine ⟨fun s c config wf => ⟨fun i a => planWritten config wf, fun b a => tagWritten config wf,
    fun w => finishWritten config wf, abandonWritten config wf⟩, fun c d => ⟨fun only i => ?_, fun only b => ?_, fun only => ?_⟩,
    ⟨fun w => ofWord_code, fun w => ofWord_unknown, rfl⟩, fun result overrun detail => ?_, rfl, rfl, rfl⟩
  · rw [planSlotAddress, windowBase_of_only only]
  · rw [tagSlotAddress, windowBase_of_only only]
  · exact windowBase_of_only only
  · cases result <;> rfl

end Sys2Proof.Proofs.Agent

/-! The log records and the anchor (chapters 10 and 11): the statements O52 and O53. -/

namespace Sys2Proof.Proofs.Records
open Sys2Proof Sys2Proof.Machine Sys2Proof.Proofs.CommandFrames Sys2Proof.Proofs.Invariants
open Sys2Proof.Proofs.Completions Sys2Proof.Proofs.Agent

variable {s : State} {c : Configuration}

/-! ## Fields laid out one after another (R188) -/

theorem length_toBytes (n v : Nat) : (toBytes n v).length = n := by
  induction n generalizing v with
  | zero => rfl
  | succ n ih => simp [toBytes, ih]

theorem toBytes_get {n v i : Nat} (hi : i < n) : (toBytes n v)[i]? = some (BitVec.ofNat 8 (v / 256 ^ i)) := by
  induction n generalizing v i with
  | zero => omega
  | succ n ih =>
    cases i with
    | zero => simp [toBytes]
    | succ i =>
      refine (ih (v := v / 256) (by omega)).trans ?_
      rw [Nat.div_div_eq_div_mul, ← Nat.pow_succ']

theorem field_here (n v : Nat) (rest : List Byte) : Field (toBytes n v ++ rest) 0 n v := fun i hi => by
  rw [Nat.zero_add, List.getElem?_append_left (by rwa [length_toBytes]), toBytes_get hi]

theorem field_last (n v : Nat) : Field (toBytes n v) 0 n v := fun i hi => by rw [Nat.zero_add, toBytes_get hi]

/-- A field stands where it stood before one was laid out in front of it. -/
theorem field_after {m w o n v : Nat} {rest : List Byte} (beyond : m ≤ o) :
    Field (toBytes m w ++ rest) o n v ↔ Field rest (o - m) n v := by
  refine forall_congr' fun i => imp_congr_right fun _ => ?_
  rw [List.getElem?_append_right (by rw [length_toBytes]; omega), length_toBytes, show o + i - m = o - m + i by omega]

/-! ## The bytes of a log record (R192) -/

theorem length_bytes (r : LogRecord) (index : Word) : (r.bytes index).length = 32 := by
  cases hb : r.body <;>
    simp [LogRecord.bytes, hb, LogBody.bytes, dispositionBytes, length_toBytes]

/-- The fields of a disposition record, by its kind, its destination and its last sensor. -/
theorem disposition_fields {r : LogRecord} (index : Word) {d : Disposition} {destination last : Nat}
    (body : r.body.bytes = toBytes 3 0 ++ dispositionBytes d destination last) :
    let has := Field (r.bytes index)
    has 8 1 r.body.kind ∧ has 9 3 0 ∧ has 12 4 d.sequence ∧ has 16 4 d.statement ∧ has 20 2 d.k ∧ has 22 1 d.slot
      ∧ has 23 1 destination ∧ has 24 1 last ∧ has 25 7 0 := by
  simp only [LogRecord.bytes, body, dispositionBytes, List.append_assoc]
  simp [field_after, field_here, field_last]

theorem jam_fields {r : LogRecord} (index : Word) {j : Jam} (body : r.body = .jam j) :
    let has := Field (r.bytes index)
    has 8 1 6 ∧ has 9 1 j.cause.code ∧ has 10 1 (sensorCode j.sensor)
      ∧ has 11 1 ((if j.setMark then 1 else 0) + (if j.multiple then 2 else 0)) ∧ has 12 4 (j.sequence.getD 0)
      ∧ has 16 8 0 ∧ has 24 1 (match j.secondary with | some x => x.1.code | none => 0)
      ∧ has 25 1 (match j.secondary with | some x => sensorCode x.2 | none => 0) ∧ has 26 6 0 := by
  have flags : j.flags = (if j.setMark then 1 else 0) + (if j.multiple then 2 else 0) := by
    simp only [Jam.flags, flagCode]
    split <;> split <;> rfl
  have cause : j.secondaryCause = match j.secondary with | some x => x.1.code | none => 0 := by
    unfold Jam.secondaryCause
    cases j.secondary <;> rfl
  have sensor : j.secondarySensor = match j.secondary with | some x => sensorCode x.2 | none => 0 := by
    unfold Jam.secondarySensor
    cases j.secondary <;> rfl
  rw [← flags, ← cause, ← sensor]
  simp only [LogRecord.bytes, body, LogBody.bytes, LogBody.kind, List.append_assoc]
  simp [field_after, field_here, field_last]

theorem topNotice_fields {r : LogRecord} (index : Word) {st n : Nat} {k : Stacker} (body : r.body = .topNotice st k n) :
    let has := Field (r.bytes index)
    has 8 1 7 ∧ has 9 7 0 ∧ has 16 4 st ∧ has 20 2 n ∧ has 22 1 0 ∧ has 23 1 k.code ∧ has 24 8 0 := by
  simp only [LogRecord.bytes, body, LogBody.bytes, LogBody.kind, List.append_assoc]
  simp [field_after, field_here, field_last]

theorem stackerSwitch_fields {r : LogRecord} (index : Word) {old new : Stacker} {w : SwitchReason}
    (body : r.body = .stackerSwitch old new w) :
    let has := Field (r.bytes index)
    has 8 1 8 ∧ has 9 15 0 ∧ has 24 1 old.code ∧ has 25 1 new.code ∧ has 26 1 w.code ∧ has 27 5 0 := by
  simp only [LogRecord.bytes, body, LogBody.bytes, LogBody.kind, List.append_assoc]
  simp [field_after, field_here, field_last]

theorem speedSet_fields {r : LogRecord} (index : Word) {old new : SpeedCode} (body : r.body = .speedSet old new) :
    let has := Field (r.bytes index)
    has 8 1 9 ∧ has 9 15 0 ∧ has 24 1 old.val ∧ has 25 1 new.val ∧ has 26 6 0 := by
  simp only [LogRecord.bytes, body, LogBody.bytes, LogBody.kind, List.append_assoc]
  simp [field_after, field_here, field_last]

/-! ## The write of a log record (R170) -/

/-- The part when a record has been written, before the next one is taken. -/
def recordWritten (s : State) (c : Configuration) (index : Word) (r : LogRecord) : State :=
  let s1 := (s.setMemory (Memory.writeAll s.memory (layOut (logPosition c index) (r.bytes index)))).releasePort
  let s2 := (s1.setLog { s1.log with producer := s1.log.producer + 1, inFlight := none }).raiseE .logRecord
  (s2.releaseSlot r.body).countWritten r.body

theorem exec_logRecordWritten {index : Word} {r : LogRecord} (config : s.config = some c)
    (progress : s.inProgress = some (.logWrite index r)) :
    exec .logRecordWritten s = .next ((recordWritten s.begin c index r).takeRecord.examineClearance).grant := by
  show (match s.begin.inProgress, s.begin.config with
    | some (.logWrite index r), some c => s.begin.completeLogWrite c index r
    | _, _ => s.begin).done = _
  simp only [State.begin_config, config, State.begin_inProgress progress] <;> rfl

theorem releaseSlot_junction (u : State) (b : LogBody) : (u.releaseSlot b).junction =
    u.junction.asked (match b.disposition with
      | some d => [.planWrite d.slot .released]
      | none => []) := by
  unfold State.releaseSlot
  cases b.disposition with
  | none => exact (asked_nil _).symm
  | some d => rfl

theorem countWritten_run (u : State) (b : LogBody) : (u.countWritten b).run =
    { u.run with outstanding := u.run.outstanding - (if b.isStranded then 1 else 0) } := by
  unfold State.countWritten
  split <;> rfl

/-- Settles O52: the record as it stands in memory and what its write lets go on, and the layout of every kind. -/
theorem logRecordWrites : Obligations.LogRecordWrites := by
  refine ⟨fun s c index r config wf progress => ?_, fun c d index only => ?_, fun r index => ?_, rfl, rfl, rfl⟩
  · obtain ⟨u, hu⟩ : ∃ u, u = recordWritten s.begin c index r := ⟨_, rfl⟩
    have written := exec_logRecordWritten config progress
    rw [← hu] at written
    have memory : u.memory = Memory.writeAll s.memory (layOut (logPosition c index) (r.bytes index)) := by
      rw [hu]
      simp [recordWritten]
    refine ⟨u, _, _, _, written, fun i hi => ?_, fun x outside => ?_, ?_, ?_, ?_, ?_, ?_, ?_, takesNext u,
      clearanceExamined _, granted _⟩
    · rw [memory, Memory.read_layOut wf _ _ i (by rw [length_bytes]; exact hi)]
      exact List.getElem?_eq_getElem _
    · rw [memory]
      refine Memory.read_writeAll_other wf _ x fun y mem => ?_
      have place := layOut_ge mem
      rw [length_bytes] at place
      omega
    · rw [hu]
      simp [recordWritten]
    · rw [hu]
      simp [recordWritten, State.raiseE, Attention.withE]
    · rw [hu]
      simp only [recordWritten, State.countWritten_keeps, releaseSlot_junction]
      rfl
    · rw [hu]
      simp only [recordWritten, countWritten_run, State.releaseSlot_keeps]
      rfl
    · rw [hu]
      simp [recordWritten]
    · rw [hu]
      simp [keepsBut_iff, recordWritten]
  · rw [logPosition, windowBase_of_only only]
  · refine ⟨length_bytes r index, ?_, ?_, fun d k body => ?_, fun d body => ?_, fun d body => ?_, fun d x body => ?_,
      fun d body => ?_, fun j => jam_fields index, fun st k n body => ?_, fun old new w body => ?_,
      fun old new => speedSet_fields index⟩
    · simp only [LogRecord.bytes, List.append_assoc]
      exact field_here _ _ _
    · simp only [LogRecord.bytes, List.append_assoc]
      exact (field_after (by decide)).2 (field_here _ _ _)
    · have fields := disposition_fields (r := r) index (d := d) (destination := k.code) (last := 0) (by rw [body]; rfl)
      rw [body] at fields
      cases k <;> exact fields
    · have fields := disposition_fields (r := r) index (d := d) (destination := 3) (last := 0) (by rw [body]; rfl)
      rwa [body] at fields
    · have fields := disposition_fields (r := r) index (d := d) (destination := 3) (last := 0) (by rw [body]; rfl)
      rwa [body] at fields
    · have fields := disposition_fields (r := r) index (d := d) (destination := 0) (last := sensorCode x)
        (by rw [body]; rfl)
      rwa [body] at fields
    · have fields := disposition_fields (r := r) index (d := d) (destination := 0) (last := 0) (by rw [body]; rfl)
      rwa [body] at fields
    · have fields := topNotice_fields index body
      cases k <;> exact fields
    · have fields := stackerSwitch_fields index body
      cases old <;> cases new <;> cases w <;> exact fields

/-! ## The blocks emptied by an activation and a deactivation -/

open Sys2Proof.Proofs.Basics in
theorem emptied_of_blocks {t : State} {st : RunState} {command : CommandState} {running : Option RunningCommand}
    (queue : t.plan.queue = []) (lastAccepted : t.plan.lastAccepted = 0) (tail : t.plan.tail = none)
    (buffers : t.buffers = Residency.reset) (scheduler : t.scheduler = Scheduler.reset)
    (timing : t.tracker.timing = none) (sheets : t.tracker.sheets = Vector.replicate 16 none)
    (sensors : ∀ x, (t.sensor x).expectations = []) (output : t.output = OutputUnit.reset)
    (run : t.run = { RunControl.reset with state := st, command := command, running := running })
    (log : t.log = LogWriter.reset) (attention : t.attention = Attention.reset)
    (guardOn : t.junction.guardOn = true) (latch : t.junction.latch = none) : t.Emptied := by
  have buffer (b : BufferNo) : t.buffer b = Buffer.free := by
    simp only [State.buffer, buffers, Residency.reset, getElem_replicate]
  have timers (h : Handle) : t.timers h = SheetTimers.none := by
    simp only [State.timers, scheduler, Scheduler.reset, getElem_replicate]
  have sheet (h : Handle) : t.sheet h = none := by simp only [State.sheet, sheets, getElem_replicate]
  unfold State.Emptied
  simp only [buffer, timers, sheet, queue, lastAccepted, tail, buffers, scheduler, timing, output, run, log, attention,
    guardOn, latch]
  simp only [Residency.reset, Scheduler.reset, OutputUnit.reset, RunControl.reset, LogWriter.reset, Attention.reset,
    SetRecord.empty, SheetTimers.none, Buffer.free, noHolds]
  simp [sensors]

/-! ## The quiet conditions (R185) -/

theorem liveCount_eq_zero (s : State) : s.liveCount = 0 ↔ ∀ h, s.sheet h = none := by
  unfold State.liveCount
  rw [List.length_eq_zero_iff, List.filter_eq_nil_iff]
  simp only [Vector.mem_toList_iff, Vector.mem_iff_getElem, State.sheet]
  constructor
  · intro none h
    simpa using none _ ⟨h.val, h.isLt, rfl⟩
  · rintro none x ⟨i, hi, rfl⟩
    have free := none ⟨i, hi⟩
    simp only [Fin.getElem_fin] at free
    simp [free]

theorem all_free (s : State) : (s.buffers.table.toList.all (fun b => b.state == .free)) = true ↔
    ∀ b, (s.buffer b).state = .free := by
  simp only [List.all_eq_true, Vector.mem_toList_iff, Vector.mem_iff_getElem, beq_iff_eq, State.buffer]
  constructor
  · intro free b
    exact free _ ⟨b.val, b.isLt, rfl⟩
  · rintro free x ⟨i, hi, rfl⟩
    exact free ⟨i, hi⟩

theorem quiet_iff (s : State) (own : Nat) : s.quiet own = true ↔ s.Quiet ∧ s.junction.agentQueue.length ≤ own := by
  unfold State.quiet State.Quiet
  rw [Bool.and_eq_true, Bool.and_eq_true, Bool.and_eq_true, Bool.and_eq_true, all_free]
  simp only [Bool.and_eq_true, decide_eq_true_eq, beq_iff_eq, liveCount_eq_zero, List.isEmpty_iff,
    Option.isNone_iff_eq_none, List.all_eq_true, and_assoc]

/-! ## Anchor events (R185, R187) -/

theorem exec_anchorEvent (s : State) (v : ActivateValue) :
    exec (.anchorEvent v) s = .next (s.begin.takeAnchor v).grant := rfl

theorem takeAnchor_activates (unflagged : s.junction.anchorFlag = false) (inactive : s.run.state = .inactive) :
    s.takeAnchor .activate = s.askAnchor (.anchorRun false) := by
  simp [State.takeAnchor, unflagged, inactive]

theorem takeAnchor_reconfigures (unflagged : s.junction.anchorFlag = false) (idle : s.run.state = .idle)
    (quiet : s.quiet 0 = true) : s.takeAnchor .activate = s.askAnchor (.anchorRun true) := by
  simp [State.takeAnchor, unflagged, idle, quiet]

theorem takeAnchor_deactivates (unflagged : s.junction.anchorFlag = false) (idle : s.run.state = .idle)
    (quiet : s.quiet 0 = true) :
    s.takeAnchor .deactivate = s.deactivate.askAnchor (.anchorResult (anchorWord anchorDone 0)) := by
  simp [State.takeAnchor, unflagged, idle, quiet]

theorem takeAnchor_busy {v : ActivateValue} (unflagged : s.junction.anchorFlag = false)
    (activation : v = .activate → s.run.state ≠ .inactive) (busy : ¬ (s.run.state = .idle ∧ s.quiet 0 = true)) :
    s.takeAnchor v = s.answerBusy := by
  unfold State.takeAnchor
  rw [if_neg (by simp [unflagged])]
  cases v <;> cases state : s.run.state <;> simp_all

/-- The agent has been asked for an operation of the anchor. -/
def AnchorAsked (op : RecordOp) (s t : State) : Prop :=
  t.junction = { s.junction.asked [op] with anchorFlag := true }.grant ∧ t.pulses = []
    ∧ KeepsBut [.junction, .pulses] s t

theorem askedAnchor (s : State) (op : RecordOp) : AnchorAsked op s (s.begin.askAnchor op).grant :=
  ⟨rfl, rfl, keepsBut_of_effect (L := []) (u := s.begin.askAnchor op) (by simp [keepsBut_iff]) rfl⟩

theorem grant_latch (j : Junction) : j.grant.latch = j.latch := by
  unfold Junction.grant
  split
  · rfl
  · split <;> rfl

theorem sensor_restTracker (s : State) (x : Sensor) :
    s.restTracker.sensor x = { s.sensor x with expectations := [] } := tabulate_get _ _

theorem emptied_deactivate (s : State) (op : RecordOp) : (s.deactivate.askAnchor op).grant.Emptied := by
  have junction : (s.deactivate.askAnchor op).grant.junction = _ := rfl
  refine emptied_of_blocks rfl rfl rfl rfl rfl rfl rfl (fun x => ?_) rfl rfl rfl rfl ?_ ?_
  · exact congrArg SensorRecord.expectations (sensor_restTracker s x)
  · exact grant_guardOn _
  · exact grant_latch _

theorem grant_of_held {j : Junction} {r : Requester} (held : j.holder = some r) : j.grant = j := by
  unfold Junction.grant
  rw [held]

theorem holder_of_inProgress {op : RecordOp} (progress : s.inProgress = some op) : s.junction.holder = some .agent := by
  unfold State.inProgress at progress
  split at progress
  · assumption
  · cases progress

/-- The anchor read leaves IN PROGRESS in RESULT and goes on by the format word. -/
theorem exec_anchorRead {reconfigure : Bool} (progress : s.inProgress = some (.anchorRun reconfigure)) :
    exec .anchorReadComplete s = .next ((s.begin.writeResult 1).continueOp
      (if Memory.word s.memory 0xFFFFF00 = 0xFFFFFFFF then .anchorResult 3
        else .configRead reconfigure (Memory.word s.memory 0xFFFFF00) (Memory.word s.memory 0xFFFFF0C))).grant := by
  have read : exec .anchorReadComplete s = .next (s.begin.readAnchor reconfigure).grant := by
    show (match s.begin.inProgress with
      | some (.anchorRun reconfigure) => s.begin.readAnchor reconfigure
      | _ => s.begin).done = _
    simp only [State.begin_inProgress progress] <;> rfl
  have goesOn : s.begin.readAnchor reconfigure = (s.begin.writeResult 1).continueOp
      (if Memory.word s.memory 0xFFFFF00 = 0xFFFFFFFF then .anchorResult 3
        else .configRead reconfigure (Memory.word s.memory 0xFFFFF00) (Memory.word s.memory 0xFFFFF0C)) :=
    (apply_ite (s.begin.writeResult 1).continueOp _ _ _).symm
  rw [read, goesOn]

theorem exec_anchorResult {w : Word} (progress : s.inProgress = some (.anchorResult w)) :
    exec .anchorResultWritten s = .next (s.begin.finishAnchor w).grant := by
  show (match s.begin.inProgress with
    | some (.anchorResult w) => s.begin.finishAnchor w
    | _ => s.begin).done = _
  simp only [State.begin_inProgress progress] <;> rfl

/-- Settles O53: the event by the run state and the quiet conditions, the read, and the final write. -/
theorem anchorEvents : Obligations.AnchorEvents := by
  intro s
  have quiet : s.begin.quiet 0 = true ↔ s.Quiet ∧ s.junction.agentQueue = [] := by
    refine (quiet_iff s.begin 0).trans (and_congr_right fun _ => ?_)
    simp
  refine ⟨fun v flag => ?_, fun unflagged => ⟨fun inactive => ⟨?_, ?_⟩, fun ⟨idle, rest⟩ => ?_, fun ⟨idle, rest⟩ => ?_,
    fun v on busy => ?_⟩, fun reconfigure wf progress => ?_, fun w wf progress => ?_⟩
  · have taken : s.begin.takeAnchor v = s.begin := if_pos flag
    rw [exec_anchorEvent, taken]
    exact ⟨_, rfl, rfl, rfl, (actsOn_begin [] s).1⟩
  · refine ⟨_, exec_anchorEvent s .activate, ?_⟩
    rw [takeAnchor_activates (s := s.begin) unflagged inactive]
    exact askedAnchor s _
  · refine ⟨_, exec_anchorEvent s .deactivate, ?_⟩
    rw [takeAnchor_busy (s := s.begin) (v := .deactivate) unflagged (nomatch ·) (fun both => by simp [inactive] at both)]
    exact askedAnchor s _
  · refine ⟨_, exec_anchorEvent s .activate, ?_⟩
    rw [takeAnchor_reconfigures (s := s.begin) unflagged idle (quiet.2 rest)]
    exact askedAnchor s _
  · refine ⟨_, exec_anchorEvent s .deactivate, ?_⟩
    rw [takeAnchor_deactivates (s := s.begin) unflagged idle (quiet.2 rest)]
    exact ⟨emptied_deactivate _ _, rfl, rfl, rfl, rfl, rfl, rfl, fun x => sensor_restTracker s x, rfl, rfl,
      (keepsBut_of_effect (L := .config :: pathBlocks) (u := s.begin.deactivate.askAnchor _)
        (by simp [keepsBut_iff, pathBlocks]) rfl).mono (by decide)⟩
  · refine ⟨_, exec_anchorEvent s v, ?_⟩
    rw [takeAnchor_busy (s := s.begin) unflagged (fun _ => on) (fun both => busy ⟨both.1, quiet.1 both.2⟩)]
    exact askedAnchor s _
  · refine ⟨_, exec_anchorRead progress, Memory.word_writeWord wf _ _, Memory.writeWord_only wf _ _, ?_, rfl,
      (keepsBut_of_effect (L := [.memory]) (u := (s.begin.writeResult 1).continueOp _) (by simp [keepsBut_iff])
        rfl).mono (by decide)⟩
    have held := holder_of_inProgress progress
    exact grant_of_held held
  · refine ⟨_, exec_anchorResult progress, Memory.word_writeWord wf _ _, Memory.writeWord_only wf _ _, ?_, rfl,
      (keepsBut_of_effect (L := [.memory]) (u := s.begin.finishAnchor w) (by simp [keepsBut_iff])
        rfl).mono (by decide)⟩
    rw [Junction.answered_nil]
    rfl

end Sys2Proof.Proofs.Records

/-! The configuration record and its checks (chapters 11 and 12): the statement O54. -/

namespace Sys2Proof.Proofs.Configurations
open Sys2Proof Sys2Proof.Machine Sys2Proof.Proofs.CommandFrames Sys2Proof.Proofs.Invariants
open Sys2Proof.Proofs.Admission Sys2Proof.Proofs.Agent Sys2Proof.Proofs.Records Sys2Proof.Proofs.Travel

variable {s : State} {c : Configuration} {d e : Descriptor}

/-! ## The record's fields (R193) -/

theorem kind_ofCode {n : Nat} (k : Fin 7) (code : n = k.val) :
    [WindowKind.plain, .plan, .tag, .buffer, .log, .command, .view][k.val]? = WindowKind.ofCode n := by
  subst code
  fin_cases k <;> rfl

theorem kind_unknown {n : Nat} (out : 6 < n) : WindowKind.ofCode n = none := by
  obtain ⟨k, rfl⟩ := Nat.exists_eq_add_of_lt out
  rw [show 6 + k + 1 = k + 7 by omega]
  rfl

theorem mode_unknown {n : Nat} (out : 1 < n) : ArbiterMode.ofCode n = none := by
  obtain ⟨k, rfl⟩ := Nat.exists_eq_add_of_lt out
  rw [show 1 + k + 1 = k + 2 by omega]
  rfl

theorem readConfiguration_fields (m : List Host.Cell) (a : Nat) :
    let c := readConfiguration m a
    let byte := fun n => (Memory.read m (a + n)).toNat
    let half := fun n => byte n + 256 * byte (n + 1)
    let word := fun n => half n + 65536 * half (n + 2)
    (∀ i : Fin 8,
      let d := c.descriptors[i]
      d.base = word (8 * i.val) ∧ (d.enabled = true ↔ byte (8 * i.val + 4) % 2 = 1)
        ∧ (∀ k : Fin 7, byte (8 * i.val + 5) = k.val →
            [WindowKind.plain, .plan, .tag, .buffer, .log, .command, .view][k.val]? = d.kind)
        ∧ (6 < byte (8 * i.val + 5) → d.kind = none) ∧ d.sizeLog2 = byte (8 * i.val + 6)
        ∧ d.eReads = (byte (8 * i.val + 7)).testBit 0 ∧ d.pReads = (byte (8 * i.val + 7)).testBit 1
        ∧ d.eWrites = (byte (8 * i.val + 7)).testBit 2 ∧ d.pWrites = (byte (8 * i.val + 7)).testBit 3)
      ∧ (byte 64 = 0 → c.arbiter = some .rotating) ∧ (byte 64 = 1 → c.arbiter = some .fixed)
      ∧ (1 < byte 64 → c.arbiter = none)
      ∧ c.bufferCount = byte 65 ∧ c.bufferSizeLog2 = byte 66 ∧ c.accumulatorCapacity = byte 67
      ∧ c.planSlots = half 68 ∧ c.logEntries = half 70
      ∧ (∀ l : Leg, c.legs[l].length = half (72 + 4 * l.val) ∧ c.legs[l].factor = half (74 + 4 * l.val))
      ∧ (∀ t : Tray, c.pickDelay[t] = half (144 + 2 * t.val))
      ∧ c.earlyRatio = byte 152 ∧ c.lateRatio = byte 153 ∧ c.coverRatio = byte 154 ∧ c.encoderPerMm = byte 155
      ∧ c.earlyFixed = half 156 ∧ c.lateFixed = half 158 ∧ c.coverFixed = half 160
      ∧ (∀ x : MediaClass, c.mediaLength[x] = half (162 + 2 * x.val))
      ∧ c.pitchLength = half 170 ∧ c.minimumGap = half 172
      ∧ (∀ code : SpeedCode, c.speed[code] = half (174 + 2 * code.val))
      ∧ c.lockTolerance = byte 190 ∧ c.runTolerance = byte 191 ∧ c.lockTimeout = word 192
      ∧ c.minimumDwell = half 196 ∧ c.stopGrace = half 198 := by
  intro c byte half word
  have descriptor (i : Fin 8) : c.descriptors[i] = readDescriptor m (a + 8 * i.val) := tabulate_get _ i
  refine ⟨fun i => ?_, fun zero => ?_, fun one => ?_, fun out => mode_unknown out, rfl, rfl, rfl, rfl, rfl, fun l => ?_,
    fun t => ?_, rfl, rfl, rfl, rfl, rfl, rfl, rfl, fun x => ?_, rfl, rfl, fun code => ?_, rfl, rfl, wordNat_read m a 192,
    rfl, rfl⟩
  · intro d
    have hd : d = readDescriptor m (a + 8 * i.val) := descriptor i
    rw [hd]
    refine ⟨wordNat_read m a _, ?_, fun k code => kind_ofCode k code, fun out => kind_unknown out, rfl, rfl, rfl, rfl,
      rfl⟩
    exact beq_iff_eq
  · exact congrArg ArbiterMode.ofCode zero
  · exact congrArg ArbiterMode.ofCode one
  · have leg : c.legs[l] = ⟨Memory.half m (a + 72 + 4 * l.val), Memory.half m (a + 74 + 4 * l.val)⟩ := tabulate_get _ l
    rw [leg, Nat.add_assoc, Nat.add_assoc]
    exact ⟨rfl, rfl⟩
  · refine (tabulate_get _ t).trans ?_
    rw [Nat.add_assoc]
    rfl
  · refine (tabulate_get _ x).trans ?_
    rw [Nat.add_assoc]
    rfl
  · refine (tabulate_get _ code).trans ?_
    rw [Nat.add_assoc]
    rfl

/-! ## The checks (R186) -/

/-- The addresses of a window. -/
def Inside (d : Descriptor) (a : Nat) : Prop := d.base ≤ a ∧ a < d.base + 2 ^ d.sizeLog2

theorem bytes_pos (d : Descriptor) : 0 < d.bytes := Nat.two_pow_pos _

theorem exists_inside_above (d : Descriptor) (n : Nat) : (∃ a, Inside d a ∧ n ≤ a) ↔ n < d.base + d.bytes := by
  have pos := bytes_pos d
  constructor
  · rintro ⟨a, ⟨-, below⟩, above⟩
    exact lt_of_le_of_lt above below
  · intro below
    exact ⟨d.base + d.bytes - 1, ⟨by omega, show _ < d.base + d.bytes by omega⟩, by omega⟩

theorem meets_iff : d.meets e = true ↔ ∃ a, Inside d a ∧ Inside e a := by
  have posd := bytes_pos d
  have pose := bytes_pos e
  simp only [Descriptor.meets, Bool.and_eq_true, decide_eq_true_eq]
  constructor
  · rintro ⟨left, right⟩
    refine ⟨max d.base e.base, ⟨le_max_left _ _, ?_⟩, ⟨le_max_right _ _, ?_⟩⟩
    · show _ < d.base + d.bytes
      omega
    · show _ < e.base + e.bytes
      omega
  · rintro ⟨a, ⟨dLow, dHigh⟩, ⟨eLow, eHigh⟩⟩
    exact ⟨lt_of_le_of_lt dLow eHigh, lt_of_le_of_lt eLow dHigh⟩

theorem unsound_iff : (d.enabled && !d.sound) = true ↔ d.enabled = true ∧ (d.kind = none ∨ d.sizeLog2 < 12
    ∨ 28 < d.sizeLog2 ∨ d.base % 2 ^ d.sizeLog2 ≠ 0 ∨ ∃ a, Inside d a ∧ 0xFFFFFFF < a) := by
  have past : (∃ a, Inside d a ∧ 0xFFFFFFF < a) ↔ ¬ d.base + d.bytes ≤ 0x10000000 := by
    refine (exists_inside_above d 0x10000000).trans ?_
    omega
  rw [past]
  simp only [Bool.and_eq_true, Bool.not_eq_true', Descriptor.sound, within, Bool.and_eq_false_iff,
    decide_eq_false_iff_not, beq_eq_false_iff_ne, Option.isSome_eq_false_iff, Option.isNone_iff_eq_none, Nat.not_le,
    or_assoc]
  rfl

theorem special_iff : d.special = true ↔ d.enabled = true ∧ d.kind ≠ some .plain := by
  simp [Descriptor.special]

theorem overlaps_iff : d.overlaps e = true ↔ d.enabled = true ∧ e.enabled = true
    ∧ ((d.enabled = true ∧ d.kind ≠ some .plain) ∨ (e.enabled = true ∧ e.kind ≠ some .plain))
    ∧ ∃ a, Inside d a ∧ Inside e a := by
  simp only [Descriptor.overlaps, Bool.and_eq_true, Bool.or_eq_true, special_iff, meets_iff, and_assoc]

theorem overlapping_iff (c : Configuration) (i : Fin 8) :
    (indices 8).any (fun j => decide (i < j) && c.descriptors[i].overlaps c.descriptors[j]) = true ↔
      ∃ j, i < j ∧ c.descriptors[i].overlaps c.descriptors[j] = true := by
  simp [indices_eq]

theorem anchored_iff (c : Configuration) : c.anchorOverlapped = true ↔ ∃ (i : Fin 8) (a : Nat),
    (c.descriptors[i].enabled = true ∧ c.descriptors[i].kind ≠ some .plain) ∧ Inside c.descriptors[i] a
      ∧ 0xFFFFF00 ≤ a := by
  simp only [Configuration.anchorOverlapped, List.any_eq_true, Vector.mem_toList_iff, Vector.mem_iff_getElem,
    Bool.and_eq_true, decide_eq_true_eq, special_iff]
  constructor
  · rintro ⟨_, ⟨i, hi, rfl⟩, special, above⟩
    obtain ⟨a, inside, beyond⟩ := (exists_inside_above c.descriptors[i] _).2 above
    exact ⟨⟨i, hi⟩, a, special, inside, beyond⟩
  · rintro ⟨i, a, special, inside, beyond⟩
    exact ⟨_, ⟨i.val, i.isLt, rfl⟩, special, (exists_inside_above c.descriptors[i] _).1 ⟨a, inside, beyond⟩⟩

theorem counted_iff (c : Configuration) : c.kindsCounted = true ↔ c.countKind .plan = 1 ∧ c.countKind .tag = 1
    ∧ c.countKind .buffer = 1 ∧ c.countKind .log = 1 ∧ c.countKind .command = 1 ∧ c.countKind .view = 1
    ∧ c.countKind .plain ≤ 2 := by
  simp [Configuration.kindsCounted, and_assoc]

theorem all_vector {α : Type} {n : Nat} (v : Vector α n) (q : α → Bool) :
    v.toList.all q = true ↔ ∀ i : Fin n, q v[i] = true := by
  simp only [List.all_eq_true, Vector.mem_toList_iff, Vector.mem_iff_getElem]
  constructor
  · intro all i
    exact all _ ⟨i.val, i.isLt, rfl⟩
  · rintro all x ⟨i, hi, rfl⟩
    exact all ⟨i, hi⟩

/-- With one enabled window of a kind, a figure that every such window holds is one that its size holds. -/
theorem holds_iff {k : WindowKind} {n : Nat} (one : c.countKind k = 1) : n ≤ c.windowBytes k ↔
    ∀ i : Fin 8, c.descriptors[i].enabled = true → c.descriptors[i].kind = some k → n ≤ 2 ^ c.descriptors[i].sizeLog2 := by
  obtain ⟨x, only⟩ := List.length_eq_one_iff.1 one
  have bytes : c.windowBytes k = x.bytes := by
    unfold Configuration.windowBytes
    rw [← List.head?_filter, only]
    rfl
  have listed (y : Descriptor) : y ∈ c.descriptors.toList ∧ y.enabled = true ∧ y.kind = some k ↔ y = x := by
    have mem := congrArg (y ∈ ·) only
    simpa using mem
  rw [bytes]
  constructor
  · intro fits i enabled kind
    rw [(listed _).1 ⟨by simp, enabled, kind⟩]
    exact fits
  · intro all
    obtain ⟨mem, enabled, kind⟩ := (listed x).2 rfl
    obtain ⟨i, hi, rfl⟩ := Vector.mem_iff_getElem.1 (Vector.mem_toList_iff.1 mem)
    exact all ⟨i, hi⟩ enabled kind

theorem logEntriesAllowed_iff {n : Nat} : logEntriesAllowed n = true ↔ ∃ k, 6 ≤ k ∧ k ≤ 12 ∧ n = 2 ^ k := by
  simp only [logEntriesAllowed, List.contains_iff_mem, List.mem_cons, List.not_mem_nil, or_false]
  constructor
  · rintro (rfl | rfl | rfl | rfl | rfl | rfl | rfl)
    · exact ⟨6, by decide⟩
    · exact ⟨7, by decide⟩
    · exact ⟨8, by decide⟩
    · exact ⟨9, by decide⟩
    · exact ⟨10, by decide⟩
    · exact ⟨11, by decide⟩
    · exact ⟨12, by decide⟩
  · rintro ⟨k, low, high, rfl⟩
    interval_cases k <;> simp

theorem geometry_iff (c : Configuration) : c.geometryInRange = true ↔
    (∀ l : Leg, 100 ≤ c.legs[l].length ∧ c.legs[l].length ≤ 40000 ∧ 128 ≤ c.legs[l].factor ∧ c.legs[l].factor ≤ 512)
      ∧ (∀ t : Tray, 500 ≤ c.pickDelay[t] ∧ c.pickDelay[t] ≤ 20000)
      ∧ c.earlyRatio ≤ 64 ∧ c.lateRatio ≤ 64 ∧ c.coverRatio ≤ 64
      ∧ c.earlyFixed ≤ 10000 ∧ c.lateFixed ≤ 10000 ∧ c.coverFixed ≤ 10000
      ∧ (∀ m : MediaClass, 1000 ≤ c.mediaLength[m] ∧ c.mediaLength[m] ≤ 4320)
      ∧ 1100 ≤ c.pitchLength ∧ c.pitchLength ≤ 40000 ∧ 100 ≤ c.minimumGap ∧ c.minimumGap ≤ 1000
      ∧ (∀ code : SpeedCode, 200 ≤ c.speed[code] ∧ c.speed[code] ≤ 2000)
      ∧ 1 ≤ c.encoderPerMm ∧ c.encoderPerMm ≤ 64 ∧ c.minimumDwell ≤ 20000 := by
  simp only [Configuration.geometryInRange, Bool.and_eq_true, all_vector, within_iff, Nat.zero_le, true_and, and_assoc]

theorem figures_iff (c : Configuration) : c.figuresInRange = true ↔
    1 ≤ c.lockTolerance ∧ c.lockTolerance ≤ 64 ∧ 1 ≤ c.runTolerance ∧ c.runTolerance ≤ 128
      ∧ c.lockTolerance ≤ c.runTolerance ∧ 10000 ≤ c.lockTimeout ∧ c.lockTimeout ≤ 1000000
      ∧ 1000 ≤ c.stopGrace ∧ c.stopGrace ≤ 50000 ∧ (∃ n, 6 ≤ n ∧ n ≤ 12 ∧ c.logEntries = 2 ^ n)
      ∧ 1 ≤ c.bufferCount ∧ c.bufferCount ≤ 64 ∧ 16 ≤ c.bufferSizeLog2 ∧ c.bufferSizeLog2 ≤ 22
      ∧ 8 ≤ c.planSlots ∧ c.planSlots ≤ 256 ∧ 2 ≤ c.accumulatorCapacity ∧ c.accumulatorCapacity ≤ 24
      ∧ c.arbiter ≠ none := by
  simp only [Configuration.figuresInRange, Bool.and_eq_true, within_iff, logEntriesAllowed_iff, decide_eq_true_eq,
    Option.isSome_iff_ne_none, and_assoc]

theorem timingPasses_iff (c : Configuration) (code : SpeedCode) : timingPasses c code = true ↔
    (∀ m : MediaClass, c.mediaLength[m] + c.minimumGap ≤ c.pitchLength)
      ∧ 1 ≤ (timingSet c code).loopPitches ∧ (timingSet c code).loopPitches ≤ 24
      ∧ 2 ≤ (timingSet c code).setGap ∧ (timingSet c code).setGap ≤ 8
      ∧ 8 ≤ c.speed[code] * c.encoderPerMm / 100 := by
  have media : c.mediaLength[longestMedia c] + c.minimumGap ≤ c.pitchLength ↔
      ∀ m : MediaClass, c.mediaLength[m] + c.minimumGap ≤ c.pitchLength :=
    ⟨fun fits m => le_trans (Nat.add_le_add_right (mediaLength_le_longest c m) _) fits, fun all => all _⟩
  simp only [timingPasses, Bool.and_eq_true, decide_eq_true_eq, media, and_assoc]
  rfl


theorem inRange_iff (counted : c.kindsCounted = true) : c.inRange = true ↔
    (c.geometryInRange = true ∧ c.figuresInRange = true)
      ∧ (∀ i : Fin 8, c.descriptors[i].enabled = true → c.descriptors[i].kind = some .plan →
          32 * c.planSlots ≤ 2 ^ c.descriptors[i].sizeLog2)
      ∧ (∀ i : Fin 8, c.descriptors[i].enabled = true → c.descriptors[i].kind = some .tag →
          16 * c.bufferCount ≤ 2 ^ c.descriptors[i].sizeLog2)
      ∧ (∀ i : Fin 8, c.descriptors[i].enabled = true → c.descriptors[i].kind = some .buffer →
          c.bufferCount * 2 ^ c.bufferSizeLog2 ≤ 2 ^ c.descriptors[i].sizeLog2)
      ∧ (∀ i : Fin 8, c.descriptors[i].enabled = true → c.descriptors[i].kind = some .log →
          64 + 32 * c.logEntries ≤ 2 ^ c.descriptors[i].sizeLog2) := by
  obtain ⟨plan, tag, buffer, log, -⟩ := (counted_iff c).1 counted
  simp only [Configuration.inRange, Configuration.windowsHold, Bool.and_eq_true, decide_eq_true_eq, holds_iff plan,
    holds_iff tag, holds_iff buffer, holds_iff log, and_assoc]

/-! ## The first check that fails (R186) -/

theorem refusal_unsound {i : Fin 8} (free : Nat)
    (unsound : (c.descriptors[i].enabled && !c.descriptors[i].sound) = true)
    (first : ∀ j < i, (c.descriptors[j].enabled && !c.descriptors[j].sound) = false) :
    c.refusal free = some (anchorWord 6 i.val) := by
  simp only [Configuration.refusal, firstIndex_eq_some.2 ⟨unsound, first⟩]

/-- Past WINDOW's check of the descriptors the refusal is that of the checks after it. -/
theorem refusal_sound (free : Nat) (sound : ∀ i : Fin 8, (c.descriptors[i].enabled && !c.descriptors[i].sound) = false) :
    c.refusal free =
      if !c.kindsCounted then some (anchorWord 6 8)
      else match c.overlapIndex with
        | some i => some (anchorWord 7 i.val)
        | none =>
          if c.anchorOverlapped then some (anchorWord 7 (Config.anchorOverlapDetail free).toNat)
          else if !c.inRange then some (anchorWord 8 0)
          else match timingFailure c with
            | some code => some (anchorWord 9 code.val)
            | none => none := by
  simp only [Configuration.refusal, firstIndex_eq_none.2 sound] <;> rfl

/-! ## The configuration read (R186) -/

theorem exec_configRead {again : Bool} {format address : Word}
    (progress : s.inProgress = some (.configRead again format address)) :
    exec .configReadComplete s = .next (s.begin.readConfig again format address).grant := by
  show (match s.begin.inProgress with
    | some (.configRead again format address) => s.begin.readConfig again format address
    | _ => s.begin).done = _
  simp only [State.begin_inProgress progress] <;> rfl

theorem formatPasses_iff (format address : Word) : formatPasses format address = true ↔
    format = 1 ∧ address.toNat % 32 = 0 ∧ address.toNat + 512 ≤ 0xFFFFF00 := by
  simp only [formatPasses, Bool.and_eq_true, beq_iff_eq, decide_eq_true_eq, and_assoc]
  rfl

/-- A read answered with a RESULT word and nothing else done. -/
theorem refused_read {again : Bool} {format address : Word} {w : Word}
    (progress : s.inProgress = some (.configRead again format address))
    (refused : s.begin.readConfig again format address = s.begin.continueOp (.anchorResult w)) :
    ∃ t, exec .configReadComplete s = .next t
      ∧ (t.junction.agentQueue = .anchorResult w :: s.junction.agentQueue.tail ∧ t.pulses = [])
      ∧ t.junction.rest = s.junction.rest ∧ KeepsBut [.junction, .pulses] s t := by
  have held := holder_of_inProgress progress
  have junction : (s.begin.continueOp (.anchorResult w)).junction.grant = _ := grant_of_held held
  refine ⟨_, exec_configRead progress, ?_⟩
  rw [refused]
  refine ⟨⟨(congrArg Junction.agentQueue junction).trans rfl, rfl⟩, (congrArg Junction.rest junction).trans rfl, ?_⟩
  exact keepsBut_of_effect (L := []) (u := s.begin.continueOp (.anchorResult w)) (by simp [keepsBut_iff]) rfl

theorem readConfig_failed {again : Bool} {format address w : Word} (formed : formatPasses format address = true)
    (failed : (readConfiguration s.memory address.toNat).refusal s.freeCount = some w) :
    s.readConfig again format address = s.continueOp (.anchorResult w) := by
  simp only [State.readConfig, if_pos formed, failed]

theorem readConfig_passed {again : Bool} {format address : Word} (formed : formatPasses format address = true)
    (passed : (readConfiguration s.memory address.toNat).refusal s.freeCount = none) :
    s.readConfig again format address
      = (s.acceptConfiguration again (readConfiguration s.memory address.toNat)).2.continueOp
          (.anchorResult (s.acceptConfiguration again (readConfiguration s.memory address.toNat)).1) := by
  simp only [State.readConfig, if_pos formed, passed]

theorem emptied_activate (s : State) (c : Configuration) (op : RecordOp) :
    ((s.activate c).continueOp op).grant.Emptied := by
  refine emptied_of_blocks rfl rfl rfl rfl rfl rfl rfl (fun x => ?_) rfl rfl rfl rfl ?_ ?_
  · exact congrArg SensorRecord.expectations (sensor_restTracker s x)
  · exact grant_guardOn _
  · exact grant_latch _

/-- An activation from INACTIVE: the record in force, every block emptied, and the run state IDLE. -/
theorem activated_read (held : s.junction.holder = some .agent) (c : Configuration) :
    let t := ((s.begin.activate c).continueOp (.anchorResult 2)).grant
    (t.junction.agentQueue = .anchorResult 2 :: s.junction.agentQueue.tail ∧ t.pulses = []) ∧ t.Emptied
      ∧ t.config = some c ∧ t.run.state = .idle ∧ t.run.command = s.run.command ∧ t.run.running = s.run.running
      ∧ t.plan.slots = List.replicate c.planSlots .free ∧ (∀ x, t.sensor x = { s.sensor x with expectations := [] })
      ∧ t.junction.rest = { s.junction.rest with guardOn := true, latch := none, arbiter := c.arbiter.getD .rotating }
      ∧ KeepsBut [.config, .junction, .pulses, .plan, .buffers, .scheduler, .tracker, .output, .run, .log, .attention]
          s t := by
  intro t
  have junction : t.junction = ((s.begin.activate c).continueOp (.anchorResult 2)).junction := grant_of_held held
  refine ⟨⟨(congrArg Junction.agentQueue junction).trans rfl, rfl⟩, emptied_activate _ _ _, rfl, rfl, rfl, rfl, rfl,
    fun x => sensor_restTracker s x, (congrArg Junction.rest junction).trans rfl, ?_⟩
  exact (keepsBut_of_effect (L := [.config, .plan, .buffers, .scheduler, .tracker, .output, .run, .log, .attention])
    (u := (s.begin.activate c).continueOp (.anchorResult 2))
    (by simp [keepsBut_iff, State.activate, State.restTracker]) rfl).mono (by decide)

/-- A reconfiguration: the record in force in place of the old one. -/
theorem replaced_read (held : s.junction.holder = some .agent) (c : Configuration) :
    let t := ((s.begin.reconfigure c).continueOp (.anchorResult 2)).grant
    (t.junction.agentQueue = .anchorResult 2 :: s.junction.agentQueue.tail ∧ t.pulses = []) ∧ t.config = some c
      ∧ t.plan = ⟨List.replicate c.planSlots .free, [], 0, none⟩
      ∧ t.run = { s.run with changeStatus := .none, drainTarget := none } ∧ t.tracker.timing = none
      ∧ (∀ h, t.sheet h = none) ∧ (∀ x, t.sensor x = { s.sensor x with expectations := [] })
      ∧ (∀ b, t.buffer b = s.buffer b) ∧ t.buffers.claimWaiting = false ∧ t.log = LogWriter.reset
      ∧ t.junction.rest = { s.junction.rest with arbiter := c.arbiter.getD .rotating }
      ∧ KeepsBut [.config, .junction, .pulses, .plan, .buffers, .tracker, .run, .log] s t := by
  intro t
  have junction : t.junction = ((s.begin.reconfigure c).continueOp (.anchorResult 2)).junction := grant_of_held held
  refine ⟨⟨(congrArg Junction.agentQueue junction).trans rfl, rfl⟩, rfl, rfl, rfl, rfl, fun h => ?_,
    fun x => sensor_restTracker s x, fun b => rfl, rfl, rfl, (congrArg Junction.rest junction).trans rfl, ?_⟩
  · exact Basics.getElem_replicate _ h
  · exact (keepsBut_of_effect (L := [.config, .plan, .buffers, .tracker, .run, .log])
      (u := (s.begin.reconfigure c).continueOp (.anchorResult 2))
      (by simp [keepsBut_iff, State.reconfigure, State.restTracker]) rfl).mono (by decide)

theorem acceptConfiguration_busy (c : Configuration)
    (busy : ¬ (s.run.state = .idle ∧ s.Quiet ∧ s.junction.agentQueue.length ≤ 1)) :
    s.acceptConfiguration true c = (BitVec.ofNat 32 (4 + 256 * s.run.state.code), s) :=
  (if_pos rfl).trans (if_neg fun ⟨idle, quiet⟩ => busy ⟨idle, (quiet_iff s 1).1 quiet⟩)

theorem acceptConfiguration_quiet (c : Configuration) (idle : s.run.state = .idle) (quiet : s.Quiet)
    (alone : s.junction.agentQueue.length ≤ 1) : s.acceptConfiguration true c = (2, s.reconfigure c) :=
  (if_pos rfl).trans (if_pos ⟨idle, (quiet_iff s 1).2 ⟨quiet, alone⟩⟩)

/-- Settles O54: the read by its format, its first failing check and the quiet conditions; the checks; the fields. -/
theorem configurationJudged : Obligations.ConfigurationJudged := by
  refine ⟨fun s again format address progress => ?_, fun c free => ?_, readConfiguration_fields⟩
  · intro formed c answers refuses
    have held := holder_of_inProgress progress
    have read := exec_configRead progress
    refine ⟨fun malformed => ?_, fun w wellFormed failed => ?_, fun wellFormed passed first => ?_,
      fun wellFormed passed second => ⟨fun busy => ?_, fun ⟨idle, quiet, alone⟩ => ?_⟩⟩
    · exact refused_read progress (if_neg (mt (formatPasses_iff format address).1 malformed))
    · exact refused_read progress (readConfig_failed ((formatPasses_iff format address).2 wellFormed) failed)
    · have accepted := readConfig_passed (s := s.begin) (again := again)
        ((formatPasses_iff format address).2 wellFormed) passed
      subst first
      rw [read, accepted]
      exact ⟨_, rfl, activated_read held c⟩
    · refine refused_read progress ?_
      rw [readConfig_passed (s := s.begin) ((formatPasses_iff format address).2 wellFormed) passed, second,
        acceptConfiguration_busy (s := s.begin) _ busy]
      rfl
    · have accepted := readConfig_passed (s := s.begin) (again := again)
        ((formatPasses_iff format address).2 wellFormed) passed
      rw [second, acceptConfiguration_quiet (s := s.begin) _ idle quiet alone] at accepted
      rw [second] at read
      rw [read, accepted]
      exact ⟨_, rfl, replaced_read held c⟩
  · intro at' inside wrong count counted special meets anchored holds ranged timed
    have wrong_iff (i : Fin 8) : wrong i ↔ (c.descriptors[i].enabled && !c.descriptors[i].sound) = true :=
      unsound_iff.symm
    have counted_iff' : counted ↔ c.kindsCounted = true := (counted_iff c).symm
    have meets_iff' (i : Fin 8) : meets i ↔
        (indices 8).any (fun j => decide (i < j) && c.descriptors[i].overlaps c.descriptors[j]) = true := by
      rw [overlapping_iff]
      exact exists_congr fun j => and_congr_right fun _ => overlaps_iff.symm
    have anchored_iff' : anchored ↔ c.anchorOverlapped = true := (anchored_iff c).symm
    have timed_iff (code : SpeedCode) : timed code ↔ timingPasses c code = true := (timingPasses_iff c code).symm
    have ranged_iff (all : c.kindsCounted = true) : ranged ↔ c.inRange = true := by
      rw [inRange_iff all, geometry_iff, figures_iff]
      exact and_assoc.symm
    simp only [wrong_iff, counted_iff', meets_iff', anchored_iff', timed_iff, Bool.not_eq_true]
    refine ⟨fun i unsound first => refusal_unsound free unsound first, fun sound uncounted => ?_,
      fun sound counts => ⟨fun i overlaps first => ?_, fun apart => ⟨fun covers => ?_, fun clear unranged => ?_,
        fun clear inRange => ⟨fun code fails first => ?_, fun passes => ?_⟩⟩⟩⟩
    all_goals rw [refusal_sound free sound]
    · rw [uncounted]
      rfl
    · have index : c.overlapIndex = some i := firstIndex_eq_some.2 ⟨overlaps, first⟩
      rw [counts, index]
      rfl
    · have index : c.overlapIndex = none := firstIndex_eq_none.2 apart
      rw [counts, index, covers]
      exact ⟨_, rfl⟩
    · have index : c.overlapIndex = none := firstIndex_eq_none.2 apart
      have range : c.inRange = false := by simpa [ranged_iff counts] using unranged
      rw [counts, index, clear, range]
      rfl
    · have index : c.overlapIndex = none := firstIndex_eq_none.2 apart
      have failure : timingFailure c = some code := firstIndex_eq_some.2
        ⟨by rw [fails]; rfl, fun j lower => by rw [first j lower]; rfl⟩
      rw [counts, index, clear, (ranged_iff counts).1 inRange, failure]
      rfl
    · have index : c.overlapIndex = none := firstIndex_eq_none.2 apart
      have failure : timingFailure c = none := firstIndex_eq_none.2 fun code => by rw [passes code]; rfl
      rw [counts, index, clear, (ranged_iff counts).1 inRange, failure]
      rfl

end Sys2Proof.Proofs.Configurations

/-! The commands that their checks refuse or that find nothing to do, and the ones that act on the buffers, the guard
and the stacker (chapter 9): the statements O55 and O60. -/

namespace Sys2Proof.Proofs.Commands
open Sys2Proof Sys2Proof.Machine Sys2Proof.Proofs.CommandFrames Sys2Proof.Proofs.Invariants
open Sys2Proof.Proofs.Accesses

variable {s u : State} {c : Configuration} {k : RunningCommand} {code : Option CommandCode} {op : Word}

/-! ## The read of a command (R154, R156, R157) -/

/-- A command whose effect, in the state its read leaves, is to finish has no other effect. -/
theorem finishes_read {i : Instr} {effect : Word → State → State} {result : ResultCode} {detail : Nat}
    (wf : Memory.wf s.memory = true) (read : CommandRead s c code k)
    (row : exec i s = .next (s.begin.takeCommand code effect).grant)
    (only : effect (operand1 s c) (s.commandTaken c code) = (s.commandTaken c code).finish result detail) :
    ∃ t, exec i s = .next t ∧ OnlyFinishes s c k result detail t := by
  refine ⟨_, row, ?_⟩
  rw [State.takeCommand_read read, only]
  exact State.finish_only wf read result detail

theorem takeCommand_abandoned (config : s.config = some c) (progress : s.inProgress = some (.commandOp true))
    (named : CommandCode.ofWord (Memory.word s.memory (commandBlock c + 28)) = code) (effect : Word → State → State) :
    s.begin.takeCommand code effect = (s.begin.writeAccepted c).releasePort := by
  unfold State.takeCommand
  rw [State.begin_inProgress progress, show s.begin.config = some c from config]
  exact (if_pos named).trans (if_pos rfl)

/-- The read of an abandoned command completes with the operation's writes alone. -/
theorem abandoned_read {i : Instr} {effect : Word → State → State} (config : s.config = some c)
    (wf : Memory.wf s.memory = true) (progress : s.inProgress = some (.commandOp true))
    (named : CommandCode.ofWord (Memory.word s.memory (commandBlock c + 28)) = code)
    (row : exec i s = .next (s.begin.takeCommand code effect).grant) :
    ∃ t, exec i s = .next t ∧ WritesAccepted s c t ∧ t.junction = (s.junction.answered []).grant
      ∧ t.pulses = [] ∧ KeepsBut [.memory, .junction, .pulses] s t := by
  rw [row, takeCommand_abandoned config progress named]
  refine ⟨_, rfl, State.commandTaken_writes wf c _ rfl, Agent.answered_of_release rfl, rfl, ?_⟩
  exact (keepsBut_of_effect (L := [.memory]) (u := (s.begin.writeAccepted c).releasePort)
    (by simp [keepsBut_iff, State.writeAccepted]) rfl).mono (by decide)

/-! ## What the checks look at -/

theorem exists_sensor (i : Fin 15) : ∃ x : Sensor, x.index = i := by
  have listed : ∀ i : Fin 15, (Sensor.all[i.val]'i.isLt).index = i := by decide
  exact ⟨_, listed i⟩

theorem anyCovered_eq_false (s : State) : s.anyCovered = false ↔ ∀ x, (s.sensor x).covered = false := by
  simp only [State.anyCovered, List.any_eq_false, Vector.mem_toList_iff, Vector.mem_iff_getElem, Bool.not_eq_true]
  constructor
  · intro none x
    exact none _ ⟨x.index.val, x.index.isLt, rfl⟩
  · rintro none _ ⟨i, hi, rfl⟩
    obtain ⟨x, index⟩ := exists_sensor ⟨i, hi⟩
    have free : s.tracker.sensors[x.index].covered = false := none x
    exact (congrArg (fun j : Fin 15 => s.tracker.sensors[j].covered) index).symm.trans free

theorem pathClear_iff (s : State) :
    s.pathClear = true ↔ (∀ x, (s.sensor x).covered = false) ∧ s.lines.coverOpen = false := by
  rw [← anyCovered_eq_false]
  simp [State.pathClear]

theorem operandBuffer_eq_none (config : u.config = some c)
    (all : ∀ b : BufferNo, b.val = op.toNat → c.bufferCount ≤ b.val) : u.operandBuffer op = none := by
  have count : u.bufferCount = c.bufferCount := by simp only [State.bufferCount, config]
  unfold State.operandBuffer
  cases field : bufferField op.toNat with
  | none => rfl
  | some b =>
    have above := all b (bufferField_eq_some.1 field).symm
    exact if_neg (by omega)

theorem operandBuffer_eq_some (config : u.config = some c) {b : BufferNo} (named : b.val = op.toNat)
    (below : b.val < c.bufferCount) : u.operandBuffer op = some b := by
  have count : u.bufferCount = c.bufferCount := by simp only [State.bufferCount, config]
  unfold State.operandBuffer
  rw [bufferField_eq_some.2 named.symm]
  exact if_pos (by omega)

theorem clearAllowed_iff (s : State) : s.clearAllowed = true ↔ s.run.state = .stopped
    ∨ ((s.run.state = .clearing ∨ s.run.state = .idle) ∧ s.run.clearanceMark = true) := by
  simp [State.clearAllowed]

/-! ## START, STOP, HALT and the others that their checks refuse -/

theorem start_answers (wf : Memory.wf s.memory = true) (read : CommandRead s c (some .start) k) :
    let gives := fun (result : ResultCode) (detail : Nat) =>
      ∃ t, exec .start s = .next t ∧ OnlyFinishes s c k result detail t
    (s.run.state ≠ .idle → gives .refusedState s.run.state.code)
      ∧ (s.run.state = .idle → 8 ≤ (operand1 s c).toNat → gives .badOperand 1)
      ∧ (s.run.state = .idle → (operand1 s c).toNat < 8 →
          (s.junction.guardOn = false → gives .refusedState 0x200)
          ∧ (s.junction.guardOn = true → s.run.clearanceMark = true → gives .refusedState 0x201)
          ∧ (s.junction.guardOn = true → s.run.clearanceMark = false →
              ¬ ((∀ x, (s.sensor x).covered = false) ∧ s.lines.coverOpen = false) → gives .notClear 0)) := by
  intro gives
  obtain ⟨u, hu⟩ : ∃ u, u = s.commandTaken c (some .start) := ⟨_, rfl⟩
  have state : u.run.state = s.run.state := by rw [hu]; rfl
  have guard : u.junction.guardOn = s.junction.guardOn := by rw [hu]; rfl
  have mark : u.run.clearanceMark = s.run.clearanceMark := by rw [hu]; rfl
  have path : u.pathClear = s.pathClear := by rw [hu]; rfl
  have gives' {result : ResultCode} {detail : Nat} (only : State.runStart (operand1 s c) u = u.finish result detail) :
      gives result detail := finishes_read wf read rfl (hu ▸ only)
  unfold State.runStart at gives'
  rw [state, guard, mark, path] at gives'
  refine ⟨fun other => gives' ?_, fun idle large => gives' ?_, fun idle small => ⟨fun off => gives' ?_,
    fun on marked => gives' ?_, fun on unmarked blocked => gives' ?_⟩⟩
  · rw [if_pos other, State.refuseState, state]
  · rw [if_neg (not_not_intro idle), if_pos large]
    rfl
  · rw [if_neg (not_not_intro idle), if_neg (by omega), if_pos (by simp [off])]
  · rw [if_neg (not_not_intro idle), if_neg (by omega), if_neg (by simp [on]), if_pos marked]
  · rw [if_neg (not_not_intro idle), if_neg (by omega), if_neg (by simp [on]), if_neg (by simp [unmarked]),
      if_pos (by rwa [Bool.not_eq_true', ← Bool.not_eq_true, pathClear_iff])]

theorem stop_answers (wf : Memory.wf s.memory = true) (read : CommandRead s c (some .stop) k) :
    let gives := fun (result : ResultCode) (detail : Nat) =>
      ∃ t, exec .stop s = .next t ∧ OnlyFinishes s c k result detail t
    (s.run.state = .idle → gives .redundant 0)
      ∧ (s.run.state ≠ .idle → s.run.state ≠ .running → s.run.state ≠ .draining →
          gives .refusedState s.run.state.code) := by
  intro gives
  obtain ⟨u, hu⟩ : ∃ u, u = s.commandTaken c (some .stop) := ⟨_, rfl⟩
  have state : u.run.state = s.run.state := by rw [hu]; rfl
  have gives' {result : ResultCode} {detail : Nat} (only : State.runStop (operand1 s c) u = u.finish result detail) :
      gives result detail := finishes_read wf read rfl (hu ▸ only)
  refine ⟨fun idle => gives' ?_, fun notIdle notRunning notDraining => gives' ?_⟩
  · simp only [State.runStop, state, idle]
    rfl
  · have refused : u.refuseState = u.finish .refusedState s.run.state.code := by rw [State.refuseState, state]
    rw [← refused]
    unfold State.runStop
    rw [state]
    cases other : s.run.state with
    | idle => exact absurd other notIdle
    | running => exact absurd other notRunning
    | draining => exact absurd other notDraining
    | _ => rfl

theorem changeSpeed_answers (wf : Memory.wf s.memory = true) (read : CommandRead s c (some .changeSpeed) k) :
    let gives := fun (result : ResultCode) (detail : Nat) =>
      ∃ t, exec .changeSpeed s = .next t ∧ OnlyFinishes s c k result detail t
    (s.run.state ≠ .running → gives .refusedState s.run.state.code)
      ∧ (s.run.state = .running → 8 ≤ (operand1 s c).toNat → gives .badOperand 1)
      ∧ (s.run.state = .running → (operand1 s c).toNat = s.drive.current.val → gives .redundant 0) := by
  intro gives
  obtain ⟨u, hu⟩ : ∃ u, u = s.commandTaken c (some .changeSpeed) := ⟨_, rfl⟩
  have state : u.run.state = s.run.state := by rw [hu]; rfl
  have drive : u.drive = s.drive := by rw [hu]; rfl
  have gives' {result : ResultCode} {detail : Nat}
      (only : State.runChangeSpeed (operand1 s c) u = u.finish result detail) :
      gives result detail := finishes_read wf read rfl (hu ▸ only)
  unfold State.runChangeSpeed at gives'
  rw [state, drive] at gives'
  refine ⟨fun other => gives' ?_, fun running large => gives' ?_, fun running same => gives' ?_⟩
  · rw [if_pos other, State.refuseState, state]
  · rw [if_neg (not_not_intro running), if_pos large]
    rfl
  · have current : Fin.ofNat 8 (operand1 s c).toNat = s.drive.current := by
      rw [same]
      simp
    rw [if_neg (not_not_intro running), if_neg (by omega), current]
    exact if_pos rfl

theorem clear_answers (wf : Memory.wf s.memory = true) (read : CommandRead s c (some .clear) k) :
    let gives := fun (result : ResultCode) (detail : Nat) =>
      ∃ t, exec .clear s = .next t ∧ OnlyFinishes s c k result detail t
    let may := s.run.state = .stopped
      ∨ ((s.run.state = .clearing ∨ s.run.state = .idle) ∧ s.run.clearanceMark = true)
    (¬ may → gives .refusedState s.run.state.code)
      ∧ (may → ¬ ((∀ x, (s.sensor x).covered = false) ∧ s.lines.coverOpen = false) → gives .notClear 0) := by
  intro gives may
  obtain ⟨u, hu⟩ : ∃ u, u = s.commandTaken c (some .clear) := ⟨_, rfl⟩
  have state : u.run.state = s.run.state := by rw [hu]; rfl
  have allowed : u.clearAllowed = true ↔ may := by rw [hu]; exact clearAllowed_iff s
  have path : u.pathClear = s.pathClear := by rw [hu]; rfl
  have gives' {result : ResultCode} {detail : Nat} (only : State.runClear (operand1 s c) u = u.finish result detail) :
      gives result detail := finishes_read wf read rfl (hu ▸ only)
  unfold State.runClear at gives'
  rw [path] at gives'
  refine ⟨fun no => gives' ?_, fun yes blocked => gives' ?_⟩
  · rw [if_pos (by rwa [Bool.not_eq_true', ← Bool.not_eq_true, allowed]), State.refuseState, state]
  · rw [if_neg (by simpa using allowed.2 yes), if_pos (by rwa [Bool.not_eq_true', ← Bool.not_eq_true, pathClear_iff])]

theorem withdraw_answers (wf : Memory.wf s.memory = true) (read : CommandRead s c (some .withdraw) k) :
    let gives := fun (result : ResultCode) (detail : Nat) =>
      ∃ t, exec .withdraw s = .next t ∧ OnlyFinishes s c k result detail t
    (operand1 s c = 0 → gives .badOperand 1)
      ∧ (operand1 s c ≠ 0 → (∀ e ∈ s.plan.queue, e.sequence < (operand1 s c).toNat) → gives .redundant 0) := by
  intro gives
  obtain ⟨u, hu⟩ : ∃ u, u = s.commandTaken c (some .withdraw) := ⟨_, rfl⟩
  have plan : u.plan = s.plan := by rw [hu]; rfl
  have gives' {result : ResultCode} {detail : Nat}
      (only : State.runWithdraw (operand1 s c) u = u.finish result detail) :
      gives result detail := finishes_read wf read rfl (hu ▸ only)
  unfold State.runWithdraw at gives'
  refine ⟨fun zero => gives' ?_, fun nonzero below => gives' ?_⟩
  · rw [if_pos zero]
    rfl
  · have none : u.plan.queue.filter (fun e => decide ((operand1 s c).toNat ≤ e.sequence)) = [] := by
      rw [plan, List.filter_eq_nil_iff]
      intro e mem
      have lower := below e mem
      simp only [decide_eq_true_eq]
      omega
    have all : u.plan.queue.filter (fun e => !decide ((operand1 s c).toNat ≤ e.sequence)) = u.plan.queue := by
      rw [List.filter_eq_self]
      intro e mem
      rw [plan] at mem
      have lower := below e mem
      simp only [Bool.not_eq_true', decide_eq_false_iff_not]
      omega
    have nothing : u.withdrawFrom (operand1 s c).toNat = u := by
      unfold State.withdrawFrom
      rw [none, all]
      rfl
    rw [if_neg nonzero, none, nothing]
    rfl

theorem releaseBuffer_answers (wf : Memory.wf s.memory = true) (read : CommandRead s c (some .releaseBuffer) k) :
    let gives := fun (result : ResultCode) (detail : Nat) =>
      ∃ t, exec .releaseBuffer s = .next t ∧ OnlyFinishes s c k result detail t
    ((∀ b : BufferNo, b.val = (operand1 s c).toNat → c.bufferCount ≤ b.val) → gives .badOperand 1)
      ∧ ∀ b : BufferNo, b.val = (operand1 s c).toNat → b.val < c.bufferCount →
        ((s.buffer b).state ≠ .held → gives .refusedState (s.buffer b).state.code)
        ∧ ((s.buffer b).state = .held → (s.buffer b).count ≠ 0 → gives .inUse (s.buffer b).count) := by
  intro gives
  obtain ⟨u, hu⟩ : ∃ u, u = s.commandTaken c (some .releaseBuffer) := ⟨_, rfl⟩
  have config : u.config = some c := by rw [hu]; exact read.1
  have buffer (b : BufferNo) : u.buffer b = s.buffer b := by rw [hu]; rfl
  have gives' {result : ResultCode} {detail : Nat}
      (only : State.runReleaseBuffer (operand1 s c) u = u.finish result detail) :
      gives result detail := finishes_read wf read rfl (hu ▸ only)
  refine ⟨fun none => gives' ?_, fun b named below => ⟨fun other => gives' ?_, fun held used => gives' ?_⟩⟩
  · simp only [State.runReleaseBuffer, operandBuffer_eq_none config none]
    rfl
  · simp only [State.runReleaseBuffer, operandBuffer_eq_some config named below, buffer, if_pos other]
  · simp only [State.runReleaseBuffer, operandBuffer_eq_some config named below, buffer,
      if_neg (not_not_intro held), if_neg used]

theorem reclaimBuffer_answers (wf : Memory.wf s.memory = true) (read : CommandRead s c (some .reclaimBuffer) k) :
    let gives := fun (result : ResultCode) (detail : Nat) =>
      ∃ t, exec .reclaimBuffer s = .next t ∧ OnlyFinishes s c k result detail t
    ((∀ b : BufferNo, b.val = (operand1 s c).toNat → c.bufferCount ≤ b.val) → gives .badOperand 1)
      ∧ ∀ b : BufferNo, b.val = (operand1 s c).toNat → b.val < c.bufferCount →
        ((s.buffer b).state = .closing → gives .busy 0)
        ∧ ((s.buffer b).state = .free ∨ (s.buffer b).state = .held →
            gives .refusedState (s.buffer b).state.code) := by
  intro gives
  obtain ⟨u, hu⟩ : ∃ u, u = s.commandTaken c (some .reclaimBuffer) := ⟨_, rfl⟩
  have config : u.config = some c := by rw [hu]; exact read.1
  have buffer (b : BufferNo) : u.buffer b = s.buffer b := by rw [hu]; rfl
  have gives' {result : ResultCode} {detail : Nat}
      (only : State.runReclaimBuffer (operand1 s c) u = u.finish result detail) :
      gives result detail := finishes_read wf read rfl (hu ▸ only)
  refine ⟨fun none => gives' ?_, fun b named below => ⟨fun closing => gives' ?_, fun other => gives' ?_⟩⟩
  · simp only [State.runReclaimBuffer, operandBuffer_eq_none config none]
    rfl
  · simp only [State.runReclaimBuffer, operandBuffer_eq_some config named below, buffer, closing]
  · rcases other with free | held
    · simp only [State.runReclaimBuffer, operandBuffer_eq_some config named below, buffer, free]
    · simp only [State.runReclaimBuffer, operandBuffer_eq_some config named below, buffer, held]

theorem guardOff_answers (wf : Memory.wf s.memory = true) (read : CommandRead s c (some .guardOff) k) :
    let gives := fun (result : ResultCode) (detail : Nat) =>
      ∃ t, exec .guardOff s = .next t ∧ OnlyFinishes s c k result detail t
    (s.run.state ≠ .idle → gives .refusedState s.run.state.code)
      ∧ (s.run.state = .idle → s.junction.guardOn = false → gives .redundant 0) := by
  intro gives
  obtain ⟨u, hu⟩ : ∃ u, u = s.commandTaken c (some .guardOff) := ⟨_, rfl⟩
  have state : u.run.state = s.run.state := by rw [hu]; rfl
  have guard : u.junction.guardOn = s.junction.guardOn := by rw [hu]; rfl
  have gives' {result : ResultCode} {detail : Nat}
      (only : State.runGuardOff (operand1 s c) u = u.finish result detail) :
      gives result detail := finishes_read wf read rfl (hu ▸ only)
  unfold State.runGuardOff at gives'
  rw [state, guard] at gives'
  refine ⟨fun other => gives' ?_, fun idle off => gives' ?_⟩
  · rw [if_pos other, State.refuseState, state]
  · rw [if_neg (not_not_intro idle), if_neg (by simp [off])]
    rfl

/-- Settles O55: each command by the check that refuses it, or by what it finds done; and the abandoned read. -/
theorem commandAnswers : Obligations.CommandAnswers := by
  refine ⟨fun s c k wf active => ⟨fun read => ?_, start_answers wf, stop_answers wf, fun read idle => ?_,
    fun read held => ?_, fun read free => ?_, changeSpeed_answers wf, fun read notDraining notRespeed => ?_,
    clear_answers wf, withdraw_answers wf, releaseBuffer_answers wf, reclaimBuffer_answers wf, fun read on => ?_,
    guardOff_answers wf, fun read not1 not2 => ?_⟩, fun s c config wf progress => ?_⟩
  · exact finishes_read wf read rfl rfl
  · have state : (s.commandTaken c (some .halt)).run.state = s.run.state := rfl
    refine finishes_read wf read rfl ?_
    rcases idle with idle | stopped | clearing
    · simp only [State.runHalt, state, idle]
      rfl
    · simp only [State.runHalt, state, stopped]
      rfl
    · simp only [State.runHalt, state, clearing]
      rfl
  · exact finishes_read wf read rfl (if_pos held)
  · exact finishes_read wf read rfl (if_neg (Bool.eq_false_iff.1 free))
  · exact finishes_read wf read rfl (if_pos ⟨notDraining, notRespeed⟩)
  · exact finishes_read wf read rfl (if_pos on)
  · refine finishes_read wf read rfl ?_
    simp only [State.runSelectStacker, stackerOf, if_neg not1, if_neg not2]
    rfl
  · dsimp only
    cases named : CommandCode.ofWord (Memory.word s.memory (commandBlock c + 28)) with
    | none => exact abandoned_read config wf progress named rfl
    | some x => cases x <;> exact abandoned_read config wf progress named rfl

/-! ## Commands carried out (R154) -/

theorem takenAs (wf : Memory.wf s.memory = true) {x : CommandCode} (read : CommandRead s c (some x) k) :
    TakenAs s c x k (s.commandTaken c (some x)) := by
  obtain ⟨-, -, running, -⟩ := read
  exact ⟨State.commandTaken_writes wf c _ rfl, State.commandTaken_run wf c _ k running,
    State.commandTaken_junction s c _, rfl, State.commandTaken_keepsBut s c _⟩

theorem pulses_of_taken {x : CommandCode} (taken : TakenAs s c x k u) : u.pulses = [] := by
  obtain ⟨-, -, -, pulses, -⟩ := taken
  exact pulses

theorem running_of_taken {x : CommandCode} (taken : TakenAs s c x k u) : ∃ r, u.run.running = some r
    ∧ ∀ result detail, finishOp r result detail = finishOp k result detail := by
  obtain ⟨-, run, -⟩ := taken
  exact ⟨_, congrArg RunControl.running run, fun _ _ => rfl⟩

/-- The finish of the command that was taken, from a state that keeps the run controller's command (R156). -/
theorem finish_taken {x : CommandCode} {v : State} (taken : TakenAs s c x k u) (running : v.run.running = u.run.running)
    (result : ResultCode) (detail : Nat) :
    v.finish result detail = (v.setRun v.run.finished).ask (finishOp k result detail) := by
  obtain ⟨r, same, op⟩ := running_of_taken taken
  rw [State.finish_running v r (running.trans same), op]

theorem exec_read {i : Instr} {x : CommandCode} {effect : Word → State → State} (read : CommandRead s c (some x) k)
    (row : exec i s = .next (s.begin.takeCommand (some x) effect).grant) :
    exec i s = .next (effect (operand1 s c) (s.commandTaken c (some x))).grant := by
  rw [row, State.takeCommand_read read]

/-! ## Buffers, the guard and the stacker (R165 to R167) -/

/-- A buffer freed by a command that then finishes DONE. -/
theorem freed_by {i : Instr} {x : CommandCode} {effect : Word → State → State} (wf : Memory.wf s.memory = true)
    (read : CommandRead s c (some x) k) (row : exec i s = .next (s.begin.takeCommand (some x) effect).grant)
    {b : BufferNo} (frees : effect (operand1 s c) (s.commandTaken c (some x))
      = ((s.commandTaken c (some x)).freeBuffer b).succeed) :
    ∃ u t, exec i s = .next t ∧ TakenAs s c x k u ∧ CarriedOut k .done 0 [.buffers, .attention] u t
      ∧ t.run = u.run.finished ∧ t.buffer b = ⟨.free, none, 0, false, false⟩
      ∧ (∀ j, j ≠ b → t.buffer j = s.buffer j) ∧ t.buffers.claimWaiting = false
      ∧ t.attention = (if s.buffers.claimWaiting then
          { s.attention with p := s.attention.p.add .bufferAvailable, lineP := true } else s.attention) := by
  have taken := takenAs wf read
  have done := exec_read read row
  rw [frees] at done
  obtain ⟨u, hu⟩ : ∃ u, u = s.commandTaken c (some x) := ⟨_, rfl⟩
  have buffers : u.buffers = s.buffers := by rw [hu]; rfl
  have attention : u.attention = s.attention := by rw [hu]; rfl
  rw [← hu] at taken done
  obtain ⟨freed, others, claim, raised⟩ := freeBuffer_spec u b
  rw [State.succeed, finish_taken taken (by simp)] at done
  refine ⟨u, _, done, taken, ⟨rfl, rfl, ?_, ?_, ?_⟩, ?_, freed, fun j other => ?_, claim, ?_⟩
  · exact congrArg (fun j : Junction => (j.asked [finishOp k .done 0]).grant) (by simp)
  · exact Eq.trans (by simp) (pulses_of_taken taken)
  · exact KeepsBut.grant (by simp [keepsBut_iff]) (by simp)
  · exact congrArg RunControl.finished (by simp)
  · exact (others j other).trans (congrArg (fun r : Residency => r.table[j]) buffers)
  · rw [← buffers, ← attention]
    exact raised

/-- The guard switched by a command that then finishes DONE. -/
theorem guarded_by {i : Instr} {x : CommandCode} {effect : Word → State → State} (wf : Memory.wf s.memory = true)
    (read : CommandRead s c (some x) k) (row : exec i s = .next (s.begin.takeCommand (some x) effect).grant)
    {on : Bool} (switches : effect (operand1 s c) (s.commandTaken c (some x))
      = ((s.commandTaken c (some x)).setGuard on).succeed) :
    ∃ u t, exec i s = .next t ∧ TakenAs s c x k u ∧ t.run = u.run.finished
      ∧ t.junction = { u.junction.asked [finishOp k .done 0] with guardOn := on }.grant ∧ t.pulses = []
      ∧ KeepsBut [.run, .junction, .pulses] u t := by
  have taken := takenAs wf read
  have done := exec_read read row
  rw [switches] at done
  generalize s.commandTaken c (some x) = u at taken done
  rw [State.succeed, finish_taken (v := u.setGuard on) taken rfl] at done
  exact ⟨u, _, done, taken, rfl, rfl, (pulses_of_taken taken :), KeepsBut.grant (by simp [keepsBut_iff, State.setGuard]) (by simp)⟩

/-- Settles O60: the five commands that act on one flag or one buffer. -/
theorem bufferGuardStacker : Obligations.BufferGuardStacker := by
  refine fun s c k wf => ⟨fun b named below => ⟨fun read held unused => ?_, fun read filling => ?_⟩, fun read off => ?_,
    fun read idle on => ?_, fun read valid => ?_⟩
  · refine freed_by wf read rfl ?_
    have buffer : (s.commandTaken c (some .releaseBuffer)).buffer b = s.buffer b := rfl
    simp only [State.runReleaseBuffer,
      operandBuffer_eq_some (u := s.commandTaken c (some .releaseBuffer)) read.1 named.symm below, buffer,
      if_neg (not_not_intro held), if_pos unused]
  · refine freed_by wf read rfl ?_
    have buffer : (s.commandTaken c (some .reclaimBuffer)).buffer b = s.buffer b := rfl
    simp only [State.runReclaimBuffer,
      operandBuffer_eq_some (u := s.commandTaken c (some .reclaimBuffer)) read.1 named.symm below, buffer, filling]
  · exact guarded_by wf read rfl (if_neg (Bool.eq_false_iff.1 off))
  · exact guarded_by wf read rfl ((if_neg (not_not_intro idle)).trans (if_pos on))
  · have taken := takenAs wf read
    have done := exec_read (i := .selectStacker) (effect := State.runSelectStacker) read rfl
    have chosen : stackerOf (operand1 s c) = some (if operand1 s c = 1 then .k1 else .k2) := by
      rcases valid with one | two
      · simp [stackerOf, one]
      · simp [stackerOf, two]
    simp only [State.runSelectStacker, chosen] at done
    have output : (s.commandTaken c (some .selectStacker)).output = s.output := rfl
    rw [output] at done
    generalize s.commandTaken c (some .selectStacker) = u at taken done
    rw [State.succeed, finish_taken
      (v := u.setOutput { s.output with selection := some (if operand1 s c = 1 then .k1 else .k2) }) taken rfl] at done
    exact ⟨u, _, done, taken, ⟨rfl, rfl, rfl, (pulses_of_taken taken :), KeepsBut.grant (by simp [keepsBut_iff]) (by simp)⟩, rfl,
      rfl⟩

end Sys2Proof.Proofs.Commands

/-! The commands of a run: START, STOP and HALT (O56), and the feed and speed commands (O57). -/

namespace Sys2Proof.Proofs.RunCommands
open Sys2Proof Sys2Proof.Machine Sys2Proof.Proofs.CommandFrames Sys2Proof.Proofs.Invariants
open Sys2Proof.Proofs.Commands Sys2Proof.Proofs.OutputLines

variable {s u : State} {c : Configuration} {k : RunningCommand}

/-! ## A deschedule where no copy is broken (R72) -/

/-- With no broken copy a deschedule withdraws nothing: the entries return to the queue. -/
structure DescheduledSound (u v : State) : Prop where
  descheduled : Descheduled u v
  bounds : v.scheduler.admissionBounds = u.scheduler.pickBounds
  keeps : KeepsBut [.plan, .scheduler, .tracker] u v

theorem deschedule_sound (sound : u.output.broken = []) : DescheduledSound u u.deschedule := by
  obtain ⟨newest, v, sorted, perm, plan, sheets, sensors, -, -, -, -, admission, -, -, keeps, each⟩ := deschedules u
  have sound' : v.output.broken = [] := (congrArg OutputUnit.broken (keeps .output (by simp))).trans sound
  have still := Timers.each_rewithdraws_sound sound' each
  have tracker : u.deschedule.tracker = v.tracker := still .tracker (by simp)
  refine ⟨⟨⟨newest.reverse, (still .plan (by simp)).trans plan, by simpa [List.pairwise_reverse] using sorted,
    (List.reverse_perm _).trans perm⟩, fun h => (State.sheet_congr tracker h).trans (sheets h),
    (congrArg Tracker.sensors tracker).trans sensors⟩, ?_, keeps.trans (still.mono (by simp))⟩
  exact (congrArg Scheduler.admissionBounds (still .scheduler (by simp))).trans admission

/-- What keeps the plan and the tracker keeps what a deschedule did. -/
theorem descheduled_congr {v t : State} (descheduled : Descheduled u v) (plan : t.plan = v.plan)
    (tracker : t.tracker = v.tracker) : Descheduled u t := by
  obtain ⟨entries, sheets, sensors⟩ := descheduled
  exact ⟨plan ▸ entries, fun h => (State.sheet_congr tracker h).trans (sheets h),
    (congrArg Tracker.sensors tracker).trans sensors⟩

theorem drained_iff (u : State) : u.drained = true ↔
    u.run.state = .draining ∧ (∀ h, u.sheet h = none) ∧ u.output.set.inFlight = false := by
  simp only [State.drained, Bool.and_eq_true, beq_iff_eq, Records.liveCount_eq_zero, Bool.not_eq_true', and_assoc]

/-- After a deschedule the live sheets are those that were past SCHEDULED. -/
theorem sheets_gone_iff {v : State} (descheduled : Descheduled u v) : (∀ h, v.sheet h = none) ↔ ¬ u.inPath := by
  obtain ⟨-, sheets, -⟩ := descheduled
  simp only [State.inPath, not_exists, not_and, not_not]
  refine ⟨fun gone h sh live => ?_, fun none h => ?_⟩
  · have empty := (sheets h).symm.trans (gone h)
    rw [live] at empty
    by_contra past
    simp [past] at empty
  · rw [sheets h]
    cases live : u.sheet h with
    | none => rfl
    | some sh => exact if_pos (none h sh live)

/-! ## What a command that is carried out finds (R154) -/

/-- The parts of the state that a command finds as they were before its read. -/
structure Found (s u : State) : Prop where
  tick : u.tick = s.tick
  config : u.config = s.config
  lines : u.lines = s.lines
  plan : u.plan = s.plan
  scheduler : u.scheduler = s.scheduler
  tracker : u.tracker = s.tracker
  output : u.output = s.output
  drive : u.drive = s.drive
  attention : u.attention = s.attention
  guard : u.junction.guardOn = s.junction.guardOn
  state : u.run.state = s.run.state
  holds : u.run.holds = s.run.holds
  mark : u.run.clearanceMark = s.run.clearanceMark
  target : u.run.drainTarget = s.run.drainTarget
  status : u.run.changeStatus = s.run.changeStatus

theorem found_of_taken {x : CommandCode} (taken : TakenAs s c x k u) : Found s u := by
  obtain ⟨-, run, junction, -, keeps⟩ := taken
  constructor
  case guard => exact (congrArg Junction.guardOn junction :)
  case state => exact (congrArg RunControl.state run :)
  case holds => exact (congrArg RunControl.holds run :)
  case mark => exact (congrArg RunControl.clearanceMark run :)
  case target => exact (congrArg RunControl.drainTarget run :)
  case status => exact (congrArg RunControl.changeStatus run :)
  case tick => exact keeps .tick (by simp)
  case config => exact keeps .config (by simp)
  case lines => exact keeps .lines (by simp)
  case plan => exact keeps .plan (by simp)
  case scheduler => exact keeps .scheduler (by simp)
  case tracker => exact keeps .tracker (by simp)
  case output => exact keeps .output (by simp)
  case drive => exact keeps .drive (by simp)
  case attention => exact keeps .attention (by simp)

/-- A command's read carries the command out from the state it leaves. -/
theorem exec_taken {i : Instr} {x : CommandCode} (effect : Word → State → State) (wf : Memory.wf s.memory = true)
    (read : CommandRead s c (some x) k) (row : exec i s = .next (s.begin.takeCommand (some x) effect).grant) :
    ∃ u, TakenAs s c x k u ∧ Found s u ∧ exec i s = .next (effect (operand1 s c) u).grant :=
  ⟨_, takenAs wf read, found_of_taken (takenAs wf read), exec_read read row⟩

theorem found_pathClear (found : Found s u) : u.pathClear = s.pathClear := by
  simp only [State.pathClear, State.anyCovered, found.tracker, found.lines]

/-! ## The finish of the command that was taken (R156) -/

/-- What the finish of the command and the grant behind it leave (R156, R178). -/
theorem finished_taken {x : CommandCode} {v : State} (taken : TakenAs s c x k u)
    (running : v.run.running = u.run.running)
    (result : ResultCode) (detail : Nat) :
    (v.finish result detail).grant.run = v.run.finished
      ∧ (v.finish result detail).grant.junction = (v.junction.asked [finishOp k result detail]).grant
      ∧ KeepsBut [.run, .junction] v (v.finish result detail).grant := by
  rw [finish_taken taken running]
  exact ⟨rfl, rfl, KeepsBut.grant (by simp [keepsBut_iff]) (by simp)⟩

theorem carriedOut_taken {x : CommandCode} {v : State} {changed : List Block} (taken : TakenAs s c x k u)
    (running : v.run.running = u.run.running) (junction : v.junction = u.junction)
    (keeps : KeepsBut (.run :: .junction :: .pulses :: changed) u v) (pulses : v.pulses = u.pulses)
    (result : ResultCode) (detail : Nat) : CarriedOut k result detail changed u (v.finish result detail).grant := by
  obtain ⟨run, asked, same⟩ := finished_taken taken running result detail
  have finished : v.run.finished.command = .done ∧ v.run.finished.running = none := ⟨rfl, rfl⟩
  refine ⟨run ▸ finished.1, run ▸ finished.2, junction ▸ asked, ?_, keeps.trans (same.mono (by simp))⟩
  exact (same .pulses (by simp)).trans (pulses.trans (pulses_of_taken taken))

/-- A finish meant for the command that was taken (R157). -/
theorem finishIf_taken {x : CommandCode} {v : State} (taken : TakenAs s c x k u)
    (running : v.run.running = u.run.running)
    (result : ResultCode) (detail : Nat) : v.finishIf x result detail = v.finish result detail := by
  have named : v.runs x = true := by simp [State.runs, running, taken.2.1, RunControl.running']
  exact if_pos named

/-- A finish meant for another command (R157). -/
theorem finishIf_untaken {x y : CommandCode} {v : State} (taken : TakenAs s c x k u)
    (running : v.run.running = u.run.running) (other : x ≠ y) (result : ResultCode) (detail : Nat) :
    v.finishIf y result detail = v := by
  have unnamed : ¬ v.runs y = true := by simp [State.runs, running, taken.2.1, RunControl.running', other]
  exact if_neg unnamed

/-! ## START (R158) -/

theorem start_carriedOut (wf : Memory.wf s.memory = true) (read : CommandRead s c (some .start) k)
    (idle : s.run.state = .idle) (small : (operand1 s c).toNat < 8) (on : s.junction.guardOn = true)
    (unmarked : s.run.clearanceMark = false) (uncovered : ∀ x, (s.sensor x).covered = false)
    (closed : s.lines.coverOpen = false) :
    ∃ u t, exec .start s = .next t ∧ TakenAs s c .start k u ∧ StaysAccepted [.drive] u t
      ∧ t.run = { u.run with state := .starting }
      ∧ ∃ code : SpeedCode, code.val = (operand1 s c).toNat ∧ t.drive = { s.drive with
          state := .spinUp, target := code, speed := code, enable := true, count := 0
          windowClose := some (s.tick + 1000), lockDeadline := some (s.tick + BitVec.ofNat 32 c.lockTimeout)
          inBandRun := 0, deviationRun := 0, zeroRun := 0 } := by
  obtain ⟨u, taken, found, done⟩ := exec_taken (i := .start) State.runStart wf read rfl
  have path : u.pathClear = true := (found_pathClear found).trans ((pathClear_iff s).2 ⟨uncovered, closed⟩)
  have timeout : u.lockTimeoutTicks = c.lockTimeout := by simp only [State.lockTimeoutTicks, found.config, read.1]
  have starts : State.runStart (operand1 s c) u = u.beginStart (Fin.ofNat 8 (operand1 s c).toNat) := by
    unfold State.runStart
    rw [found.state, found.guard, found.mark, path, if_neg (not_not_intro idle), if_neg (by omega),
      if_neg (by simp [on]), if_neg (by simp [unmarked]), if_neg (by simp)]
  rw [starts] at done
  refine ⟨u, _, done, taken, ⟨rfl, rfl, rfl, (pulses_of_taken taken :), KeepsBut.grant ?_ (by simp)⟩, rfl,
    Fin.ofNat 8 (operand1 s c).toNat, Nat.mod_eq_of_lt small, ?_⟩
  · simp [keepsBut_iff, State.beginStart, State.enter]
  · rw [← found.drive, ← found.tick, ← timeout]
    rfl

/-! ## The entry to a drain (R132, R159) -/

/-- The part as it enters DRAINING, before the deschedule. -/
def toDrain (u : State) (target : Option SpeedCode) (status : ChangeStatus) : State :=
  u.setRun { u.run with state := .draining, drainTarget := target, changeStatus := status }

section
variable {target : Option SpeedCode} {status : ChangeStatus}

theorem toDrain_kept {w : State} (descheduled : DescheduledSound (toDrain u target status) w) :
    KeepsBut [.run, .plan, .scheduler, .tracker] u w :=
  KeepsBut.trans (u := toDrain u target status) (by simp [keepsBut_iff, toDrain]) (descheduled.keeps.mono (by simp))

theorem enterDraining_chain (u : State) (target : Option SpeedCode) (status : ChangeStatus) :
    ∃ w x y, Deschedules (toDrain u target status) w ∧ SetExamined w x ∧ DrainExamined x y
      ∧ Evaluates y (u.enterDraining target status) :=
  ⟨_, _, _, deschedules _, setExamined _, drainExamined _, evaluates _⟩

/-- With the set EMPTY and SOUND and no broken copy, a drain's entry examines the drain's end of the path alone. -/
theorem enterDraining_calm (empty : u.output.set.state = .empty) (sound : u.output.set.condition = .sound)
    (unbroken : u.output.broken = []) :
    DescheduledSound (toDrain u target status) (toDrain u target status).deschedule
      ∧ u.enterDraining target status = (toDrain u target status).deschedule.examineDrain.evaluate
      ∧ ((toDrain u target status).deschedule.drained = true ↔ ¬ u.inPath) := by
  have descheduled : DescheduledSound (toDrain u target status) (toDrain u target status).deschedule :=
    deschedule_sound unbroken
  have run := descheduled.keeps .run (by simp)
  have output := descheduled.keeps .output (by simp)
  refine ⟨descheduled, ?_, ?_⟩
  · unfold State.enterDraining
    exact congrArg (fun x : State => x.examineDrain.evaluate)
      (examineSet_empty (u := (toDrain u target status).deschedule) (by rw [output]; exact empty)
        (by rw [output]; exact sound))
  · rw [drained_iff, run, output, sheets_gone_iff descheduled.descheduled]
    have rests : u.output.set.inFlight = false := by simp [SetRecord.inFlight, empty]
    exact ⟨fun ended => ended.2.1, fun free => ⟨rfl, free, rests⟩⟩

/-- With a sheet past SCHEDULED the drain goes on, and admission does not evaluate (R65, R142). -/
theorem enterDraining_inPath (empty : u.output.set.state = .empty) (sound : u.output.set.condition = .sound)
    (unbroken : u.output.broken = []) (path : u.inPath) :
    ∃ w, DescheduledSound (toDrain u target status) w
      ∧ u.enterDraining target status = w.setWaitReason .notRunning := by
  obtain ⟨descheduled, enters, drained⟩ := enterDraining_calm (target := target) (status := status) empty sound unbroken
  have run := descheduled.keeps .run (by simp)
  have goesOn : (toDrain u target status).deschedule.examineDrain = (toDrain u target status).deschedule :=
    if_neg (mt drained.1 (not_not_intro path))
  refine ⟨_, descheduled, enters.trans ?_⟩
  rw [goesOn, State.evaluate_notRunning]
  rw [run]
  exact (by decide : RunState.draining ≠ .running)

/-- With no sheet past SCHEDULED a drain to rest ends at once: the grid goes, the drive coasts into IDLE, and a STOP
finishes (R142). -/
theorem enterDraining_rest (empty : u.output.set.state = .empty) (sound : u.output.set.condition = .sound)
    (unbroken : u.output.broken = []) (path : ¬ u.inPath) :
    ∃ w r, DescheduledSound (toDrain u none status) w ∧ r.run = { w.run with state := .idle }
      ∧ r.scheduler.grid = none ∧ r.drive = w.drive.coast w.tick ∧ KeepsBut [.scheduler, .drive, .run] w r
      ∧ u.enterDraining none status = (r.finishIf .stop .done 0).examineSet.evaluate := by
  obtain ⟨descheduled, enters, drained⟩ := enterDraining_calm (target := none) (status := status) empty sound unbroken
  have run := descheduled.keeps .run (by simp)
  generalize (toDrain u none status).deschedule = w at descheduled enters drained run
  refine ⟨w, w.discardGrid.coast.enter .idle, descheduled, rfl, rfl, rfl, by simp [keepsBut_iff, State.enter],
    enters.trans (congrArg State.evaluate ?_)⟩
  unfold State.examineDrain
  rw [if_pos (drained.2 path), run]
  rfl

/-- With no sheet past SCHEDULED a drain of a speed change turns to the relock at once (R132, R142). -/
theorem enterDraining_relock {code : SpeedCode} (config : u.config = some c) (empty : u.output.set.state = .empty)
    (sound : u.output.set.condition = .sound) (unbroken : u.output.broken = []) (path : ¬ u.inPath) :
    ∃ w r, DescheduledSound (toDrain u (some code) status) w
      ∧ r.run = { w.run with state := .respeed, changeStatus := .relocking } ∧ r.scheduler.grid = none
      ∧ r.drive = w.drive.relockTo w.tick code c.lockTimeout ∧ KeepsBut [.scheduler, .drive, .run] w r
      ∧ u.enterDraining (some code) status = r := by
  obtain ⟨descheduled, enters, drained⟩ :=
    enterDraining_calm (target := some code) (status := status) empty sound unbroken
  have run := descheduled.keeps .run (by simp)
  have same : (toDrain u (some code) status).deschedule.config = some c :=
    (descheduled.keeps .config (by simp)).trans config
  generalize (toDrain u (some code) status).deschedule = w at descheduled enters drained run same
  have timeout : w.lockTimeoutTicks = c.lockTimeout := by simp only [State.lockTimeoutTicks, same]
  have target : w.run.drainTarget = some code := by rw [run]; rfl
  have turns : w.examineDrain
      = (w.discardGrid.setRun { w.run with state := .respeed, changeStatus := .relocking }).withDrive
          (fun d => d.relockTo w.tick code c.lockTimeout) := by
    unfold State.examineDrain
    rw [if_pos (drained.2 path), target, timeout]
    rfl
  rw [turns, State.evaluate_notRunning _ (by exact (by decide : RunState.respeed ≠ .running))] at enters
  exact ⟨w, _, descheduled, rfl, rfl, rfl, by simp [keepsBut_iff, State.setWaitReason], enters⟩

/-- A drain of a speed change finishes no command, STOP's end being that of a drain to rest (R142). -/
theorem enterDraining_running {code : SpeedCode} :
    (u.enterDraining (some code) status).run.running = u.run.running := by
  unfold State.enterDraining
  simp only [State.evaluate_keeps]
  have entered : ((toDrain u (some code) status).deschedule.examineSet).run
      = { u.run with state := .draining, drainTarget := some code, changeStatus := status } := by simp [toDrain]
  show (State.examineDrain ((toDrain u (some code) status).deschedule.examineSet)).run.running = _
  generalize (toDrain u (some code) status).deschedule.examineSet = w at entered
  have target : w.run.drainTarget = some code := congrArg RunControl.drainTarget entered
  unfold State.examineDrain
  split
  · rw [target]
    exact (congrArg RunControl.running entered :)
  · exact (congrArg RunControl.running entered :)

end

/-! ## STOP (R159) -/

theorem stop_drains (wf : Memory.wf s.memory = true) (read : CommandRead s c (some .stop) k)
    (running : s.run.state = .running) :
    ∃ u, TakenAs s c .stop k u ∧ Found s u ∧ exec .stop s = .next (u.enterDraining none u.run.changeStatus).grant := by
  obtain ⟨u, taken, found, done⟩ := exec_taken (i := .stop) State.runStop wf read rfl
  refine ⟨u, taken, found, done.trans ?_⟩
  unfold State.runStop
  rw [found.state.trans running]

theorem stop_calm (wf : Memory.wf s.memory = true) (read : CommandRead s c (some .stop) k)
    (running : s.run.state = .running) (empty : s.output.set.state = .empty) (sound : s.output.set.condition = .sound)
    (unbroken : s.output.broken = []) :
    (s.inPath → ∃ u t, exec .stop s = .next t ∧ TakenAs s c .stop k u
        ∧ StaysAccepted [.plan, .scheduler, .tracker] u t ∧ Descheduled u t
        ∧ t.run = { u.run with state := .draining, drainTarget := none } ∧ t.scheduler.waitReason = .notRunning
        ∧ t.scheduler.admissionBounds = s.scheduler.pickBounds)
      ∧ (¬ s.inPath → ∃ u t, exec .stop s = .next t ∧ TakenAs s c .stop k u
        ∧ CarriedOut k .done 0 [.plan, .scheduler, .tracker, .drive] u t ∧ Descheduled u t
        ∧ t.run = { u.run.finished with state := .idle, drainTarget := none }
        ∧ t.scheduler.grid = none ∧ t.drive = s.drive.coast s.tick) := by
  obtain ⟨u, taken, found, done⟩ := stop_drains wf read running
  have path : u.inPath ↔ s.inPath := by simp only [State.inPath, State.sheet, found.tracker]
  rw [← found.output] at empty sound unbroken
  constructor
  · intro inPath
    obtain ⟨w, descheduled, enters⟩ := enterDraining_inPath (target := none) (status := u.run.changeStatus) empty sound
      unbroken (path.2 inPath)
    rw [enters] at done
    have run : w.run = { u.run with state := .draining, drainTarget := none } := descheduled.keeps .run (by simp)
    have kept := toDrain_kept descheduled
    refine ⟨u, _, done, taken, ⟨?_, ?_, congrArg Junction.grant (kept .junction (by simp)),
      (kept .pulses (by simp)).trans (pulses_of_taken taken), ?_⟩, descheduled.descheduled, run, rfl,
      descheduled.bounds.trans (congrArg Scheduler.pickBounds found.scheduler)⟩
    · exact (congrArg RunControl.command run :)
    · exact (congrArg RunControl.running run :)
    · exact KeepsBut.grant (kept.trans (by simp [keepsBut_iff, State.setWaitReason]) |>.mono (by simp)) (by simp)
  · intro free
    obtain ⟨w, r, descheduled, rests, grid, coasts, same, enters⟩ := enterDraining_rest
      (status := u.run.changeStatus) empty sound unbroken (mt path.1 free)
    have drains : w.run = { u.run with state := .draining, drainTarget := none } := descheduled.keeps .run (by simp)
    have kept : KeepsBut [.run, .plan, .scheduler, .tracker, .drive] u r :=
      ((toDrain_kept descheduled).mono (by simp)).trans (same.mono (by simp))
    have run : r.run = { u.run with state := .idle, drainTarget := none } := by rw [rests, drains]
    have running : r.run.running = u.run.running := by rw [run]
    have ended : r.run.finished.state ≠ .running := by rw [run]; exact (by decide : RunState.idle ≠ .running)
    have set : r.output.set = u.output.set := congrArg OutputUnit.set (kept .output (by simp))
    rw [finishIf_taken taken running, finish_taken taken running, examineSet_empty (by exact set ▸ empty)
      (by exact set ▸ sound), State.evaluate_notRunning _ (by exact ended)] at enters
    rw [enters] at done
    refine ⟨u, _, done, taken, ⟨rfl, rfl, ?_, (kept .pulses (by simp)).trans (pulses_of_taken taken),
        KeepsBut.grant (kept.mono (by simp) |>.trans (by simp [keepsBut_iff, State.setWaitReason])) (by simp)⟩,
      descheduled_congr descheduled.descheduled (same .plan (by simp)) (same .tracker (by simp)),
      congrArg RunControl.finished run, grid, ?_⟩
    · exact congrArg (fun j : Junction => (j.asked [finishOp k .done 0]).grant) (kept .junction (by simp))
    · have turned : w.drive = s.drive := ((toDrain_kept descheduled) .drive (by simp)).trans found.drive
      have now : w.tick = s.tick := ((toDrain_kept descheduled) .tick (by simp)).trans found.tick
      exact coasts.trans (by rw [turned, now])

theorem stop_chain (wf : Memory.wf s.memory = true) (read : CommandRead s c (some .stop) k)
    (running : s.run.state = .running) :
    ∃ u v w x y z t, exec .stop s = .next t ∧ TakenAs s c .stop k u
      ∧ v.run = { u.run with state := .draining, drainTarget := none } ∧ KeepsBut [.run] u v
      ∧ Deschedules v w ∧ SetExamined w x ∧ DrainExamined x y ∧ Evaluates y z ∧ Granted z t := by
  obtain ⟨u, taken, -, done⟩ := stop_drains wf read running
  obtain ⟨w, x, y, descheduled, set, drain, admission⟩ := enterDraining_chain u none u.run.changeStatus
  exact ⟨u, toDrain u none u.run.changeStatus, w, x, y, _, _, done, taken, rfl, by simp [keepsBut_iff, toDrain],
    descheduled, set, drain, admission, granted _⟩

theorem stop_change (wf : Memory.wf s.memory = true) (read : CommandRead s c (some .stop) k) {code : SpeedCode}
    (draining : s.run.state = .draining) (target : s.run.drainTarget = some code) :
    ∃ u v w t, exec .stop s = .next t ∧ TakenAs s c .stop k u
      ∧ v.run = { u.run with changeStatus := .aborted, drainTarget := none }
      ∧ v.attention = s.attention.withE .speedChangeEnd ∧ KeepsBut [.run, .attention] u v
      ∧ DrainExamined v w ∧ Granted w t := by
  obtain ⟨u, taken, found, done⟩ := exec_taken (i := .stop) State.runStop wf read rfl
  have aborts : State.runStop (operand1 s c) u = (u.endChange .aborted).examineDrain := by
    unfold State.runStop
    rw [found.state.trans draining]
    dsimp only
    rw [found.target.trans target]
  rw [aborts] at done
  refine ⟨u, u.endChange .aborted, _, _, done, taken, rfl, ?_, by simp [keepsBut_iff, State.endChange], drainExamined _,
    granted _⟩
  rw [← found.attention]
  rfl

theorem stop_waits (wf : Memory.wf s.memory = true) (read : CommandRead s c (some .stop) k)
    (draining : s.run.state = .draining) (plain : s.run.drainTarget = none) :
    ∃ u t, exec .stop s = .next t ∧ TakenAs s c .stop k u ∧ StaysAccepted [] u t ∧ t.run = u.run := by
  obtain ⟨u, taken, found, done⟩ := exec_taken (i := .stop) State.runStop wf read rfl
  have stays : State.runStop (operand1 s c) u = u := by
    unfold State.runStop
    rw [found.state.trans draining]
    dsimp only
    rw [found.target.trans plain]
  rw [stays] at done
  exact ⟨u, _, done, taken, ⟨rfl, rfl, rfl, (pulses_of_taken taken :), KeepsBut.grant .refl (by simp)⟩, rfl⟩

/-! ## HALT (R160) -/

theorem halt_reports (stops : u.run.state.runs = true ∨ u.run.state = .stopping) (op : Word) :
    State.runHalt op u = (u.report (Report.bare .operator)).succeed := by
  unfold State.runHalt
  rcases stops with runs | stopping
  · revert runs
    cases u.run.state <;> simp [RunState.runs]
  · rw [stopping]

/-- The command being run outlives the stop that it causes, as a HALT is none of those that a stop fails (R139). -/
theorem report_running (taken : TakenAs s c .halt k u) (stops : u.run.state.runs = true ∨ u.run.state = .stopping)
    (r : Report) : (u.report r).run.running = u.run.running := by
  rcases stops with runs | stopping
  · rw [State.report_runs u r runs]
    unfold State.enterStop
    dsimp only
    have descheduled := (State.deschedule_spec ((u.setRun { u.run with
      state := .stopping, jam := some (r.jam u.tick), graceDeadline := some (u.graceFor r.cause) }).coast) rfl).run
    generalize State.deschedule _ = v at descheduled
    have aborted : (v.discardGrid.abortChange u.run.changing).run.running = u.run.running := by
      have same : v.run.running = u.run.running := (congrArg RunControl.running descheduled :)
      unfold State.abortChange
      split <;> exact same
    generalize v.discardGrid.abortChange u.run.changing = w at aborted
    unfold State.failWaiting
    rw [finishIf_untaken taken aborted (by decide), finishIf_untaken taken aborted (by decide),
      finishIf_untaken taken aborted (by decide), aborted]
  · rw [State.report_later u r stopping]
    rfl

theorem halt_carriedOut (wf : Memory.wf s.memory = true) (read : CommandRead s c (some .halt) k)
    (stops : s.run.state.runs = true ∨ s.run.state = .stopping) :
    ∃ u v t, exec .halt s = .next t ∧ TakenAs s c .halt k u
      ∧ Reported (Report.bare .operator) u v ∧ t.run = v.run.finished
      ∧ t.junction = (v.junction.asked [finishOp k .done 0]).grant ∧ KeepsBut [.run, .junction] v t := by
  obtain ⟨u, taken, found, done⟩ := exec_taken (i := .halt) State.runHalt wf read rfl
  rw [← found.state] at stops
  rw [halt_reports stops, State.succeed] at done
  exact ⟨u, _, _, done, taken, reported _ _, finished_taken taken (report_running taken stops _) .done 0⟩

theorem halt_stopping (wf : Memory.wf s.memory = true) (read : CommandRead s c (some .halt) k)
    (stopping : s.run.state = .stopping) :
    ∃ u t, exec .halt s = .next t ∧ TakenAs s c .halt k u ∧ CarriedOut k .done 0 [] u t
      ∧ t.run = (u.run.afterLater s.tick (Report.bare .operator)).finished := by
  obtain ⟨u, taken, found, done⟩ := exec_taken (i := .halt) State.runHalt wf read rfl
  have state := found.state.trans stopping
  rw [halt_reports (.inr state), State.succeed, State.report_later _ _ state, found.tick] at done
  have later : ∀ r now, (u.run.afterLater now r).running = u.run.running := by
    intro r now
    unfold RunControl.afterLater
    rfl
  have finished := carriedOut_taken (changed := []) (v := u.setRun (u.run.afterLater s.tick (Report.bare .operator)))
    taken (later _ _) rfl (by simp [keepsBut_iff]) rfl .done 0
  exact ⟨u, _, done, taken, finished, (finished_taken (v := u.setRun _) taken (later _ _) .done 0).1⟩

/-- Settles O56. -/
theorem runCommands : Obligations.RunCommands := by
  refine fun s c k wf => ⟨start_carriedOut wf, stop_chain wf, fun read running calm => ?_,
    fun _ read => stop_change wf read, stop_waits wf, halt_carriedOut wf, halt_stopping wf⟩
  obtain ⟨empty, sound, unbroken⟩ := calm
  exact stop_calm wf read running empty sound unbroken

/-! ## PAUSE FEED and RESUME FEED (R161) -/

theorem pauseFeed_carriedOut (wf : Memory.wf s.memory = true) (read : CommandRead s c (some .pauseFeed) k)
    (free : s.run.holds.operator = false) :
    ∃ u t, exec .pauseFeed s = .next t ∧ TakenAs s c .pauseFeed k u ∧ CarriedOut k .done 0 [] u t
      ∧ t.run = { u.run.finished with holds := { s.run.holds with operator := true } } := by
  obtain ⟨u, taken, found, done⟩ := exec_taken (i := .pauseFeed) State.runPauseFeed wf read rfl
  obtain ⟨v, run, keeps, pauses⟩ : ∃ v, v.run = { u.run with holds := { s.run.holds with operator := true } }
      ∧ KeepsBut [.run] u v ∧ State.runPauseFeed (operand1 s c) u = v.finish .done 0 := by
    refine ⟨u.setHolds { s.run.holds with operator := true }, rfl, by simp [keepsBut_iff], ?_⟩
    unfold State.runPauseFeed
    rw [found.holds, if_neg (Bool.eq_false_iff.1 free), State.succeed]
  rw [pauses] at done
  have running : v.run.running = u.run.running := by rw [run]
  exact ⟨u, _, done, taken, carriedOut_taken taken running (keeps .junction (by simp)) (keeps.mono (by simp))
    (keeps .pulses (by simp)) .done 0,
    (finished_taken taken running .done 0).1.trans (congrArg RunControl.finished run)⟩

theorem resumeFeed_carriedOut (wf : Memory.wf s.memory = true) (read : CommandRead s c (some .resumeFeed) k)
    (held : s.run.holds.operator = true) :
    ∃ u t, exec .resumeFeed s = .next t ∧ TakenAs s c .resumeFeed k u
      ∧ EvaluatedAs ((u.setRun { u.run.finished with holds := { s.run.holds with operator := false } }).setJunction
          (u.junction.asked [finishOp k .done 0])) t := by
  obtain ⟨u, taken, found, done⟩ := exec_taken (i := .resumeFeed) State.runResumeFeed wf read rfl
  have resumes : State.runResumeFeed (operand1 s c) u
      = ((u.setHolds { s.run.holds with operator := false }).succeed).evaluate := by
    unfold State.runResumeFeed
    rw [found.holds, if_pos held]
  rw [resumes, State.succeed, finish_taken (v := u.setHolds { s.run.holds with operator := false }) taken rfl] at done
  exact ⟨u, _, done, taken, Agent.evaluatedAs_evaluate (u := (u.setRun _).setJunction _) (pulses_of_taken taken :)⟩

/-! ## CHANGE SPEED (R132, R162) -/

theorem changeSpeed_drains (wf : Memory.wf s.memory = true) (read : CommandRead s c (some .changeSpeed) k)
    {code : SpeedCode} (running : s.run.state = .running) (named : (operand1 s c).toNat = code.val)
    (other : code ≠ s.drive.current) :
    ∃ u, TakenAs s c .changeSpeed k u ∧ Found s u
      ∧ exec .changeSpeed s = .next ((u.enterDraining (some code) .draining).finish .done 0).grant := by
  obtain ⟨u, taken, found, done⟩ := exec_taken (i := .changeSpeed) State.runChangeSpeed wf read rfl
  have small := code.isLt
  have operand : Fin.ofNat 8 (operand1 s c).toNat = code := by
    rw [named]
    simp
  have drains : State.runChangeSpeed (operand1 s c) u = (u.enterDraining (some code) .draining).finish .done 0 := by
    unfold State.runChangeSpeed
    rw [found.state, found.drive, if_neg (not_not_intro running), if_neg (by omega), operand]
    exact if_neg other
  rw [drains] at done
  exact ⟨u, taken, found, done⟩

theorem changeSpeed_chain (wf : Memory.wf s.memory = true) (read : CommandRead s c (some .changeSpeed) k)
    {code : SpeedCode} (running : s.run.state = .running) (named : (operand1 s c).toNat = code.val)
    (other : code ≠ s.drive.current) :
    ∃ u v w x y z t, exec .changeSpeed s = .next t ∧ TakenAs s c .changeSpeed k u
      ∧ v.run = { u.run with state := .draining, drainTarget := some code, changeStatus := .draining }
      ∧ KeepsBut [.run] u v ∧ Deschedules v w ∧ SetExamined w x ∧ DrainExamined x y ∧ Evaluates y z
      ∧ t.run = z.run.finished ∧ t.junction = (z.junction.asked [finishOp k .done 0]).grant
      ∧ KeepsBut [.run, .junction] z t := by
  obtain ⟨u, taken, -, done⟩ := changeSpeed_drains wf read running named other
  obtain ⟨w, x, y, descheduled, set, drain, admission⟩ := enterDraining_chain u (some code) .draining
  exact ⟨u, toDrain u (some code) .draining, w, x, y, _, _, done, taken, rfl, by simp [keepsBut_iff, toDrain],
    descheduled, set, drain, admission, finished_taken taken enterDraining_running .done 0⟩

theorem changeSpeed_calm (wf : Memory.wf s.memory = true) (read : CommandRead s c (some .changeSpeed) k)
    {code : SpeedCode} (running : s.run.state = .running) (named : (operand1 s c).toNat = code.val)
    (other : code ≠ s.drive.current) (empty : s.output.set.state = .empty) (sound : s.output.set.condition = .sound)
    (unbroken : s.output.broken = []) :
    (s.inPath → ∃ u t, exec .changeSpeed s = .next t ∧ TakenAs s c .changeSpeed k u
        ∧ CarriedOut k .done 0 [.plan, .scheduler, .tracker] u t ∧ Descheduled u t
        ∧ t.run = { u.run.finished with state := .draining, drainTarget := some code, changeStatus := .draining }
        ∧ t.scheduler.waitReason = .notRunning ∧ t.scheduler.admissionBounds = s.scheduler.pickBounds)
      ∧ (¬ s.inPath → ∃ u t, exec .changeSpeed s = .next t ∧ TakenAs s c .changeSpeed k u
        ∧ CarriedOut k .done 0 [.plan, .scheduler, .tracker, .drive] u t ∧ Descheduled u t
        ∧ t.run = { u.run.finished with
            state := .respeed, drainTarget := some code, changeStatus := .relocking }
        ∧ t.scheduler.grid = none ∧ t.drive = s.drive.relockTo s.tick code c.lockTimeout) := by
  obtain ⟨u, taken, found, done⟩ := changeSpeed_drains wf read running named other
  have path : u.inPath ↔ s.inPath := by simp only [State.inPath, State.sheet, found.tracker]
  rw [← found.output] at empty sound unbroken
  have alive := enterDraining_running (u := u) (status := .draining) (code := code)
  constructor
  · intro inPath
    obtain ⟨w, descheduled, enters⟩ := enterDraining_inPath (target := some code) (status := .draining) empty sound
      unbroken (path.2 inPath)
    rw [enters] at done alive
    have run : w.run = { u.run with state := .draining, drainTarget := some code, changeStatus := .draining } :=
      descheduled.keeps .run (by simp)
    have kept := toDrain_kept descheduled
    have waits : KeepsBut [.scheduler] w (w.setWaitReason .notRunning) := by simp [keepsBut_iff, State.setWaitReason]
    obtain ⟨finished, -, same⟩ := finished_taken taken alive .done 0
    have scheduled := same .scheduler (by simp)
    refine ⟨u, _, done, taken, carriedOut_taken taken alive (kept .junction (by simp))
        ((kept.trans (waits.mono (by simp))).mono (by simp)) (kept .pulses (by simp)) .done 0,
      descheduled_congr descheduled.descheduled (same .plan (by simp)) (same .tracker (by simp)),
      finished.trans (congrArg RunControl.finished run :), congrArg Scheduler.waitReason scheduled,
      (congrArg Scheduler.admissionBounds scheduled).trans ?_⟩
    exact descheduled.bounds.trans (congrArg Scheduler.pickBounds found.scheduler)
  · intro free
    obtain ⟨w, r, descheduled, turned, grid, drives, kept', enters⟩ := enterDraining_relock (status := .draining)
      (code := code) (found.config.trans read.1) empty sound unbroken (mt path.1 free)
    rw [enters] at done alive
    have drains : w.run = { u.run with state := .draining, drainTarget := some code, changeStatus := .draining } :=
      descheduled.keeps .run (by simp)
    have run : r.run = { u.run with state := .respeed, drainTarget := some code, changeStatus := .relocking } := by
      rw [turned, drains]
    have kept : KeepsBut [.run, .plan, .scheduler, .tracker, .drive] u r :=
      ((toDrain_kept descheduled).mono (by simp)).trans (kept'.mono (by simp))
    obtain ⟨finished, -, same⟩ := finished_taken taken alive .done 0
    refine ⟨u, _, done, taken, carriedOut_taken taken alive (kept .junction (by simp)) (kept.mono (by simp))
        (kept .pulses (by simp)) .done 0,
      descheduled_congr descheduled.descheduled ((same .plan (by simp)).trans (kept' .plan (by simp)))
        ((same .tracker (by simp)).trans (kept' .tracker (by simp))),
      finished.trans (congrArg RunControl.finished run :),
      (congrArg Scheduler.grid (same .scheduler (by simp))).trans grid,
      ?_⟩
    have stood : w.drive = s.drive := ((toDrain_kept descheduled) .drive (by simp)).trans found.drive
    have now : w.tick = s.tick := ((toDrain_kept descheduled) .tick (by simp)).trans found.tick
    exact (same .drive (by simp)).trans (drives.trans (by rw [stood, now]))

/-! ## CANCEL SPEED CHANGE (R134, R162) -/

theorem cancel_drain (wf : Memory.wf s.memory = true) (read : CommandRead s c (some .cancelSpeedChange) k)
    (draining : s.run.state = .draining) (changing : s.run.changeStatus = .draining) :
    ∃ u v, TakenAs s c .cancelSpeedChange k u ∧ v = ((u.setRun { u.run.finished with
        state := .running, changeStatus := .cancelled, drainTarget := none }).setAttention
          (s.attention.withE .speedChangeEnd)).setJunction (u.junction.asked [finishOp k .done 0])
      ∧ u.output = s.output ∧ exec .cancelSpeedChange s = .next v.evaluate.examineSet.grant := by
  obtain ⟨u, taken, found, done⟩ :=
    exec_taken (i := .cancelSpeedChange) State.runCancelSpeedChange wf read rfl
  have resumes : State.runCancelSpeedChange (operand1 s c) u = u.resumeRun := by
    unfold State.runCancelSpeedChange
    rw [found.state, found.status, if_neg (fun outside => outside.1 draining), changing]
  rw [resumes, State.resumeRun, State.succeed, finish_taken (v := (u.endChange .cancelled).enter .running) taken rfl]
    at done
  exact ⟨u, _, taken, rfl, found.output, found.attention ▸ done⟩

theorem cancel_resumes (wf : Memory.wf s.memory = true) (read : CommandRead s c (some .cancelSpeedChange) k)
    (draining : s.run.state = .draining) (changing : s.run.changeStatus = .draining) :
    ∃ u v w x t, exec .cancelSpeedChange s = .next t ∧ TakenAs s c .cancelSpeedChange k u
      ∧ v.run = { u.run.finished with state := .running, changeStatus := .cancelled, drainTarget := none }
      ∧ v.attention = s.attention.withE .speedChangeEnd ∧ v.junction = u.junction.asked [finishOp k .done 0]
      ∧ KeepsBut [.run, .attention, .junction] u v ∧ Evaluates v w ∧ SetExamined w x ∧ Granted x t := by
  obtain ⟨u, v, taken, rfl, -, done⟩ := cancel_drain wf read draining changing
  exact ⟨u, _, _, _, _, done, taken, rfl, rfl, rfl, by simp [keepsBut_iff], evaluates _, setExamined _, granted _⟩

theorem cancel_calm (wf : Memory.wf s.memory = true) (read : CommandRead s c (some .cancelSpeedChange) k)
    (draining : s.run.state = .draining) (changing : s.run.changeStatus = .draining)
    (empty : s.output.set.state = .empty) (sound : s.output.set.condition = .sound) :
    ∃ u t, exec .cancelSpeedChange s = .next t ∧ TakenAs s c .cancelSpeedChange k u
      ∧ EvaluatedAs (((u.setRun { u.run.finished with
          state := .running, changeStatus := .cancelled, drainTarget := none }).setAttention
            (s.attention.withE .speedChangeEnd)).setJunction (u.junction.asked [finishOp k .done 0])) t := by
  obtain ⟨u, v, taken, resumed, output, done⟩ := cancel_drain wf read draining changing
  have same : v.evaluate.output = s.output := by
    simp only [State.evaluate_keeps, resumed]
    exact output
  rw [examineSet_empty (by rw [same]; exact empty) (by rw [same]; exact sound)] at done
  exact ⟨u, _, done, taken, resumed ▸ Agent.evaluatedAs_evaluate (resumed ▸ (pulses_of_taken taken :))⟩

theorem cancel_relock (wf : Memory.wf s.memory = true) (read : CommandRead s c (some .cancelSpeedChange) k)
    (respeed : s.run.state = .respeed) (changing : s.run.changeStatus = .relocking) :
    ∃ u t, exec .cancelSpeedChange s = .next t ∧ TakenAs s c .cancelSpeedChange k u ∧ StaysAccepted [.drive] u t
      ∧ t.run = { u.run with changeStatus := .returning }
      ∧ t.drive = s.drive.relockTo s.tick s.drive.current c.lockTimeout := by
  obtain ⟨u, taken, found, done⟩ :=
    exec_taken (i := .cancelSpeedChange) State.runCancelSpeedChange wf read rfl
  have timeout : u.lockTimeoutTicks = c.lockTimeout := by simp only [State.lockTimeoutTicks, found.config, read.1]
  have turns : State.runCancelSpeedChange (operand1 s c) u = u.commandBack := by
    unfold State.runCancelSpeedChange
    rw [found.state, found.status, if_neg (fun outside => outside.2 respeed), changing]
  rw [turns] at done
  refine ⟨u, _, done, taken, ⟨rfl, rfl, rfl, (pulses_of_taken taken :), KeepsBut.grant ?_ (by simp)⟩, rfl, ?_⟩
  · simp [keepsBut_iff, State.commandBack]
  · rw [← found.drive, ← found.tick, ← timeout]
    rfl

theorem cancel_refused (wf : Memory.wf s.memory = true) (read : CommandRead s c (some .cancelSpeedChange) k)
    (drains : s.run.state = .draining ∨ s.run.state = .respeed) (notDraining : s.run.changeStatus ≠ .draining)
    (notRelocking : s.run.changeStatus ≠ .relocking) :
    ∃ t, exec .cancelSpeedChange s = .next t ∧ OnlyFinishes s c k .refusedState 0 t := by
  refine finishes_read (effect := State.runCancelSpeedChange) wf read rfl ?_
  have state : (s.commandTaken c (some .cancelSpeedChange)).run.state = s.run.state := rfl
  have status : (s.commandTaken c (some .cancelSpeedChange)).run.changeStatus = s.run.changeStatus := rfl
  generalize s.commandTaken c (some .cancelSpeedChange) = u at state status
  unfold State.runCancelSpeedChange
  rw [state, status, if_neg (fun outside => drains.elim outside.1 outside.2)]
  revert notDraining notRelocking
  cases s.run.changeStatus <;> simp

/-- Settles O57. -/
theorem feedAndSpeed : Obligations.FeedAndSpeed := by
  refine fun s c k wf => ⟨pauseFeed_carriedOut wf, resumeFeed_carriedOut wf, fun _ read => changeSpeed_chain wf read,
    fun _ read running named other calm => ?_, cancel_resumes wf, cancel_calm wf, cancel_relock wf, cancel_refused wf⟩
  obtain ⟨empty, sound, unbroken⟩ := calm
  exact changeSpeed_calm wf read running named other empty sound unbroken

end Sys2Proof.Proofs.RunCommands

/-! CLEAR and WITHDRAW carried out: the statements O58 and O59. -/

namespace Sys2Proof.Proofs.ClearAndWithdraw
open Sys2Proof Sys2Proof.Machine Sys2Proof.Proofs.CommandFrames Sys2Proof.Proofs.Invariants
open Sys2Proof.Proofs.Commands Sys2Proof.Proofs.RunCommands

variable {s u : State} {c : Configuration} {k : RunningCommand}

/-! ## WITHDRAW (R35, R36, R164) -/

theorem withdrawFrom_withdraws (u : State) (q : Nat) {gone : List PlanEntry}
    (found : u.plan.queue.filter (fun e => decide (q ≤ e.sequence)) = gone) :
    Withdraws gone (u.plan.queue.filter (fun e => decide (e.sequence < q)))
      (if ∃ e ∈ gone, e.sequence = u.plan.lastAccepted then none else u.plan.tail) u (u.withdrawFrom q) := by
  have stays : u.plan.queue.filter (fun e => decide (e.sequence < q))
      = u.plan.queue.filter (fun e => !decide (q ≤ e.sequence)) := by
    refine List.filter_congr fun e _ => ?_
    rw [← decide_not]
    exact decide_eq_decide.2 Nat.not_le.symm
  rw [stays]
  unfold State.withdrawFrom
  simp only [found, List.any_eq_true, beq_iff_eq]
  exact withdraws u _ _ _

theorem cutBy_cons (first : PlanEntry) (others : List PlanEntry) :
    cutBy (first :: others) = if 1 < first.k then some first else none := rfl

/-- Settles O59. -/
theorem withdrawEffect : Obligations.WithdrawEffect := by
  intro s c k first others wf read q nonzero found gone
  obtain ⟨u, taken, stands, done⟩ := exec_taken (i := .withdraw) State.runWithdraw wf read rfl
  have plan := stands.plan
  have withdrawn := withdrawFrom_withdraws u q ((congrArg (fun p : PlanIntake =>
    p.queue.filter (fun e => decide (q ≤ e.sequence))) plan).trans found)
  rw [plan] at withdrawn
  have kept : (u.withdrawFrom q).run.running = u.run.running := by simp
  unfold State.runWithdraw at done
  rw [if_neg (fun zero => nonzero (by simp [q, zero])), plan, found] at done
  by_cases cuts : 1 < first.k
  · have finishes : exec .withdraw s = .next
        (((u.withdrawFrom q).breakCopy first.copy first.mode).finish .done (gone.length + 0x8000)).grant := by
      simpa [cutBy_cons, cuts, gone, q] using done
    rw [if_pos cuts]
    exact ⟨u, _, _, _, finishes, taken, withdrawn, fun uncut => absurd cuts (Nat.not_lt.2 uncut),
      fun _ => breaksCopy _ _ _, finished_taken taken (by simp) .done _⟩
  · have finishes : exec .withdraw s = .next ((u.withdrawFrom q).finish .done gone.length).grant := by
      simpa [cutBy_cons, cuts, gone, q] using done
    rw [if_neg cuts]
    exact ⟨u, _, _, _, finishes, taken, withdrawn, fun _ => .refl, fun cut => absurd cut cuts,
      finished_taken taken kept .done _⟩

/-! ## The STRANDED sheets of a CLEAR (R145) -/

theorem stranded_recorded (u : State) (d : Disposition) (front back : Option BufferNo) (last : Option Sensor) :
    ∃ v w, DropsLost (usesOf [(front, back)]) u v ∧ HandsOver ⟨u.tick, .stranded d last⟩ v w
      ∧ (u.disposeStranded d front back last).run = { w.run with outstanding := u.run.outstanding + 1 }
      ∧ KeepsBut [.run] w (u.disposeStranded d front back last) := by
  have now : (u.dropSides false front back).tick = u.tick := by simp
  have handed := handsOver (u.dropSides false front back) (.stranded d last) u.tick
  refine ⟨u.dropSides false front back, (u.dropSides false front back).record (.stranded d last),
    dropsLost1 u front back, ?_, ?_, by simp [keepsBut_iff, State.disposeStranded]⟩
  · rw [State.record, now]
    exact handed
  · simp [State.disposeStranded]

theorem freeStranded_each (gone : List (Handle × Sheet)) (u : State) :
    Each StrandedLeaves gone u (u.freeStranded gone) := by
  induction gone generalizing u with
  | nil => exact .refl
  | cons x rest ih =>
    obtain ⟨h, sh⟩ := x
    obtain ⟨v, w, dropped, handed, run, keeps⟩ := stranded_recorded
      ((u.putSheet h none).putTimers h SheetTimers.none) sh.plan.disposition sh.plan.front sh.plan.back sh.lastSensor
    exact ⟨_, ⟨_, v, w, _, handleFreed u h, dropped, handed, run, keeps, copyExamined _ _⟩, ih _⟩

theorem breakAll_each (copies : List (Copy × OutputMode)) (u : State) :
    Each (fun p => BreaksCopy p.1 p.2) copies u (u.breakAll copies) := by
  induction copies generalizing u with
  | nil => exact .refl
  | cons p rest ih => exact ⟨_, breaksCopy _ _ _, ih _⟩

theorem copiesOf_eq (gone : List (Handle × Sheet)) :
    copiesOf gone = firstOfEach (gone.map (fun p => (p.2.plan.copy, p.2.plan.mode))) := by
  induction gone with
  | nil => rfl
  | cons x rest ih => rw [copiesOf, ih, List.map_cons, firstOfEach]

theorem strandedSheets_eq (u : State) : u.strandedSheets = (List.finRange 16).filterMap (fun h =>
    ((u.sheet h).filter (fun sh => sh.state == .stranded)).map (fun sh => (h, sh))) := by
  unfold State.strandedSheets
  rw [Admission.indices_eq]
  refine List.filterMap_congr fun h _ => ?_
  cases u.sheet h with
  | none => rfl
  | some sh => by_cases stranded : sh.state = .stranded <;> simp [stranded]

/-! ## The set and the gates at a CLEAR (R104, R115) -/

theorem strandMembers_each (last : Sensor) (members : List Member) (u : State) :
    Each (MemberStranded last) members u (u.strandMembers last members) := by
  induction members generalizing u with
  | nil => exact .refl
  | cons m rest ih => exact ⟨_, stranded_recorded u m.disposition m.front m.back (some last), ih _⟩

theorem breaksSet (u : State) : BreaksSet u u.breakSet := by
  unfold BreaksSet State.breakSet
  cases u.output.set.copy with
  | none => simpa using KeepsBut.refl
  | some d => simpa using breaksCopy u d .set

theorem dropCommitted_output (u : State) (copy : Option Copy) : (u.dropCommitted copy).output
    = { u.output with committed := match u.output.committed with
        | some (a, k) => if copy = some a then none else some (a, k)
        | none => none } := by
  unfold State.dropCommitted OutputUnit.committedFor
  obtain ⟨o, ho⟩ : ∃ o, o = u.output := ⟨_, rfl⟩
  rw [← ho]
  cases copy with
  | none =>
    cases held : o.committed with
    | none => simp [← ho, ← held]
    | some p => simp [← ho, ← held]
  | some d =>
    cases held : o.committed with
    | none => simp [← ho, ← held]
    | some p =>
      by_cases same : p.1 = d
      · simp [same]
      · have other : d ≠ p.1 := fun e => same e.symm
        simp [same, other, ← held, ← ho]

theorem setCleared (u : State) : SetCleared u u.clearSet := by
  refine ⟨fun scattered => ?_, fun disturbed => ?_, fun sound => ?_⟩
  · have last : u.output.set.lastSensor = match u.output.set.arrived, u.output.set.destination with
        | true, some .k1 => .K1
        | true, some .k2 => .K2
        | true, some .purge => .PB
        | _, _ => .AC := by
      unfold SetRecord.lastSensor
      cases u.output.set.arrived with
      | false => rfl
      | true =>
        cases u.output.set.destination with
        | none => rfl
        | some d => cases d <;> rfl
    have stranded := strandMembers_each u.output.set.lastSensor (u.output.set.members ++ u.output.set.overruns) u
    have clears : u.clearSet = ((u.strandMembers u.output.set.lastSensor
        (u.output.set.members ++ u.output.set.overruns)).breakSet.emptySet).dropCommitted u.output.set.copy := by
      simp only [State.clearSet, scattered]
    have broken := breaksSet (u.strandMembers u.output.set.lastSensor (u.output.set.members ++ u.output.set.overruns))
    generalize State.breakSet _ = w at broken clears
    rw [last] at stranded
    rw [last] at broken
    refine ⟨_, w, stranded, broken, ?_, ?_⟩
    · rw [clears, dropCommitted_output]
      rfl
    · rw [clears]
      simp [keepsBut_iff, State.emptySet, State.modifySet]
  · refine ⟨_, (u.breakSet).modifySet (fun r => { r with broken := true }), breaksSet _, rfl,
      by simp [keepsBut_iff, State.modifySet], ?_⟩
    simp only [State.clearSet, disturbed]
    exact dumpExamined _
  · simp only [State.clearSet, sound]
    exact dumpExamined _

theorem settled {α : Type} (g : Gate α) : g.Settled g.settle := by
  unfold Gate.Settled Gate.settle
  cases g.pending <;> rfl

/-! ## CLEAR (R145, R163) -/

theorem carryOutClear_chain {gone : List (Handle × Sheet)} (found : (u.enter .clearing).strandedSheets = gone) :
    ∃ v w x y z a e : State, v.run = { u.run with state := .clearing } ∧ KeepsBut [.run] u v
      ∧ Each StrandedLeaves gone v w
      ∧ Each (fun p => BreaksCopy p.1 p.2) (firstOfEach (gone.map (fun p => (p.2.plan.copy, p.2.plan.mode)))) w x
      ∧ y.run = { x.run with clearanceMark := false } ∧ KeepsBut [.run] x y ∧ SetCleared y z
      ∧ z.output.loopGate.Settled a.output.loopGate ∧ z.output.routeGate.Settled a.output.routeGate
      ∧ a.output = { z.output with loopGate := a.output.loopGate, routeGate := a.output.routeGate }
      ∧ KeepsBut [.output] z a ∧ Evaluates a e ∧ ClearanceExamined e u.carryOutClear := by
  unfold State.carryOutClear
  simp only [found, copiesOf_eq]
  have leaves := freeStranded_each gone (u.enter .clearing)
  generalize (u.enter .clearing).freeStranded gone = w at leaves
  have breaks := breakAll_each (firstOfEach (gone.map (fun p => (p.2.plan.copy, p.2.plan.mode)))) w
  generalize w.breakAll _ = x at breaks
  have cleared := setCleared x.clearMark
  generalize x.clearMark.clearSet = z at cleared
  exact ⟨u.enter .clearing, w, x, x.clearMark, z, z.settleGates, _, rfl, by simp [keepsBut_iff, State.enter], leaves,
    breaks, rfl, by simp [keepsBut_iff, State.clearMark], cleared, settled _, settled _, rfl,
    by simp [keepsBut_iff, State.settleGates, State.loopGate, State.routeGate], evaluates _, clearanceExamined _⟩

/-- Settles O58. -/
theorem clearCarriedOut : Obligations.ClearCarriedOut := by
  intro s c k wf read may uncovered closed gone
  obtain ⟨u, taken, stands, done⟩ := exec_taken (i := .clear) State.runClear wf read rfl
  have allowed : u.clearAllowed = true := by
    rw [clearAllowed_iff, stands.state, stands.mark]
    exact may
  have path : u.pathClear = true := (found_pathClear stands).trans ((pathClear_iff s).2 ⟨uncovered, closed⟩)
  have clears : State.runClear (operand1 s c) u = u.carryOutClear := by
    unfold State.runClear
    rw [allowed, path]
    rfl
  have found : (u.enter .clearing).strandedSheets = gone := by
    rw [strandedSheets_eq]
    simp only [State.sheet, State.enter, State.setRun, stands.tracker, gone]
  obtain ⟨v, w, x, y, z, a, e, run, entered, leaves, breaks, unmarked, marked, cleared, loop, route, gates, settles,
    admission, ends⟩ := carryOutClear_chain found
  rw [clears] at done
  exact ⟨u, v, w, x, y, z, a, _, _, done, taken, run, entered, leaves, breaks, unmarked, marked, cleared, loop, route,
    gates, settles, ⟨e, admission, ends⟩, granted _⟩

end Sys2Proof.Proofs.ClearAndWithdraw

/-! The answers to view reads, and the reads that are events: CLAIM, the summaries and the capture (11.4): the first
parts of the statement O46. -/

namespace Sys2Proof.Proofs.ViewAnswers
open Sys2Proof Sys2Proof.Machine Sys2Proof.Proofs.CommandFrames Sys2Proof.Proofs.Invariants
open Sys2Proof.Proofs.Accesses

variable {s : State} {c : Configuration} {d : Descriptor} {p : Port} {a : Access} {o : Nat}

/-! ## A view read judged and answered (R182) -/

/-- The offset of the view window at which a read begins. -/
def offsetIn (d : Descriptor) (a : Access) : Nat := a.addr.toNat - d.base

theorem judge_viewRead (read : ViewRead s c d p a o) : s.judge p a = .views (offsetIn d a) := by
  obtain ⟨config, -, loads, single, applies, view, -, -⟩ := read
  rw [judge_applies config applies, if_neg (by simp [loads])]
  unfold judgeRead
  rw [if_pos view, if_neg single]
  rfl

theorem presents_viewRead (read : ViewRead s c d p a o) : s.Presents p a := read.2.1

theorem shows_viewRead (read : ViewRead s c d p a o) : a.shows d.base o := by
  obtain ⟨-, -, -, -, -, -, -, shows⟩ := read
  exact shows

theorem base_le (read : ViewRead s c d p a o) : d.base ≤ a.addr.toNat := by
  obtain ⟨-, -, -, -, ⟨_, -, ⟨-, above, -, -⟩, -⟩, -⟩ := read
  exact above

theorem viewRead_get (u : State) (p : Port) {start n i : Nat} (hi : i < n) :
    (u.viewRead p start n)[i]? = some (u.viewByte p (start + i)) := by
  induction n generalizing start i with
  | zero => omega
  | succ n ih =>
    cases i with
    | zero => rfl
    | succ i =>
      refine (ih (start := start + 1) (i := i) (by omega)).trans ?_
      rw [Nat.add_right_comm, Nat.add_assoc]

theorem length_viewRead (u : State) (p : Port) (start n : Nat) : (u.viewRead p start n).length = n := by
  induction n generalizing start with
  | zero => rfl
  | succ n ih => simp [State.viewRead, ih]

theorem response_grant (j : Junction) (p : Port) : j.grant.response p = j.response p := by
  unfold Junction.grant
  split
  · rfl
  · split <;> rfl

theorem response_grant_setResponse (j : Junction) (p : Port) (r : Option Response) :
    ((j.setResponse p r).grant).response p = r := by
  rw [response_grant]
  cases p <;> rfl

/-- What a view read shows is the byte of the view at the offset, from the state before its effects (R182). -/
theorem showsByte_of_response {t : State} (read : ViewRead s c d p a o) {j : Junction}
    (answered : t.junction
      = (j.setResponse p (some ⟨true, s.begin.viewRead p (offsetIn d a) a.size.bytes⟩)).grant) :
    ShowsByte t d p a o (s.begin.viewByte p o) := by
  have above := base_le read
  obtain ⟨-, -, -, -, -, -, -, first, last⟩ := read
  refine ⟨_, (congrArg (fun j : Junction => j.response p) answered).trans (response_grant_setResponse _ _ _),
    length_viewRead _ _ _ _, ?_⟩
  rw [viewRead_get _ _ (by omega), offsetIn, show a.addr.toNat - d.base + (d.base + o - a.addr.toNat) = o by omega]

/-! ## The event cells that a read includes (R182) -/

theorem readBy_iff {v : ViewCell} (above : d.base ≤ a.addr.toNat) :
    v.readBy (offsetIn d a) a.size.bytes = true ↔ a.shows d.base v.offset := by
  unfold ViewCell.readBy offsetIn Access.shows
  rw [Bool.and_eq_true, decide_eq_true_iff, decide_eq_true_iff]
  omega

/-- An aligned read of the view lies within eight aligned bytes. -/
theorem shown_block (read : ViewRead s c d p a o) {x : Nat} (shown : a.shows d.base x) : x / 8 = offsetIn d a / 8 := by
  have above := base_le read
  obtain ⟨-, ⟨wf, -⟩, -, single, -, -, based, -⟩ := read
  obtain ⟨first, last⟩ := shown
  simp only [Access.wf, Access.aligned, Bool.and_eq_true, beq_iff_eq] at wf
  obtain ⟨aligned, -⟩ := wf
  unfold offsetIn
  cases size : a.size with
  | burst => exact absurd size single
  | _ =>
    rw [size] at aligned last
    simp only [AccessSize.bytes] at aligned last
    omega

/-- No two event cells share eight aligned bytes, so a read that includes one includes no other. -/
theorem readBy_one {v w : ViewCell} (read : ViewRead s c d p a v.offset) :
    w.readBy (offsetIn d a) a.size.bytes = decide (w = v) := by
  have apart : ∀ v w : ViewCell, w.offset / 8 = v.offset / 8 → w = v := by
    intro v w
    cases v <;> cases w <;> decide
  have shows := shows_viewRead read
  rw [Bool.eq_iff_iff, readBy_iff (base_le read), decide_eq_true_eq]
  refine ⟨fun also => apart v w ((shown_block read also).trans (shown_block read shows).symm), ?_⟩
  rintro rfl
  exact shows

theorem readCells_one (u : State) {v : ViewCell} (read : ViewRead s c d p a v.offset) :
    u.readCells p (offsetIn d a) a.size.bytes ViewCell.all = u.readCell p v := by
  simp only [ViewCell.all, State.readCells, readBy_one read]
  cases v <;> rfl

theorem readCells_silent {u : State} {offset n : Nat} {cells : List ViewCell}
    (silent : ∀ v ∈ cells, v.readBy offset n = true → u.readCell p v = u) : u.readCells p offset n cells = u := by
  induction cells with
  | nil => rfl
  | cons v vs ih =>
    have here : (if v.readBy offset n then u.readCell p v else u) = u := by
      split
      · next included => exact silent v (by simp) included
      · rfl
    rw [State.readCells, here]
    exact ih fun w mem => silent w (by simp [mem])

/-! ## The answers by the row that names the read (R177, R182) -/

/-- The data with which a view read is answered. -/
def answerData (s : State) (d : Descriptor) (p : Port) (a : Access) : List Byte :=
  s.begin.viewRead p (offsetIn d a) a.size.bytes

theorem exec_viewRead (read : ViewRead s c d p a o) : exec (.upstreamAccess p a) s
    = .next ((s.begin.readCells p (offsetIn d a) a.size.bytes ViewCell.all).respond p true
        (answerData s d p a)).grant := by
  rw [exec_upstreamAccess (presents_viewRead read), judge_viewRead read]
  rfl

/-- A row that names an event cell has the effect of that cell's read alone. -/
theorem exec_cellRead {row : Instr} {v : ViewCell} (read : ViewRead s c d p a v.offset)
    (named : exec row s = .next (s.begin.takeAccessIf p a (Judgement.reads v a.size.bytes)).grant) :
    exec row s = .next ((s.begin.readCell p v).respond p true (answerData s d p a)).grant := by
  rw [named, takeAccessIf_of_kind (presents_viewRead read) (judge_viewRead read)
    ((readBy_iff (base_le read)).2 (shows_viewRead read))]
  exact congrArg (fun u : State => Host.Outcome.next (u.respond p true (answerData s d p a)).grant)
    (readCells_one s.begin read)

/-- A view read of no cell whose read is this port's event is answered and does nothing else. -/
theorem exec_silentRead (read : ViewRead s c d p a o)
    (silent : ∀ v ∈ ViewCell.all, a.shows d.base v.offset → s.begin.readCell p v = s.begin) :
    ∃ t, exec (.upstreamAccess p a) s = .next t ∧ AnsweredBy s p (answerData s d p a) t
      ∧ ∀ x, ViewRead s c d p a x → ShowsByte t d p a x (s.begin.viewByte p x) := by
  have still : s.begin.readCells p (offsetIn d a) a.size.bytes ViewCell.all = s.begin :=
    readCells_silent fun v mem included => silent v mem ((readBy_iff (base_le read)).1 included)
  have done := exec_viewRead read
  rw [still] at done
  exact ⟨_, done, actsOn_begin [] (s.setJunction _), fun x shown => showsByte_of_response shown rfl⟩

/-! ## Tables of the view -/

/-- From an offset up, the view shows the bytes of a list to each port. -/
def ShowsFrom (s : State) (start : Nat) (l : Port → List Byte) : Prop :=
  ∀ p i x, (l p)[i]? = some x → s.begin.viewByte p (start + i) = x

theorem byte_of_field {start n v i : Nat} {l : Port → List Byte} (table : ShowsFrom s start l)
    (field : Field (l p) (o - start) n v) (from_start : start ≤ o) (hi : i < n) :
    s.begin.viewByte p (o + i) = BitVec.ofNat 8 (v / 256 ^ i) := by
  rw [← table p (o - start + i) _ (field i hi), show start + (o - start + i) = o + i by omega]

/-- A field of a table is shown at its place. -/
theorem shows_of_field {start n v : Nat} {l : Port → List Byte} (table : ShowsFrom s start l)
    (field : ∀ p, Field (l p) (o - start) n v) (from_start : start ≤ o) : Shows s c d o n v := by
  intro p a i hi read
  refine ⟨_, exec_viewRead read, ?_⟩
  rw [← byte_of_field table (field p) from_start hi]
  exact showsByte_of_response read rfl

/-- The bytes of a field from one of them on are a field. -/
theorem field_part {l : List Byte} {n v k m : Nat} (whole : Field l o n v) (within : k + m ≤ n) :
    Field l (o + k) m (v / 256 ^ k) := fun i hi => by
  rw [Nat.add_assoc, whole (k + i) (by omega), Nat.div_div_eq_div_mul, ← Nat.pow_add]

theorem singleton_eq_toBytes (x : Byte) : [x] = toBytes 1 x.toNat := by
  simp [toBytes]

/-! ## The cells at the base (R194) -/

theorem pickByte_eq {l : List Byte} {i : Nat} {x : Byte} (here : l[i]? = some x) : pickByte l i = x := by
  simp [pickByte, here]

theorem lt_length {l : List Byte} {i : Nat} {x : Byte} (here : l[i]? = some x) : i < l.length :=
  (List.getElem?_eq_some_iff.1 here).1

theorem base_table (s : State) : ShowsFrom s 0 s.begin.viewBase := by
  intro p i x here
  have small := lt_length here
  simp only [State.viewBase, fieldWord, List.length_append, Records.length_toBytes, List.length_singleton] at small
  rw [Nat.zero_add]
  unfold State.viewByte
  rw [if_pos (by omega)]
  exact pickByte_eq here

theorem viewBase_fields (u : State) (p : Port) :
    let has := Field (u.viewBase p)
    has 0 4 u.tick.toNat ∧ has 4 1 (u.claimByte p).toNat ∧ has 5 3 0 ∧ has 8 4 0 ∧ has 12 4 u.attention.e.code
      ∧ has 16 4 u.attention.p.code
      ∧ has 20 4 (match u.junction.latch with | some x => x.address.toNat | none => 0)
      ∧ has 24 4 (match u.junction.latch with | some x => x.second | none => 0)
      ∧ has 28 4 u.junction.lastResult.toNat := by
  intro has
  refine ⟨?_, ?_, ?_, ?_, ?_, ?_, ?_, ?_, ?_⟩
  all_goals simp only [has, State.viewBase, singleton_eq_toBytes, fieldWord, List.append_assoc, Records.field_after,
    Nat.reduceLeDiff, Nat.reduceSub]
  case refine_9 => exact Records.field_last _ _
  all_goals exact Records.field_here _ _ _

/-- Byte 0 of a cell at the base. -/
theorem base_byte {n v m : Nat} (field : Field (s.begin.viewBase p) o n v) (first : 0 < n) (low : v % 256 = m % 256) :
    s.begin.viewByte p o = BitVec.ofNat 8 m := by
  have shown := byte_of_field (base_table s) (i := 0) field (Nat.zero_le o) first
  rw [Nat.add_zero, Nat.pow_zero, Nat.div_one] at shown
  rw [shown]
  exact BitVec.eq_of_toNat_eq (by simpa using low)

/-! ## CLAIM (R41, R42) -/

/-- A claim can take the buffer: it is FREE and below the configured count. -/
def isFree (s : State) (c : Configuration) (b : BufferNo) : Prop := b.val < c.bufferCount ∧ (s.buffer b).state = .free

theorem isFree_iff (config : s.config = some c) (b : BufferNo) :
    (decide (b.val < s.bufferCount) && (s.buffer b).state == .free) = true ↔ isFree s c b := by
  have count : s.bufferCount = c.bufferCount := by simp only [State.bufferCount, config]
  simp [isFree, count]

theorem lowestFree_eq_none (config : s.config = some c) : s.lowestFree = none ↔ ∀ b, ¬ isFree s c b := by
  unfold State.lowestFree
  simp only [Admission.firstIndex_eq_none, ← isFree_iff config, Bool.not_eq_true]

theorem lowestFree_eq_some (config : s.config = some c) {b : BufferNo} :
    s.lowestFree = some b ↔ isFree s c b ∧ ∀ k, k < b → ¬ isFree s c k := by
  unfold State.lowestFree
  simp only [Admission.firstIndex_eq_some, ← isFree_iff config, Bool.not_eq_true]

theorem claim_byte (p : Port) : s.begin.viewByte p 4 = s.begin.claimByte p := by
  obtain ⟨-, claim, -⟩ := viewBase_fields s.begin p
  exact (base_byte claim (by omega) rfl).trans (by simp)

/-- A claim read is answered with the byte of the claim and leaves the buffers as the claim does (R41). -/
theorem claim_answered (read : ViewRead s c d .P a 4) {answer : Byte} {u : State}
    (claims : s.begin.claimBuffer = (answer, u)) (junction : u.junction = s.junction)
    (keeps : KeepsBut [.buffers, .pulses] s u) (silent : u.pulses = []) :
    ∃ t, exec (.claim a) s = .next t
      ∧ (KeepsBut [.junction, .pulses, .buffers] s t ∧ t.pulses = []
        ∧ ∃ data, t.junction = (s.junction.setResponse .P (some ⟨true, data⟩)).grant)
      ∧ ShowsByte t d .P a 4 answer ∧ t.buffers = u.buffers := by
  have done := exec_cellRead (v := .claim) (row := .claim a) read rfl
  have effect : s.begin.readCell .P .claim = u := congrArg Prod.snd claims
  have byte : s.begin.viewByte .P 4 = answer := (claim_byte .P).trans (congrArg Prod.fst claims)
  rw [effect] at done
  have answered : ((u.respond .P true (answerData s d .P a)).grant).junction
      = (s.junction.setResponse .P (some ⟨true, answerData s d .P a⟩)).grant := by rw [← junction]; rfl
  refine ⟨_, done, ⟨KeepsBut.grant ((keeps.mono (by simp)).trans (by simp [keepsBut_iff, State.respond])) (by simp),
    silent, _, answered⟩, byte ▸ showsByte_of_response read answered, rfl⟩

/-- An inspection is answered with the lowest FREE buffer and changes nothing (R42). -/
theorem inspection_answered (read : ViewRead s c d .E a 4) :
    ∃ t, exec (.claimInspection a) s = .next t
      ∧ (KeepsBut [.junction, .pulses, .buffers] s t ∧ t.pulses = []
        ∧ ∃ data, t.junction = (s.junction.setResponse .E (some ⟨true, data⟩)).grant)
      ∧ ShowsByte t d .E a 4 s.inspectClaim ∧ t.buffers = s.buffers := by
  have done := exec_cellRead (v := .claim) (row := .claimInspection a) read rfl
  have byte : s.begin.viewByte .E 4 = s.inspectClaim := claim_byte .E
  exact ⟨_, done, ⟨KeepsBut.grant (by simp [keepsBut_iff, State.respond, State.readCell]) (by simp), rfl, _, rfl⟩,
    byte ▸ showsByte_of_response read rfl, rfl⟩

theorem claimReads (read : ViewRead s c d p a 4) :
    let openCount := (s.buffers.table.toList.filter (fun x => x.state == .filling || x.state == .closing)).length
    let only := fun (t : State) => KeepsBut [.junction, .pulses, .buffers] s t ∧ t.pulses = []
      ∧ ∃ data, t.junction = (s.junction.setResponse p (some ⟨true, data⟩)).grant
    (p = .P → (∀ b, ¬ isFree s c b) → ∃ t, exec (.claim a) s = .next t ∧ only t ∧ ShowsByte t d p a 4 0xFF
      ∧ t.buffers = { s.buffers with claimWaiting := true })
    ∧ (∀ b, p = .P → isFree s c b → openCount = 16 → ∃ t, exec (.claim a) s = .next t ∧ only t
      ∧ ShowsByte t d p a 4 0xFE ∧ t.buffers = { s.buffers with claimWaiting := true })
    ∧ (∀ b, p = .P → isFree s c b → (∀ k, k < b → ¬ isFree s c k) → openCount < 16 →
      ∃ t, exec (.claim a) s = .next t ∧ only t ∧ ShowsByte t d p a 4 (BitVec.ofNat 8 b.val)
        ∧ t.buffer b = { Buffer.free with state := .filling } ∧ (∀ k, k ≠ b → t.buffer k = s.buffer k)
        ∧ t.buffers.claimWaiting = false)
    ∧ (p = .E → (∀ b, ¬ isFree s c b) → ∃ t, exec (.claimInspection a) s = .next t ∧ only t
      ∧ ShowsByte t d p a 4 0xFF ∧ t.buffers = s.buffers)
    ∧ (∀ b, p = .E → isFree s c b → (∀ k, k < b → ¬ isFree s c k) →
      ∃ t, exec (.claimInspection a) s = .next t ∧ only t ∧ ShowsByte t d p a 4 (BitVec.ofNat 8 b.val)
        ∧ t.buffers = s.buffers) := by
  have config := read.1
  have lowest : s.begin.lowestFree = s.lowestFree := rfl
  have opens : s.begin.buffers.openCount
      = (s.buffers.table.toList.filter (fun x => x.state == .filling || x.state == .closing)).length := rfl
  refine ⟨?_, ?_, ?_, ?_, ?_⟩
  · rintro rfl none
    have claims : s.begin.claimBuffer = (0xFF, s.begin.setClaimWaiting true) := by
      simp only [State.claimBuffer, lowest, (lowestFree_eq_none config).2 none]
    exact claim_answered read claims rfl (by simp [keepsBut_iff, State.setClaimWaiting]) rfl
  · rintro b rfl free full
    have claims : s.begin.claimBuffer = (0xFE, s.begin.setClaimWaiting true) := by
      cases found : s.lowestFree with
      | none => exact absurd free ((lowestFree_eq_none config).1 found b)
      | some k => simp only [State.claimBuffer, lowest, found, opens, if_pos full]
    exact claim_answered read claims rfl (by simp [keepsBut_iff, State.setClaimWaiting]) rfl
  · rintro b rfl free first room
    have claims : s.begin.claimBuffer = (BitVec.ofNat 8 b.val,
        (s.begin.putBuffer b { Buffer.free with state := .filling }).setClaimWaiting false) := by
      simp only [State.claimBuffer, lowest, (lowestFree_eq_some config).2 ⟨free, first⟩, opens,
        if_neg (Nat.ne_of_lt room)]
    obtain ⟨t, done, only, byte, buffers⟩ := claim_answered read claims rfl
      (by simp [keepsBut_iff, State.setClaimWaiting, State.putBuffer]) rfl
    have buffer (k : BufferNo) : t.buffer k
        = ((s.begin.putBuffer b { Buffer.free with state := .filling }).setClaimWaiting false).buffer k :=
      congrArg (fun r : Residency => r.table[k]) buffers
    refine ⟨t, done, only, byte, (buffer b).trans (put_same _ _ _),
      fun k other => (buffer k).trans (put_other _ _ _ _ other), congrArg Residency.claimWaiting buffers⟩
  · rintro rfl none
    obtain ⟨t, done, only, byte, buffers⟩ := inspection_answered read
    rw [State.inspectClaim, (lowestFree_eq_none config).2 none] at byte
    exact ⟨t, done, only, byte, buffers⟩
  · rintro b rfl free first
    obtain ⟨t, done, only, byte, buffers⟩ := inspection_answered read
    rw [State.inspectClaim, (lowestFree_eq_some config).2 ⟨free, first⟩] at byte
    exact ⟨t, done, only, byte, buffers⟩

/-! ## The summaries and the capture (R175, R183) -/

/-- What the read of an event cell leaves, answered by the row that names it. -/
theorem event_answered {row : Instr} {v : ViewCell} {j : Junction} (read : ViewRead s c d p a v.offset)
    (named : exec row s = .next (s.begin.takeAccessIf p a (Judgement.reads v a.size.bytes)).grant)
    (junction : (s.begin.readCell p v).junction = j) (silent : (s.begin.readCell p v).pulses = [])
    (keeps : KeepsBut [.junction, .pulses, .attention] s (s.begin.readCell p v)) :
    ∃ t, exec row s = .next t
      ∧ (KeepsBut [.junction, .pulses, .attention] s t ∧ t.pulses = []
        ∧ ∃ data, t.junction = (j.setResponse p (some ⟨true, data⟩)).grant)
      ∧ ShowsByte t d p a v.offset (s.begin.viewByte p v.offset) ∧ t.attention = (s.begin.readCell p v).attention := by
  have done := exec_cellRead read named
  generalize s.begin.readCell p v = u at done junction silent keeps
  subst junction
  exact ⟨_, done, ⟨KeepsBut.grant (keeps.trans (by simp [keepsBut_iff, State.respond])) (by simp), silent, _, rfl⟩,
    showsByte_of_response read rfl, rfl⟩

theorem eSummary_byte (s : State) (p : Port) : s.begin.viewByte p 0x0C = BitVec.ofNat 8 s.attention.e.code := by
  obtain ⟨-, -, -, -, summary, -⟩ := viewBase_fields s.begin p
  exact base_byte summary (by omega) rfl

theorem pSummary_byte (s : State) (p : Port) : s.begin.viewByte p 0x10 = BitVec.ofNat 8 s.attention.p.code := by
  obtain ⟨-, -, -, -, -, summary, -⟩ := viewBase_fields s.begin p
  exact base_byte summary (by omega) rfl

theorem capture_byte (s : State) (p : Port) : s.begin.viewByte p 0x18
    = BitVec.ofNat 8 (match s.junction.latch with | some x => x.cause.code | none => 0) := by
  obtain ⟨-, -, -, -, -, -, -, second, -⟩ := viewBase_fields s.begin p
  refine base_byte second (by omega) ?_
  show (match s.junction.latch with | some x => x.second | none => 0) % 256 = _
  cases s.junction.latch with
  | none => rfl
  | some x => exact Nat.add_mul_mod_self_left _ _ _

/-- The read of an event cell by the port that it is no event for. -/
theorem other_answered {v : ViewCell} (read : ViewRead s c d p a v.offset) (silent : s.begin.readCell p v = s.begin) :
    ∃ t data, exec (.upstreamAccess p a) s = .next t ∧ AnsweredBy s p data t
      ∧ ShowsByte t d p a v.offset (s.begin.viewByte p v.offset) := by
  have alone : ∀ w ∈ ViewCell.all, a.shows d.base w.offset → s.begin.readCell p w = s.begin := by
    intro w _ also
    have same : w = v := of_decide_eq_true ((readBy_one read).symm.trans ((readBy_iff (base_le read)).2 also))
    exact same ▸ silent
  obtain ⟨t, done, answered, shows⟩ := exec_silentRead read alone
  exact ⟨t, _, done, answered, shows _ read⟩

theorem plain_answered (read : ViewRead s c d p a o)
    (claimant : p = .P → ¬ a.shows d.base 4 ∧ ¬ a.shows d.base 0x10) (engine : p = .E → ¬ a.shows d.base 0x0C)
    (capture : ¬ a.shows d.base 0x18) :
    ∃ t data, exec (.upstreamAccess p a) s = .next t ∧ AnsweredBy s p data t ∧ data.length = a.size.bytes := by
  have silent : ∀ v ∈ ViewCell.all, a.shows d.base v.offset → s.begin.readCell p v = s.begin := by
    intro v _ shown
    cases p with
    | E =>
      cases v with
      | eSummary => exact absurd shown (engine rfl)
      | capture => exact absurd shown capture
      | claim => rfl
      | pSummary => rfl
    | P =>
      cases v with
      | claim => exact absurd shown (claimant rfl).1
      | pSummary => exact absurd shown (claimant rfl).2
      | capture => exact absurd shown capture
      | eSummary => rfl
  obtain ⟨t, done, answered, -⟩ := exec_silentRead read silent
  exact ⟨t, _, done, answered, length_viewRead _ _ _ _⟩

end Sys2Proof.Proofs.ViewAnswers

/-! The cells of the view, field by field (12.5), and the statement O46. -/

namespace Sys2Proof.Proofs.ViewCells
open Sys2Proof Sys2Proof.Machine Sys2Proof.Proofs.CommandFrames Sys2Proof.Proofs.Invariants
open Sys2Proof.Proofs.Records Sys2Proof.Proofs.ViewAnswers

variable {s : State} {c : Configuration} {d : Descriptor} {p : Port} {a : Access} {o : Nat}

/-! ## Tables split and filled -/

theorem table_append {start n : Nat} {l r : Port → List Byte} (table : ShowsFrom s start (fun p => l p ++ r p))
    (length : ∀ p, (l p).length = n) : ShowsFrom s start l ∧ ShowsFrom s (start + n) r := by
  refine ⟨fun p i x here => table p i x ?_, fun p i x here => ?_⟩
  · exact (List.getElem?_append_left (lt_length here)).trans here
  · rw [Nat.add_assoc]
    refine table p (n + i) x ?_
    rw [List.getElem?_append_right (by rw [length]; omega), length, Nat.add_sub_cancel_left, here]

/-- A field that depends on the configuration in force, which every view read names. -/
theorem shows_of_config {n v : Nat} (shows : s.config = some c → Shows s c d o n v) : Shows s c d o n v :=
  fun p a i hi read => shows read.1 p a i hi read

theorem field_zeros {n m : Nat} (within : o + m ≤ n) : Field (toBytes n 0) o m 0 := fun i hi => by
  rw [toBytes_get (by omega)]
  simp

theorem field_value {l : List Byte} {n v w : Nat} (same : v = w) (field : Field l o n v) : Field l o n w :=
  same ▸ field

theorem bitCode_eq (b : Bool) (i : Nat) : bitCode b i = 2 ^ i * (if b then 1 else 0) := by
  cases b <;> simp [bitCode]

theorem flag_le (b : Bool) : (if b then 1 else 0) ≤ 1 := by cases b <;> decide

/-! ## The cells at the base -/

theorem eSummary_code_lt (e : ESummary) : e.code < 256 := by
  have done := flag_le e.commandDone
  have stop := flag_le e.stop
  have change := flag_le e.speedChangeEnd
  have record := flag_le e.logRecord
  have overrun := flag_le e.logOverrun
  have capture := flag_le e.capture
  simp only [ESummary.code, bitCode_eq]
  omega

theorem pSummary_code_lt (q : PSummary) : q.code < 256 := by
  have available := flag_le q.bufferAvailable
  have capture := flag_le q.capture
  simp only [PSummary.code, bitCode_eq]
  omega

theorem capture_second (x : Capture) : x.second / 256 = (if x.port == .P then 1 else 0) + 2 * (if x.write then 1 else 0)
    + 4 * (if x.more then 1 else 0) + 128 := by
  have small : x.cause.code < 256 := by cases x.cause <;> decide
  simp only [Capture.second, bitCode_eq]
  omega

theorem capture_second_lt (x : Capture) : x.second < 65536 := by
  have port := flag_le (x.port == .P)
  have write := flag_le x.write
  have more := flag_le x.more
  have high := capture_second x
  omega

theorem base_cells (s : State) (c : Configuration) (d : Descriptor) :
    let at' := Shows s c d
    let flag := fun b : Bool => if b then 1 else 0
    at' 0x000 4 s.tick.toNat ∧ at' 0x005 3 0 ∧ at' 0x008 4 0 ∧ at' 0x00D 3 0 ∧ at' 0x011 3 0
      ∧ at' 0x014 4 (match s.junction.latch with | some x => x.address.toNat | none => 0)
      ∧ at' 0x019 1 (match s.junction.latch with
          | some x => flag (x.port == .P) + 2 * flag x.write + 4 * flag x.more + 128
          | none => 0)
      ∧ at' 0x01A 2 0 ∧ at' 0x01C 4 s.junction.lastResult.toNat := by
  intro at' flag
  have shown {o n v : Nat} (field : ∀ p, Field (s.begin.viewBase p) o n v) : Shows s c d o n v :=
    shows_of_field (base_table s) field (Nat.zero_le o)
  have fields := viewBase_fields s.begin
  have summary : s.attention.e.code / 256 ^ 1 = 0 := Nat.div_eq_of_lt (eSummary_code_lt _)
  have summary' : s.attention.p.code / 256 ^ 1 = 0 := Nat.div_eq_of_lt (pSummary_code_lt _)
  have high : (match s.junction.latch with | some x => x.second | none => 0) / 256 ^ 1
      = match s.junction.latch with
        | some x => flag (x.port == .P) + 2 * flag x.write + 4 * flag x.more + 128
        | none => 0 := by
    cases s.junction.latch with
    | none => rfl
    | some x => exact capture_second x
  have zero : (match s.junction.latch with | some x => x.second | none => 0) / 256 ^ 2 = 0 := by
    cases s.junction.latch with
    | none => rfl
    | some x => exact Nat.div_eq_of_lt (capture_second_lt x)
  refine ⟨shown fun p => ?_, shown fun p => ?_, shown fun p => ?_, shown fun p => ?_, shown fun p => ?_,
    shown fun p => ?_, shown fun p => ?_, shown fun p => ?_, shown fun p => ?_⟩ <;>
    obtain ⟨tick, claim, unused, abandon, eSummary, pSummary, first, second, last⟩ := fields p
  · exact tick
  · exact unused
  · exact abandon
  · exact summary ▸ field_part eSummary (k := 1) (by omega)
  · exact summary' ▸ field_part pSummary (k := 1) (by omega)
  · exact first
  · exact high ▸ field_part second (k := 1) (by omega)
  · exact zero ▸ field_part second (k := 2) (by omega)
  · exact last

/-! ## The part state -/

theorem jam_length (x : Option Jam) : (jamBytes x).length = 5 := by
  cases x <;> simp [jamBytes, fieldByte, length_toBytes]

/-- The area of the part state, by its five parts. -/
theorem part_tables (s : State) : ShowsFrom s 0x020 (fun _ => s.viewDrive) ∧ ShowsFrom s 0x048 (fun _ => s.viewPlan)
    ∧ ShowsFrom s 0x07C (fun _ => s.viewCounts) ∧ ShowsFrom s 0x088 (fun _ => s.viewStates)
    ∧ ShowsFrom s 0x098 (fun _ => s.viewFlags) := by
  have area : ShowsFrom s 0x020 (fun _ => s.viewPart) := by
    intro p i x here
    have small := lt_length here
    simp only [State.viewPart, State.viewDrive, State.viewPlan, State.viewCounts, State.viewStates, State.viewFlags,
      fieldWord, fieldHalf, fieldByte, List.length_append, length_toBytes, jam_length] at small
    unfold State.viewByte
    rw [if_neg (by omega), if_pos (by omega), Nat.add_sub_cancel_left]
    exact pickByte_eq here
  obtain ⟨rest, flags⟩ := table_append (n := 0x78) area (by
    simp [State.viewDrive, State.viewPlan, State.viewCounts, State.viewStates, fieldWord, fieldHalf, fieldByte,
      length_toBytes])
  obtain ⟨rest, states⟩ := table_append (n := 0x68) rest (by
    simp [State.viewDrive, State.viewPlan, State.viewCounts, fieldWord, fieldHalf, length_toBytes])
  obtain ⟨rest, counts⟩ := table_append (n := 0x5C) rest (by
    simp [State.viewDrive, State.viewPlan, fieldWord, length_toBytes])
  obtain ⟨drive, plan⟩ := table_append (n := 0x28) rest (by simp [State.viewDrive, fieldWord, length_toBytes])
  exact ⟨drive, plan, counts, states, flags⟩

theorem tickCode_eq (x : Option Tick) : tickCode x = match x with | some t => t.toNat | none => 0 := by
  cases x <;> rfl

theorem drive_cells (s : State) (c : Configuration) (d : Descriptor) :
    let at' := Shows s c d
    let tick : Option Tick → Nat := fun x => match x with | some t => t.toNat | none => 0
    at' 0x020 4 (match s.scheduler.grid with | some g => g.t0.toNat | none => 0)
      ∧ at' 0x024 4 (match s.scheduler.grid with | some g => g.current | none => 0)
      ∧ at' 0x028 4 (match s.scheduler.admissionBounds with | some b => b.front | none => 0xFFFFFFFF)
      ∧ at' 0x02C 4 (match s.scheduler.admissionBounds with | some b => b.final | none => 0xFFFFFFFF)
      ∧ at' 0x030 4 (match s.tracker.timing with | some t => t.pitch | none => 0)
      ∧ at' 0x034 4 (tick s.run.graceDeadline) ∧ at' 0x038 4 (tick s.drive.lockDeadline)
      ∧ at' 0x03C 4 (tick s.drive.windowClose) ∧ at' 0x040 4 s.drive.count ∧ at' 0x044 4 s.drive.lastCount := by
  intro at' tick
  obtain ⟨table, -⟩ := part_tables s
  refine ⟨?_, ?_, ?_, ?_, ?_, ?_, ?_, ?_, ?_, ?_⟩
  all_goals
    refine shows_of_field table (fun _ => ?_) (by omega)
    simp only [State.viewDrive, tickCode_eq, fieldWord, List.append_assoc, field_after, Nat.reduceLeDiff,
      Nat.reduceSub]
  case refine_10 => exact field_last _ _
  all_goals exact field_here _ _ _

theorem state_cells (s : State) (c : Configuration) (d : Descriptor) :
    let at' := Shows s c d
    let flag := fun b : Bool => if b then 1 else 0
    at' 0x088 1 s.run.state.code
      ∧ at' 0x089 1 (match s.drive.state with
          | .off => 0 | .spinUp => 1 | .locked => 2 | .relock => 3 | .coasting => 4)
      ∧ at' 0x08A 1 s.drive.current.val ∧ at' 0x08B 1 s.drive.target.val ∧ at' 0x08C 1 s.drive.inBandRun
      ∧ at' 0x08D 1 s.drive.deviationRun ∧ at' 0x08E 1 s.drive.zeroRun
      ∧ at' 0x08F 1 (match s.run.changeStatus with
          | .none => 0 | .draining => 1 | .relocking => 2 | .returning => 3 | .done => 4 | .cancelled => 5
          | .failed => 6 | .aborted => 7)
      ∧ at' 0x090 1 (match s.run.drainTarget with | some x => x.val | none => 0xFF)
      ∧ at' 0x091 1 (match s.run.command with | .idle => 0 | .accepted => 1 | .done => 2)
      ∧ at' 0x092 1 (match s.run.running with | some ⟨some x, _, _, _, _⟩ => x.code | _ => 0)
      ∧ at' 0x093 1 (match s.run.running with | some r => flag r.overrun | none => 0)
      ∧ at' 0x094 1 (let f := s.run.holds
          flag f.tray[(0 : Tray)] + 2 * flag f.tray[(1 : Tray)] + 4 * flag f.tray[(2 : Tray)]
            + 8 * flag f.tray[(3 : Tray)] + 16 * flag f.operator + 32 * flag f.stackersFull + 64 * flag f.purgeFull)
      ∧ at' 0x095 1 (match s.scheduler.waitReason with
          | .notRunning => 1 | .queueEmpty => 2 | .hold => 3 | .liveLimit => 4 | .logReserve => 5 | .horizon => 6)
      ∧ at' 0x096 1 (match s.tracker.timing with | some t => t.loopPitches | none => 0)
      ∧ at' 0x097 1 (match s.tracker.timing with | some t => t.setGap | none => 0) := by
  intro at' flag
  obtain ⟨-, -, -, table, -⟩ := part_tables s
  refine ⟨?_, ?_, ?_, ?_, ?_, ?_, ?_, ?_, ?_, ?_, ?_, ?_, ?_, ?_, ?_, ?_⟩
  all_goals
    refine shows_of_field table (fun _ => ?_) (by omega)
    simp only [State.viewStates, fieldByte, List.append_assoc, field_after, Nat.reduceLeDiff,
      Nat.reduceSub]
  case refine_11 =>
    refine field_value ?_ (field_here _ _ _)
    cases s.run.running with
    | none => rfl
    | some r =>
      obtain ⟨code, _, _, _, _⟩ := r
      cases code <;> rfl
  case refine_13 =>
    refine field_value ?_ (field_here _ _ _)
    simp only [FeedHolds.code, bitCode_eq, Nat.one_mul, Nat.reducePow]
    rfl
  case refine_16 => exact field_last _ _
  all_goals exact field_here _ _ _

/-- The bytes of a jam record (R194). -/
theorem jamBytes_fields (x : Option Jam) :
    let has := Field (jamBytes x)
    let flag := fun b : Bool => if b then 1 else 0
    has 0 1 (match x with | some j => j.cause.code | none => 0)
      ∧ has 1 1 (match x with | some j => sensorCode j.sensor | none => 0)
      ∧ has 2 1 (match x with | some j => flag j.setMark + 2 * flag j.multiple | none => 0)
      ∧ has 3 1 (match x with | some ⟨_, _, _, _, _, some y, _⟩ => y.1.code | _ => 0)
      ∧ has 4 1 (match x with | some ⟨_, _, _, _, _, some y, _⟩ => sensorCode y.2 | _ => 0) := by
  intro has flag
  cases x with
  | none =>
    exact ⟨field_zeros (by omega), field_zeros (by omega), field_zeros (by omega), field_zeros (by omega),
      field_zeros (by omega)⟩
  | some j =>
    obtain ⟨cause, sensor, sequence, setMark, time, secondary, multiple⟩ := j
    refine ⟨?_, ?_, ?_, ?_, ?_⟩
    all_goals simp only [has, jamBytes, fieldByte, List.append_assoc, field_after, Nat.reduceLeDiff, Nat.reduceSub]
    case refine_4 =>
      refine field_value ?_ (field_here _ _ _)
      cases secondary <;> rfl
    case refine_5 =>
      refine field_value ?_ (field_last _ _)
      cases secondary <;> rfl
    all_goals exact field_here _ _ _

/-- The flags, the two jam records behind them and the unused bytes. -/
theorem flag_tables (table : ShowsFrom s 0x098 (fun _ => s.viewFlags)) :
    ShowsFrom s 0x098 (fun _ => fieldByte s.liveCount ++ fieldByte s.buffers.openCount
        ++ fieldByte (flagCode s.buffers.claimWaiting) ++ fieldByte (flagCode s.log.inFlight.isSome)
        ++ fieldByte (flagCode s.log.overrun) ++ fieldByte (flagCode s.run.clearanceMark)
        ++ fieldByte s.run.outstanding ++ fieldByte (flagCode s.junction.guardOn) ++ fieldByte s.junction.arbiter.code
        ++ fieldByte s.junction.rotation.code ++ fieldByte (flagCode s.junction.anchorFlag))
      ∧ ShowsFrom s 0x0A3 (fun _ => jamBytes s.run.jam) ∧ ShowsFrom s 0x0A8 (fun _ => jamBytes s.run.lastJam)
      ∧ ShowsFrom s 0x0AD (fun _ => toBytes 19 0) := by
  obtain ⟨rest, unused⟩ := table_append (n := 21) table (by simp [fieldByte, length_toBytes, jam_length])
  obtain ⟨rest, last⟩ := table_append (n := 16) rest (by simp [fieldByte, length_toBytes, jam_length])
  obtain ⟨flags, first⟩ := table_append (n := 11) rest (by simp [fieldByte, length_toBytes])
  exact ⟨flags, first, last, unused⟩

theorem flag_cells (s : State) (c : Configuration) (d : Descriptor) :
    let at' := Shows s c d
    let flag := fun b : Bool => if b then 1 else 0
    (at' 0x098 1 s.liveCount
      ∧ at' 0x099 1 (s.buffers.table.toList.filter (fun x => x.state == .filling || x.state == .closing)).length
      ∧ at' 0x09A 1 (flag s.buffers.claimWaiting) ∧ at' 0x09B 1 (flag s.log.inFlight.isSome)
      ∧ at' 0x09C 1 (flag s.log.overrun) ∧ at' 0x09D 1 (flag s.run.clearanceMark) ∧ at' 0x09E 1 s.run.outstanding
      ∧ at' 0x09F 1 (flag s.junction.guardOn)
      ∧ at' 0x0A0 1 (match s.junction.arbiter with | .rotating => 0 | .fixed => 1)
      ∧ at' 0x0A1 1 (match s.junction.rotation with | .E => 0 | .P => 1 | .agent => 2)
      ∧ at' 0x0A2 1 (flag s.junction.anchorFlag) ∧ at' 0x0AD 19 0) := by
  intro at' flag
  obtain ⟨-, -, -, -, table⟩ := part_tables s
  obtain ⟨flags, -, -, unused⟩ := flag_tables table
  refine ⟨?_, ?_, ?_, ?_, ?_, ?_, ?_, ?_, ?_, ?_, ?_, ?_⟩
  case refine_12 => exact shows_of_field unused (fun _ => field_last _ _) (by omega)
  all_goals
    refine shows_of_field flags (fun _ => ?_) (by omega)
    simp only [fieldByte, List.append_assoc, field_after, Nat.reduceLeDiff, Nat.reduceSub]
  case refine_11 => exact field_last _ _
  all_goals exact field_here _ _ _

/-- The five bytes of a jam record where its table stands. -/
theorem jam_cells (s : State) (c : Configuration) (d : Descriptor) (o : Nat) (x : Option Jam) :
    let at' := Shows s c d
    let flag := fun b : Bool => if b then 1 else 0
    ShowsFrom s o (fun _ => jamBytes x) →
    at' o 1 (match x with | some j => j.cause.code | none => 0)
      ∧ at' (o + 1) 1 (match x with | some j => sensorCode j.sensor | none => 0)
      ∧ at' (o + 2) 1 (match x with | some j => flag j.setMark + 2 * flag j.multiple | none => 0)
      ∧ at' (o + 3) 1 (match x with | some ⟨_, _, _, _, _, some y, _⟩ => y.1.code | _ => 0)
      ∧ at' (o + 4) 1 (match x with | some ⟨_, _, _, _, _, some y, _⟩ => sensorCode y.2 | _ => 0) := by
  intro at' flag table
  obtain ⟨cause, sensor, flags, secondary, place⟩ := jamBytes_fields x
  have shown {k n v : Nat} (field : Field (jamBytes x) k n v) : Shows s c d (o + k) n v :=
    shows_of_field table (fun _ => by rwa [Nat.add_sub_cancel_left]) (by omega)
  exact ⟨shown cause, shown sensor, shown flags, shown secondary, shown place⟩

theorem plan_cells (s : State) (c : Configuration) (d : Descriptor) :
    let at' := Shows s c d
    at' 0x048 4 (match s.run.running with | some r => r.operand1.toNat | none => 0)
      ∧ at' 0x04C 4 (match s.run.running with | some r => r.operand2.toNat | none => 0)
      ∧ at' 0x050 4 (match s.run.running with | some r => r.operand3.toNat | none => 0)
      ∧ at' 0x054 4 (match s.plan.queue with | e :: _ => e.sequence | [] => 0)
      ∧ at' 0x058 4 s.plan.lastAccepted
      ∧ at' 0x05C 4 (match s.plan.tail with | some x => x.statement | none => 0)
      ∧ at' 0x060 4 s.log.producer.toNat ∧ at' 0x064 4 s.log.consumer.toNat
      ∧ at' 0x068 4 (c.logEntries - (s.log.producer - s.log.consumer).toNat)
      ∧ at' 0x06C 4 (match s.run.jam with | some j => j.sequence.getD 0 | none => 0)
      ∧ at' 0x070 4 (match s.run.jam with | some j => j.time.toNat | none => 0)
      ∧ at' 0x074 4 (match s.run.lastJam with | some j => j.sequence.getD 0 | none => 0)
      ∧ at' 0x078 4 (match s.run.lastJam with | some j => j.time.toNat | none => 0) := by
  intro at'
  obtain ⟨-, table, -⟩ := part_tables s
  have sequence (x : Option Jam) : jamSequence x = match x with | some j => j.sequence.getD 0 | none => 0 := by
    cases x <;> rfl
  have time (x : Option Jam) : jamTime x = match x with | some j => j.time.toNat | none => 0 := by
    cases x <;> rfl
  refine ⟨?_, ?_, ?_, ?_, ?_, ?_, ?_, ?_, shows_of_config fun config => ?_, ?_, ?_, ?_, ?_⟩
  all_goals
    refine shows_of_field table (fun _ => ?_) (by omega)
    simp only [State.viewPlan, sequence, time, fieldWord, List.append_assoc, field_after, Nat.reduceLeDiff,
      Nat.reduceSub]
  case refine_9 =>
    refine field_value ?_ (field_here _ _ _)
    simp only [State.logFree, State.logUsed, State.logEntries, config]
  case refine_13 => exact field_last _ _
  all_goals exact field_here _ _ _

theorem count_cells (s : State) (c : Configuration) (d : Descriptor) :
    let at' := Shows s c d
    at' 0x07C 2 (match s.plan.tail with | some x => x.k | none => 0)
      ∧ at' 0x07E 2 (match s.plan.tail with | some x => x.n | none => 0)
      ∧ at' 0x080 2 s.plan.queue.length ∧ at' 0x082 2 (s.log.inFlight.toList.length + s.log.waiting.length)
      ∧ at' 0x084 2 c.stopGrace ∧ at' 0x086 2 0 := by
  intro at'
  obtain ⟨-, -, table, -⟩ := part_tables s
  refine ⟨?_, ?_, ?_, ?_, shows_of_config fun config => ?_, ?_⟩
  all_goals
    refine shows_of_field table (fun _ => ?_) (by omega)
    simp only [State.viewCounts, fieldHalf, List.append_assoc, field_after, Nat.reduceLeDiff, Nat.reduceSub]
  case refine_4 =>
    refine field_value ?_ (field_here _ _ _)
    unfold LogWriter.pendingList
    rw [List.length_append]
    cases s.log.inFlight <;> rfl
  case refine_5 =>
    refine field_value ?_ (field_here _ _ _)
    simp only [State.stopGrace, config]
  case refine_6 => exact field_last _ _
  all_goals exact field_here _ _ _

end Sys2Proof.Proofs.ViewCells

/-! The tables of the view: buffers, sheets, sensors, the output unit, members, broken copies and the slot ring (12.5);
and the statement O46. -/

namespace Sys2Proof.Proofs.ViewTables
open Sys2Proof Sys2Proof.Machine Sys2Proof.Proofs.CommandFrames Sys2Proof.Proofs.Invariants
open Sys2Proof.Proofs.Records Sys2Proof.Proofs.ViewAnswers Sys2Proof.Proofs.ViewCells

variable {s : State} {c : Configuration} {d : Descriptor} {p : Port} {a : Access} {o : Nat}

/-! ## Codes of absent values -/

theorem handleCode_eq (x : Option Handle) : handleCode x = match x with | some h => h.val | none => 0xFF := by
  cases x <;> rfl

theorem bufferCode_eq (x : Option BufferNo) : bufferCode x = match x with | some b => b.val | none => 0xFF := by
  cases x <;> rfl

/-! ## The buffer table -/

theorem length_bufferBytes (x : Buffer) : x.viewBytes.length = 16 := by
  simp [Buffer.viewBytes, fieldWord, fieldHalf, fieldByte, length_toBytes]

theorem buffer_table (s : State) (b : BufferNo) :
    ShowsFrom s (0x0C0 + 16 * b.val) (fun _ => (s.buffer b).viewBytes) := by
  intro p i x here
  have small := lt_length here
  rw [length_bufferBytes] at small
  have entry : Fin.ofNat 64 ((0x0C0 + 16 * b.val + i - 0x0C0) / 16) = b := Fin.ext (by
    show (0x0C0 + 16 * b.val + i - 0x0C0) / 16 % 64 = b.val
    omega)
  have place : (0x0C0 + 16 * b.val + i - 0x0C0) % 16 = i := by omega
  unfold State.viewByte
  rw [if_neg (by omega), if_neg (by omega), if_pos (by omega), entry, place]
  exact pickByte_eq here

theorem buffer_cells (s : State) (c : Configuration) (d : Descriptor) (b : BufferNo) :
    let at' := Shows s c d
    let flag := fun b : Bool => if b then 1 else 0
    let o := 0x0C0 + 16 * b.val
    let x := s.buffer b
    at' o 4 (match x.tag with | some t => t.statement | none => 0)
      ∧ at' (o + 4) 2 (match x.tag with | some t => t.sheet | none => 0)
      ∧ at' (o + 6) 1 x.state.code
      ∧ at' (o + 7) 1 (match x.tag with
          | some t => (match t.side with | .front => 1 | .back => 2 | .any => 3)
          | none => 0)
      ∧ at' (o + 8) 1 x.count ∧ at' (o + 9) 1 (flag x.persistent) ∧ at' (o + 10) 1 (flag x.replay)
      ∧ at' (o + 11) 5 0 := by
  intro at' flag o x
  have table := buffer_table s b
  refine ⟨?_, ?_, ?_, ?_, ?_, ?_, ?_, ?_⟩
  all_goals
    refine shows_of_field table (fun _ => ?_) (by omega)
    simp only [o, Nat.add_sub_cancel_left, Nat.sub_self, Buffer.viewBytes, fieldWord, fieldHalf, fieldByte,
      List.append_assoc, field_after, Nat.reduceLeDiff, Nat.reduceSub]
  case refine_4 =>
    refine field_value ?_ (field_here _ _ _)
    cases (s.buffer b).tag <;> rfl
  case refine_8 => exact field_last _ _
  all_goals exact field_here _ _ _

/-! ## The sheet table -/

/-- The fields of a sheet entry that show its plan entry. -/
def planBytes (sh : Sheet) : List Byte :=
  fieldWord sh.plan.sequence ++ fieldByte sh.plan.slot ++ toBytes 3 0 ++ fieldWord sh.plan.opening
    ++ fieldWord sh.plan.statement ++ fieldHalf sh.plan.k ++ fieldHalf sh.plan.n ++ fieldByte (sh.plan.tray.val + 1)
    ++ fieldByte sh.plan.media.val ++ fieldByte sh.plan.sides.code ++ fieldByte (bufferCode sh.plan.front)
    ++ fieldByte (bufferCode sh.plan.back) ++ fieldByte sh.plan.mode.code ++ fieldByte (flagCode sh.plan.breakFlag)

/-- A route, 0 for none. -/
def routeCode : Option Route → Nat
  | none => 0
  | some r => r.code

/-- The fields behind them: its slots, and where and how it is. -/
def trackBytes (sh : Sheet) : List Byte :=
  fieldByte sh.pass ++ fieldWord sh.frontSlot ++ fieldWord (sh.backSlot.getD 0) ++ fieldWord sh.finalSlot
    ++ fieldByte (Config.sheetStateCode sh.state.place).toNat ++ fieldByte (legByte sh.leg).toNat ++ toBytes 2 0
    ++ fieldWord sh.reference.toNat ++ fieldByte (sensorCode sh.lastSensor)
    ++ fieldByte (routeCode sh.route)
    ++ fieldByte (flagCode sh.frontFaulted) ++ fieldByte (flagCode sh.backFaulted) ++ fieldByte (flagCode sh.broken)
    ++ fieldByte (flagCode sh.halted) ++ fieldByte (flagCode sh.covering) ++ toBytes 1 0
    ++ fieldWord sh.coverStart.toNat ++ toBytes 4 0

theorem sheetBytes_eq (sh : Sheet) : sh.viewBytes = planBytes sh ++ trackBytes sh := by
  have codes (x y : Byte) : [x, y] = fieldByte x.toNat ++ fieldByte y.toNat := by
    rw [fieldByte, fieldByte, ← singleton_eq_toBytes, ← singleton_eq_toBytes]
    rfl
  unfold Sheet.viewBytes planBytes trackBytes
  rw [codes]
  cases sh.route <;> simp only [routeCode, List.append_assoc]

theorem length_planBytes (sh : Sheet) : (planBytes sh).length = 27 := by
  simp only [planBytes, fieldWord, fieldHalf, fieldByte, List.length_append, length_toBytes]

theorem length_trackBytes (sh : Sheet) : (trackBytes sh).length = 37 := by
  simp only [trackBytes, fieldWord, fieldByte, List.length_append, length_toBytes]

theorem sheet_tables {h : Handle} {sh : Sheet} (live : s.sheet h = some sh) :
    ShowsFrom s (0x4C0 + 64 * h.val) (fun _ => planBytes sh)
      ∧ ShowsFrom s (0x4C0 + 64 * h.val + 27) (fun _ => trackBytes sh) := by
  refine table_append (fun p i x here => ?_) (fun _ => length_planBytes sh)
  have small := lt_length here
  rw [List.length_append, length_planBytes, length_trackBytes] at small
  have entry : Fin.ofNat 16 ((0x4C0 + 64 * h.val + i - 0x4C0) / 64) = h := Fin.ext (by
    show (0x4C0 + 64 * h.val + i - 0x4C0) / 64 % 16 = h.val
    omega)
  have place : (0x4C0 + 64 * h.val + i - 0x4C0) % 64 = i := by omega
  have found : s.begin.sheet h = some sh := live
  unfold State.viewByte
  rw [if_neg (by omega), if_neg (by omega), if_neg (by omega), if_pos (by omega)]
  unfold State.viewSheetByte
  rw [entry, found, place]
  rw [← sheetBytes_eq] at here
  exact pickByte_eq here

theorem sheet_plan_cells (s : State) (c : Configuration) (d : Descriptor) (h : Handle) (sh : Sheet) :
    let at' := Shows s c d
    let flag := fun b : Bool => if b then 1 else 0
    s.sheet h = some sh →
      let o := 0x4C0 + 64 * h.val
      at' o 4 sh.plan.sequence ∧ at' (o + 4) 1 sh.plan.slot ∧ at' (o + 5) 3 0 ∧ at' (o + 8) 4 sh.plan.opening
        ∧ at' (o + 12) 4 sh.plan.statement ∧ at' (o + 16) 2 sh.plan.k ∧ at' (o + 18) 2 sh.plan.n
        ∧ at' (o + 20) 1 (sh.plan.tray.val + 1) ∧ at' (o + 21) 1 sh.plan.media.val
        ∧ at' (o + 22) 1 (match sh.plan.sides with | .simplex => 1 | .duplex => 2)
        ∧ at' (o + 23) 1 (match sh.plan.front with | some b => b.val | none => 0xFF)
        ∧ at' (o + 24) 1 (match sh.plan.back with | some b => b.val | none => 0xFF)
        ∧ at' (o + 25) 1 (match sh.plan.mode with | .set => 1 | .direct => 2)
        ∧ at' (o + 26) 1 (flag sh.plan.breakFlag) := by
  intro at' flag live o
  obtain ⟨table, -⟩ := sheet_tables live
  refine ⟨?_, ?_, ?_, ?_, ?_, ?_, ?_, ?_, ?_, ?_, ?_, ?_, ?_, ?_⟩
  all_goals
    refine shows_of_field table (fun _ => ?_) (by omega)
    simp only [o, Nat.add_sub_cancel_left, Nat.sub_self, planBytes, bufferCode_eq, fieldWord, fieldHalf,
      fieldByte, List.append_assoc, field_after, Nat.reduceLeDiff, Nat.reduceSub]
  case refine_14 => exact field_last _ _
  all_goals exact field_here _ _ _

theorem sheet_track_cells (s : State) (c : Configuration) (d : Descriptor) (h : Handle) (sh : Sheet) :
    let at' := Shows s c d
    let flag := fun b : Bool => if b then 1 else 0
    let route : Route → Nat := fun x => match x with | .accumulate => 1 | .k1 => 2 | .k2 => 3 | .purge => 4
    s.sheet h = some sh →
      let o := 0x4C0 + 64 * h.val
      at' (o + 27) 1 sh.pass ∧ at' (o + 28) 4 sh.frontSlot ∧ at' (o + 32) 4 (sh.backSlot.getD 0)
        ∧ at' (o + 36) 4 sh.finalSlot
        ∧ (sh.leg = none → at' (o + 41) 1 0) ∧ (∀ l : Leg, sh.leg = some (.leg l) → at' (o + 41) 1 (l.val + 1))
        ∧ at' (o + 42) 2 0 ∧ at' (o + 44) 4 sh.reference.toNat ∧ at' (o + 48) 1 (sensorCode sh.lastSensor)
        ∧ at' (o + 49) 1 (match sh.route with | some r => route r | none => 0)
        ∧ at' (o + 50) 1 (flag sh.frontFaulted) ∧ at' (o + 51) 1 (flag sh.backFaulted)
        ∧ at' (o + 52) 1 (flag sh.broken) ∧ at' (o + 53) 1 (flag sh.halted) ∧ at' (o + 54) 1 (flag sh.covering)
        ∧ at' (o + 55) 1 0 ∧ at' (o + 56) 4 sh.coverStart.toNat ∧ at' (o + 60) 4 0 := by
  intro at' flag route live o
  obtain ⟨-, table⟩ := sheet_tables live
  refine ⟨?_, ?_, ?_, ?_, fun idle => ?_, fun l leg => ?_, ?_, ?_, ?_, ?_, ?_, ?_, ?_, ?_, ?_, ?_, ?_, ?_⟩
  all_goals
    refine shows_of_field table (fun _ => ?_) (by omega)
    simp only [o, Nat.add_sub_add_left, Nat.sub_self, trackBytes, fieldWord, fieldByte, List.append_assoc, field_after,
      Nat.reduceLeDiff, Nat.reduceSub]
  case refine_5 =>
    refine field_value ?_ (field_here _ _ _)
    rw [idle]
    rfl
  case refine_6 =>
    refine field_value ?_ (field_here _ _ _)
    rw [leg]
    exact Nat.mod_eq_of_lt (by omega)
  case refine_10 =>
    refine field_value ?_ (field_here _ _ _)
    cases sh.route <;> rfl
  case refine_18 => exact field_last _ _
  all_goals exact field_here _ _ _

/-! ## The sensors and the set places -/

theorem length_sensorBytes (r : SensorRecord) : r.viewBytes.length = 16 := by
  simp only [SensorRecord.viewBytes, fieldWord, fieldByte, List.length_append, length_toBytes]

theorem sensor_table (s : State) (x : Sensor) :
    ShowsFrom s (0x8C0 + 16 * (sensorCode (some x) - 1)) (fun _ => (s.sensor x).viewBytes) := by
  intro p i b here
  have small := lt_length here
  rw [length_sensorBytes] at small
  have index : sensorCode (some x) - 1 = x.index.val := rfl
  rw [index]
  generalize at_ : 0x8C0 + 16 * x.index.val + i = e
  have place : (e - 0x8C0) % 16 = i := by omega
  unfold State.viewByte
  rw [if_neg (by omega), if_neg (by omega), if_neg (by omega), if_neg (by omega), if_pos (by omega)]
  refine (congrArg₂ (fun (k : Fin 15) j => pickByte (s.tracker.sensors[k]).viewBytes j) (Fin.ext ?_ : _ = x.index)
    place).trans (pickByte_eq here)
  show (e - 0x8C0) / 16 % 15 = x.index.val
  omega

theorem sensor_cells (s : State) (c : Configuration) (d : Descriptor) (x : Sensor) :
    let at' := Shows s c d
    let flag := fun b : Bool => if b then 1 else 0
    let o := 0x8C0 + 16 * (sensorCode (some x) - 1)
    let r := s.sensor x
    at' o 4 (match r.expectations with | e :: _ => e.opens.toNat | [] => 0)
      ∧ at' (o + 4) 4 (match r.expectations with | e :: _ => e.closes.toNat | [] => 0)
      ∧ at' (o + 8) 1 (flag r.covered)
      ∧ at' (o + 9) 1 (match r.occupant with
          | .sheet h => h.val | .set => 0x10 | .untracked => 0xFE | .none => 0xFF)
      ∧ at' (o + 10) 1 (r.expectations.filter (fun e => e.item != .set)).length
      ∧ at' (o + 11) 1 (match r.expectations with
          | e :: _ => (match e.item with | .sheet h => h.val | .set => 0x10)
          | [] => 0xFF)
      ∧ at' (o + 12) 4 0 := by
  intro at' flag o r
  have table := sensor_table s x
  simp only [SensorRecord.viewBytes, fieldWord, fieldByte, List.append_assoc] at table
  refine ⟨?_, ?_, ?_, ?_, ?_, ?_, ?_⟩
  all_goals
    refine shows_of_field table (fun _ => ?_) (by omega)
    simp only [o, Nat.add_sub_cancel_left, Nat.sub_self, field_after, Nat.reduceLeDiff, Nat.reduceSub]
  case refine_1 =>
    refine field_value ?_ (field_here _ _ _)
    cases (s.sensor x).expectations <;> rfl
  case refine_2 =>
    refine field_value ?_ (field_here _ _ _)
    cases (s.sensor x).expectations <;> rfl
  case refine_4 =>
    refine field_value ?_ (field_here _ _ _)
    cases (s.sensor x).occupant <;> rfl
  case refine_6 =>
    refine field_value ?_ (field_here _ _ _)
    cases (s.sensor x).expectations <;> rfl
  case refine_7 => exact field_last _ _
  all_goals exact field_here _ _ _

theorem length_placeBytes (r : SensorRecord) : r.placeBytes.length = 16 := by
  unfold SensorRecord.placeBytes
  cases r.setPlace with
  | none => exact length_toBytes 16 0
  | some e => simp only [fieldWord, List.length_append, length_toBytes]

theorem place_tables (s : State) : ShowsFrom s 0x9B0 (fun _ => (s.sensor .K1).placeBytes)
    ∧ ShowsFrom s 0x9C0 (fun _ => (s.sensor .K2).placeBytes)
    ∧ ShowsFrom s 0x9D0 (fun _ => (s.sensor .PB).placeBytes) := by
  refine ⟨fun p i x here => ?_, fun p i x here => ?_, fun p i x here => ?_⟩
  all_goals
    have small := lt_length here
    rw [length_placeBytes] at small
    unfold State.viewByte
    rw [if_neg (by omega), if_neg (by omega), if_neg (by omega), if_neg (by omega), if_neg (by omega)]
  · rw [if_pos (by omega), Nat.add_sub_cancel_left]
    exact pickByte_eq here
  · rw [if_neg (by omega), if_pos (by omega), Nat.add_sub_cancel_left]
    exact pickByte_eq here
  · rw [if_neg (by omega), if_neg (by omega), if_pos (by omega), Nat.add_sub_cancel_left]
    exact pickByte_eq here

theorem place_cells (c : Configuration) (d : Descriptor) {x : Sensor}
    (table : ShowsFrom s o (fun _ => (s.sensor x).placeBytes)) :
    let at' := Shows s c d
    let first := (s.sensor x).expectations.find? (fun e => e.item == .set)
    (first = none → at' o 16 0)
      ∧ (∀ e, first = some e → at' o 4 e.opens.toNat ∧ at' (o + 4) 4 e.closes.toNat ∧ at' (o + 8) 4 e.coverMin
          ∧ at' (o + 12) 4 e.coverMax) := by
  intro at' first
  refine ⟨fun absent => ?_, fun e found => ?_⟩
  · have bytes : (s.sensor x).placeBytes = toBytes 16 0 := by
      simp only [SensorRecord.placeBytes, SensorRecord.setPlace]
      rw [show (s.sensor x).expectations.find? (fun e => e.item == .set) = none from absent]
    rw [bytes] at table
    exact shows_of_field table (fun _ => by rw [Nat.sub_self]; exact field_last _ _) (by omega)
  · have bytes : (s.sensor x).placeBytes
        = fieldWord e.opens.toNat ++ fieldWord e.closes.toNat ++ fieldWord e.coverMin ++ fieldWord e.coverMax := by
      simp only [SensorRecord.placeBytes, SensorRecord.setPlace]
      rw [show (s.sensor x).expectations.find? (fun e => e.item == .set) = some e from found]
    simp only [bytes, fieldWord, List.append_assoc] at table
    refine ⟨?_, ?_, ?_, ?_⟩
    all_goals
      refine shows_of_field table (fun _ => ?_) (by omega)
      simp only [Nat.add_sub_cancel_left, Nat.sub_self, field_after, Nat.reduceLeDiff, Nat.reduceSub]
    case refine_4 => exact field_last _ _
    all_goals exact field_here _ _ _

/-! ## Tables whose entries may be missing -/

/-- From an offset up, the view shows an entry of a table, or zeros where there is none. -/
def ShowsEntry {α : Type} (s : State) (start size : Nat) (f : α → List Byte) (x : Option α) : Prop :=
  ∀ p i, i < size → s.begin.viewByte p (start + i) = entryByte f x i

theorem shows_no_entry {α : Type} {start size : Nat} {f : α → List Byte} {x : Option α}
    (entry : ShowsEntry s start size f x) (none : x = none) : Shows s c d start size 0 := by
  subst none
  have table : ShowsFrom s start (fun _ => toBytes size 0) := by
    intro p i b here
    have small := lt_length here
    rw [length_toBytes] at small
    rw [toBytes_get small] at here
    rw [entry p i small, ← Option.some.inj here]
    simp [entryByte]
  exact shows_of_field table (fun _ => by rw [Nat.sub_self]; exact field_last _ _) (by omega)

theorem table_of_entry {α : Type} {start size : Nat} {f : α → List Byte} {x : Option α} {m : α}
    (entry : ShowsEntry s start size f x) (found : x = some m) (length : (f m).length = size) :
    ShowsFrom s start (fun _ => f m) := by
  intro p i b here
  have small := lt_length here
  rw [length] at small
  rw [entry p i small, found]
  exact pickByte_eq here

/-! ## The members and overrun sheets of the set -/

theorem length_memberBytes (m : Member) : m.viewBytes.length = 16 := by
  simp only [Member.viewBytes, fieldWord, fieldHalf, fieldByte, List.length_append, length_toBytes]

theorem member_entry (s : State) {k : Nat} (small : k < 40) :
    ShowsEntry s (0xA40 + 16 * k) 16 Member.viewBytes (s.output.set.shown k) := by
  intro p i hi
  have index : (0xA40 + 16 * k + i - 0xA40) / 16 = k := by omega
  have place : (0xA40 + 16 * k + i - 0xA40) % 16 = i := by omega
  unfold State.viewByte
  rw [if_neg (by omega), if_neg (by omega), if_neg (by omega), if_neg (by omega), if_neg (by omega), if_neg (by omega),
    if_neg (by omega), if_neg (by omega), if_neg (by omega), if_pos (by omega), index, place]
  rfl

theorem member_cells (c : Configuration) (d : Descriptor) {x : Option Member}
    (entry : ShowsEntry s o 16 Member.viewBytes x) :
    let at' := Shows s c d
    let flag := fun b : Bool => if b then 1 else 0
    (x = none → at' o 16 0)
      ∧ (∀ m, x = some m → at' o 4 m.sequence ∧ at' (o + 4) 2 m.k
          ∧ at' (o + 6) 1 (match m.front with | some b => b.val | none => 0xFF)
          ∧ at' (o + 7) 1 (match m.back with | some b => b.val | none => 0xFF)
          ∧ at' (o + 8) 1 m.slot ∧ at' (o + 9) 1 m.media.val ∧ at' (o + 10) 1 (flag m.faulted)
          ∧ at' (o + 11) 5 0) := by
  intro at' flag
  refine ⟨shows_no_entry entry, fun m found => ?_⟩
  have table := table_of_entry entry found (length_memberBytes m)
  simp only [Member.viewBytes, bufferCode_eq, fieldWord, fieldHalf, fieldByte, List.append_assoc] at table
  refine ⟨?_, ?_, ?_, ?_, ?_, ?_, ?_, ?_⟩
  all_goals
    refine shows_of_field table (fun _ => ?_) (by omega)
    simp only [Nat.add_sub_cancel_left, Nat.sub_self, field_after, Nat.reduceLeDiff, Nat.reduceSub]
  case refine_8 => exact field_last _ _
  all_goals exact field_here _ _ _

/-! ## The broken copies -/

theorem length_brokenBytes (r : BrokenCopy) : r.viewBytes.length = 16 := by
  simp only [BrokenCopy.viewBytes, fieldWord, fieldByte, List.length_append, length_toBytes]

theorem broken_entry (s : State) {k : Nat} (small : k < 32) :
    ShowsEntry s (0xCC0 + 16 * k) 16 BrokenCopy.viewBytes s.output.broken[k]? := by
  intro p i hi
  have index : (0xCC0 + 16 * k + i - 0xCC0) / 16 = k := by omega
  have place : (0xCC0 + 16 * k + i - 0xCC0) % 16 = i := by omega
  unfold State.viewByte
  rw [if_neg (by omega), if_neg (by omega), if_neg (by omega), if_neg (by omega), if_neg (by omega), if_neg (by omega),
    if_neg (by omega), if_neg (by omega), if_neg (by omega), if_neg (by omega), if_pos (by omega), index, place]
  rfl

theorem broken_cells (s : State) (c : Configuration) (d : Descriptor) {k : Nat} (small : k < 32) :
    let at' := Shows s c d
    let flag := fun b : Bool => if b then 1 else 0
    let o := 0xCC0 + 16 * k
    (s.output.broken[k]? = none → at' o 16 0)
      ∧ (∀ r, s.output.broken[k]? = some r → at' o 4 r.copy.statement ∧ at' (o + 4) 4 r.copy.opening
          ∧ at' (o + 8) 1 (match r.mode with | .set => 1 | .direct => 2)
          ∧ at' (o + 9) 1 (flag r.withdrawalPending) ∧ at' (o + 10) 6 0) := by
  intro at' flag o
  have entry := broken_entry s small
  refine ⟨shows_no_entry entry, fun r found => ?_⟩
  have table := table_of_entry entry found (length_brokenBytes r)
  simp only [BrokenCopy.viewBytes, fieldWord, fieldByte, List.append_assoc] at table
  refine ⟨?_, ?_, ?_, ?_, ?_⟩
  all_goals
    refine shows_of_field table (fun _ => ?_) (by omega)
    simp only [o, Nat.add_sub_cancel_left, Nat.sub_self, field_after, Nat.reduceLeDiff, Nat.reduceSub]
  case refine_5 => exact field_last _ _
  all_goals exact field_here _ _ _

/-! ## The slot ring and the end of the view -/

theorem ring_byte (s : State) (p : Port) {k i : Nat} (small : k < 32) (hi : i < 8) :
    s.begin.viewByte p (0xEC0 + 8 * k + i) = s.begin.viewRingByte (8 * k + i) := by
  unfold State.viewByte
  rw [if_neg (by omega), if_neg (by omega), if_neg (by omega), if_neg (by omega), if_neg (by omega), if_neg (by omega),
    if_neg (by omega), if_neg (by omega), if_neg (by omega), if_neg (by omega), if_neg (by omega), if_pos (by omega),
    Nat.add_assoc, Nat.add_sub_cancel_left]

theorem length_ringBytes (slot : Nat) (e : RingEntry) : (ringBytes slot e).length = 8 := by
  simp only [ringBytes, fieldWord, fieldByte, List.length_append, length_toBytes]

theorem ring_entry {g : Grid} (grid : s.scheduler.grid = some g) {k : Nat} (small : k < 32) :
    ShowsEntry s (0xEC0 + 8 * k) 8 (ringBytes (g.current + k)) g.ring[k]? := by
  intro p i hi
  have index : (8 * k + i) / 8 = k := by omega
  have place : (8 * k + i) % 8 = i := by omega
  have same : s.begin.scheduler.grid = some g := grid
  rw [ring_byte s p small hi, State.viewRingByte, same, index, place]

theorem ring_unused (s : State) (c : Configuration) (d : Descriptor) {k : Nat} (small : k < 32) :
    Shows s c d (0xEC0 + 8 * k + 5) 3 0 := by
  have zeros : ShowsFrom s (0xEC0 + 8 * k + 5) (fun _ => toBytes 3 0) := by
    intro p i b here
    have within := lt_length here
    rw [length_toBytes] at within
    rw [toBytes_get within] at here
    have place : (8 * k + (5 + i)) % 8 = 5 + i := by omega
    have index : (8 * k + (5 + i)) / 8 = k := by omega
    rw [Nat.add_assoc, ring_byte s p small (by omega), ← Option.some.inj here, Nat.zero_div]
    unfold State.viewRingByte
    rw [place, index]
    cases s.begin.scheduler.grid with
    | none => exact (if_neg (by omega)).trans (if_neg (by omega))
    | some g =>
      dsimp only
      cases g.ring[k]? with
      | none => rfl
      | some e =>
        refine pickByte_eq ?_
        have unused : Field (ringBytes (g.current + k) e) 5 3 0 := by
          simp only [ringBytes, fieldWord, fieldByte, List.append_assoc, field_after, Nat.reduceLeDiff, Nat.reduceSub]
          exact field_last _ _
        simpa using unused i within
  exact shows_of_field zeros (fun _ => by rw [Nat.sub_self]; exact field_last _ _) (by omega)

theorem ring_cells (s : State) (c : Configuration) (d : Descriptor) {k : Nat} (small : k < 32) :
    let at' := Shows s c d
    let o := 0xEC0 + 8 * k
    at' (o + 5) 3 0
      ∧ (s.scheduler.grid = none → at' (o + 4) 1 0xFF)
      ∧ (∀ g e, s.scheduler.grid = some g → g.ring[k]? = some e → at' o 4 (g.current + k)
          ∧ at' (o + 4) 1 (match e with | .free => 0xFF | .front h => h.val | .back h => h.val)) := by
  refine ⟨ring_unused s c d small, fun none => ?_, fun g e grid found => ?_⟩
  · have free : ShowsFrom s (0xEC0 + 8 * k + 4) (fun _ => toBytes 1 0xFF) := by
      intro p i b here
      have within := lt_length here
      rw [length_toBytes] at within
      rw [toBytes_get within] at here
      obtain rfl : i = 0 := by omega
      have place : (8 * k + (4 + 0)) % 8 = 4 := by omega
      have same : s.begin.scheduler.grid = .none := none
      rw [Nat.add_assoc, ring_byte s p small (by omega), ← Option.some.inj here, State.viewRingByte, same, place]
      rfl
    exact shows_of_field free (fun _ => by rw [Nat.sub_self]; exact field_last _ _) (by omega)
  · have table := table_of_entry (ring_entry grid small) found (length_ringBytes _ _)
    simp only [ringBytes, handleCode_eq, fieldWord, fieldByte, List.append_assoc] at table
    refine ⟨shows_of_field table (fun _ => ?_) (by omega), shows_of_field table (fun _ => ?_) (by omega)⟩
    · rw [Nat.sub_self]
      exact field_here _ _ _
    · rw [Nat.add_sub_cancel_left, field_after (by omega)]
      refine field_value ?_ (field_here _ _ _)
      cases e <;> rfl

theorem last_cells (s : State) (c : Configuration) (d : Descriptor) : Shows s c d 0xFC0 64 0 := by
  have zeros : ShowsFrom s 0xFC0 (fun _ => toBytes 64 0) := by
    intro p i b here
    have within := lt_length here
    rw [length_toBytes] at within
    rw [toBytes_get within] at here
    rw [← Option.some.inj here, Nat.zero_div]
    unfold State.viewByte
    rw [if_neg (by omega), if_neg (by omega), if_neg (by omega), if_neg (by omega), if_neg (by omega),
      if_neg (by omega), if_neg (by omega), if_neg (by omega), if_neg (by omega), if_neg (by omega), if_neg (by omega),
      if_neg (by omega)]
    rfl
  exact shows_of_field zeros (fun _ => by rw [Nat.sub_self]; exact field_last _ _) (by omega)

/-! ## The output unit -/

theorem copyBytes_eq (x : Option Copy) : copyBytes x = toBytes 4 (match x with | some a => a.statement | none => 0)
    ++ toBytes 4 (match x with | some a => a.opening | none => 0) := by
  cases x <;> rfl

theorem stackerCode_eq (x : Option Stacker) : stackerCode x = match x with | some k => k.code | none => 0 := by
  cases x <;> rfl

theorem length_copyBytes (x : Option Copy) : (copyBytes x).length = 8 := by
  cases x <;> simp only [copyBytes, fieldWord, List.length_append, length_toBytes]

theorem length_gateBytes {α : Type} (g : Gate α) (code : α → Nat) : (g.viewBytes code).length = 5 := by
  simp only [Gate.viewBytes, fieldByte, List.length_append, length_toBytes]

theorem length_outputBytes (o : OutputUnit) : o.viewBytes.length = 96 := by
  unfold OutputUnit.viewBytes
  simp only [List.length_append, length_copyBytes, length_gateBytes, fieldHalf, fieldByte, length_toBytes]

theorem output_table (s : State) : ShowsFrom s 0x9E0 (fun _ => s.output.viewBytes) := by
  intro p i x here
  have small := lt_length here
  rw [length_outputBytes] at small
  unfold State.viewByte
  rw [if_neg (by omega), if_neg (by omega), if_neg (by omega), if_neg (by omega), if_neg (by omega), if_neg (by omega),
    if_neg (by omega), if_neg (by omega), if_pos (by omega), Nat.add_sub_cancel_left]
  exact pickByte_eq here

theorem copy_cells (s : State) (c : Configuration) (d : Descriptor) (o : Nat) (x : Option Copy) :
    ShowsFrom s o (fun _ => copyBytes x) → Shows s c d o 4 (match x with | some a => a.statement | none => 0)
      ∧ Shows s c d (o + 4) 4 (match x with | some a => a.opening | none => 0) := by
  intro table
  simp only [copyBytes_eq] at table
  refine ⟨shows_of_field table (fun _ => ?_) (by omega), shows_of_field table (fun _ => ?_) (by omega)⟩
  · rw [Nat.sub_self]
    exact field_here _ _ _
  · rw [Nat.add_sub_cancel_left, field_after (by omega)]
    exact field_last _ _

theorem gate_cells {α : Type} (s : State) (c : Configuration) (d : Descriptor) (o : Nat) (g : Gate α) (code : α → Nat) :
    let at' := Shows s c d
    let flag := fun b : Bool => if b then 1 else 0
    let handle : Option Handle → Nat := fun x => match x with | some h => h.val | none => 0xFF
    ShowsFrom s o (fun _ => g.viewBytes code) → at' o 1 (code g.position) ∧ at' (o + 1) 1 (handle g.holder)
      ∧ at' (o + 2) 1 (flag g.cleared)
      ∧ at' (o + 3) 1 (match g.pending with | some x => code x.1 | none => 0)
      ∧ at' (o + 4) 1 (handle (g.pending.map (fun x => x.2))) := by
  intro at' flag handle table
  simp only [Gate.viewBytes, handleCode_eq, fieldByte, List.append_assoc] at table
  refine ⟨?_, ?_, ?_, ?_, ?_⟩
  all_goals
    refine shows_of_field table (fun _ => ?_) (by omega)
    simp only [Nat.add_sub_cancel_left, Nat.sub_self, field_after, Nat.reduceLeDiff, Nat.reduceSub]
  case refine_5 =>
    refine field_value ?_ (field_last _ _)
    cases g.pending <;> rfl
  all_goals exact field_here _ _ _

theorem shows_value {n v w : Nat} (same : v = w) (shown : Shows s c d o n v) : Shows s c d o n w := same ▸ shown

/-- The output unit's area, from its five copies on. -/
theorem output_cells (s : State) (c : Configuration) (d : Descriptor) :
    let at' := Shows s c d
    let flag := fun b : Bool => if b then 1 else 0
    let handle : Option Handle → Nat := fun x => match x with | some h => h.val | none => 0xFF
    let copy := fun (o : Nat) (x : Option Copy) =>
      at' o 4 (match x with | some a => a.statement | none => 0)
        ∧ at' (o + 4) 4 (match x with | some a => a.opening | none => 0)
    let loop : LoopPosition → Nat := fun x => match x with | .loop => 1 | .out => 2
    let route : Route → Nat := fun x => match x with | .accumulate => 1 | .k1 => 2 | .k2 => 3 | .purge => 4
    let stacker : Stacker → Nat := fun x => match x with | .k1 => 1 | .k2 => 2
    let jog : JogLevel → Nat := fun x => match x with | .home => 0 | .offset => 1
    let o := s.output
    copy 0x9E0 (o.latest.map (fun x => x.1)) ∧ copy 0x9E8 (o.committed.map (fun x => x.1))
      ∧ copy 0x9F0 (o.top1.map (fun x => x.1)) ∧ copy 0x9F8 (o.top2.map (fun x => x.1)) ∧ copy 0xA00 o.set.copy
      ∧ at' 0xA08 2 (match o.top1 with | some x => x.2 | none => 0)
      ∧ at' 0xA0A 2 (match o.top2 with | some x => x.2 | none => 0) ∧ at' 0xA0C 2 o.set.n
      ∧ at' 0xA0E 1 (loop o.loopGate.position) ∧ at' 0xA0F 1 (handle o.loopGate.holder)
      ∧ at' 0xA10 1 (flag o.loopGate.cleared)
      ∧ at' 0xA11 1 (match o.loopGate.pending with | some x => loop x.1 | none => 0)
      ∧ at' 0xA12 1 (handle (o.loopGate.pending.map (fun x => x.2)))
      ∧ at' 0xA13 1 (route o.routeGate.position) ∧ at' 0xA14 1 (handle o.routeGate.holder)
      ∧ at' 0xA15 1 (flag o.routeGate.cleared)
      ∧ at' 0xA16 1 (match o.routeGate.pending with | some x => route x.1 | none => 0)
      ∧ at' 0xA17 1 (handle (o.routeGate.pending.map (fun x => x.2)))
      ∧ at' 0xA18 1 (stacker o.active)
      ∧ at' 0xA19 1 (match o.selection with | some k => stacker k | none => 0)
      ∧ at' 0xA1A 1 (match o.latest with | some x => flag x.2 | none => 0)
      ∧ at' 0xA1B 1 (match o.committed with | some x => stacker x.2 | none => 0)
      ∧ at' 0xA1C 1 (jog o.jog1) ∧ at' 0xA1D 1 (jog o.jog2)
      ∧ at' 0xA1E 1 (match o.set.state with
          | .empty => 0 | .collecting => 1 | .complete => 2 | .ejecting => 3 | .dumping => 4)
      ∧ at' 0xA1F 1 (flag o.set.breakFlag) ∧ at' 0xA20 1 (flag o.set.broken)
      ∧ at' 0xA21 1 (match o.set.condition with | .sound => 0 | .disturbed => 1 | .scattered => 2)
      ∧ at' 0xA22 1 (match o.set.destination with
          | none => 0 | some .k1 => 1 | some .k2 => 2 | some .purge => 3)
      ∧ at' 0xA23 1 o.set.members.length ∧ at' 0xA24 1 o.set.overruns.length ∧ at' 0xA25 1 (flag o.set.arrived)
      ∧ at' 0xA26 26 0 := by
  intro at' flag handle copy loop route stacker jog o
  have table := output_table s
  unfold OutputUnit.viewBytes at table
  simp only [fieldHalf, fieldByte, List.append_assoc] at table
  obtain ⟨latest, table⟩ := table_append (n := 8) table (fun _ => length_copyBytes _)
  obtain ⟨committed, table⟩ := table_append (n := 8) table (fun _ => length_copyBytes _)
  obtain ⟨top1, table⟩ := table_append (n := 8) table (fun _ => length_copyBytes _)
  obtain ⟨top2, table⟩ := table_append (n := 8) table (fun _ => length_copyBytes _)
  obtain ⟨held, table⟩ := table_append (n := 8) table (fun _ => length_copyBytes _)
  obtain ⟨count1, table⟩ := table_append (n := 2) table (fun _ => length_toBytes _ _)
  obtain ⟨count2, table⟩ := table_append (n := 2) table (fun _ => length_toBytes _ _)
  obtain ⟨sheets, table⟩ := table_append (n := 2) table (fun _ => length_toBytes _ _)
  obtain ⟨loopGate, table⟩ := table_append (n := 5) table (fun _ => length_gateBytes _ _)
  obtain ⟨routeGate, table⟩ := table_append (n := 5) table (fun _ => length_gateBytes _ _)
  have shown {k n v : Nat} (field : ShowsFrom s k (fun _ => toBytes n v)) : Shows s c d k n v :=
    shows_of_field field (fun _ => by rw [Nat.sub_self]; exact field_last _ _) (Nat.le_refl k)
  obtain ⟨position, holder, cleared, pending, waiting⟩ := gate_cells s c d _ _ loop loopGate
  obtain ⟨position', holder', cleared', pending', waiting'⟩ := gate_cells s c d _ _ route routeGate
  refine ⟨copy_cells s c d _ _ latest, copy_cells s c d _ _ committed, copy_cells s c d _ _ top1,
    copy_cells s c d _ _ top2, copy_cells s c d _ _ held, shown count1, shown count2, shown sheets,
    position, holder, cleared, shows_value (by cases s.output.loopGate.pending <;> rfl) pending, waiting,
    position', holder', cleared', shows_value (by cases s.output.routeGate.pending <;> rfl) pending', waiting',
    ?_, ?_, ?_, ?_, ?_, ?_, ?_, ?_, ?_, ?_, ?_, ?_, ?_, ?_, ?_⟩
  all_goals
    refine shows_of_field table (fun _ => ?_) (by omega)
    simp only [stackerCode_eq, field_after, Nat.reduceLeDiff, Nat.reduceSub, Nat.reduceAdd]
  case refine_4 =>
    refine field_value ?_ (field_here _ _ _)
    cases s.output.committed <;> rfl
  case refine_11 =>
    refine field_value ?_ (field_here _ _ _)
    cases s.output.set.destination with
    | none => rfl
    | some k => cases k <;> rfl
  case refine_15 => exact field_last _ _
  all_goals exact field_here _ _ _

/-! ## The statement -/

/-- Settles O46: the reads that are events, and every other cell from the table it stands in. -/
theorem viewReads : Obligations.ViewReads := by
  refine ⟨fun s c d p a => claimReads, fun s c d p a => ⟨?_, ?_, fun read => ?_, ?_, ?_, fun o => plain_answered⟩,
    fun s c d => ?_⟩
  · rintro rfl read
    obtain ⟨t, done, only, byte, attention⟩ := event_answered (v := .eSummary) (row := .summaryRead .E a) read
      rfl rfl rfl (by simp [keepsBut_iff, State.readCell])
    exact ⟨t, done, only, eSummary_byte s .E ▸ byte, attention⟩
  · rintro rfl read
    obtain ⟨t, done, only, byte, attention⟩ := event_answered (v := .pSummary) (row := .summaryRead .P a) read
      rfl rfl rfl (by simp [keepsBut_iff, State.readCell])
    exact ⟨t, done, only, pSummary_byte s .P ▸ byte, attention⟩
  · obtain ⟨t, done, only, byte, attention⟩ := event_answered (v := .capture) (row := .captureRearm p a) read
      rfl rfl rfl (by simp [keepsBut_iff, State.readCell, State.clearLatch])
    have shown : ShowsByte t d p a 0x18 (BitVec.ofNat 8 (match s.junction.latch with
        | some x => x.cause.code
        | none => 0)) := capture_byte s p ▸ byte
    refine ⟨t, done, only, attention, fun x held => ?_, fun empty => ?_⟩
    · rwa [held] at shown
    · rwa [empty] at shown
  · rintro rfl read
    obtain ⟨t, data, done, answered, byte⟩ := other_answered (v := .eSummary) read rfl
    exact ⟨t, data, done, answered, eSummary_byte s .P ▸ byte⟩
  · rintro rfl read
    obtain ⟨t, data, done, answered, byte⟩ := other_answered (v := .pSummary) read rfl
    exact ⟨t, data, done, answered, pSummary_byte s .E ▸ byte⟩
  · obtain ⟨-, -, -, -, flagTable⟩ := part_tables s
    obtain ⟨-, jamTable, lastTable, -⟩ := flag_tables flagTable
    obtain ⟨operand1, operand2, operand3, head, accepted, tail, producer, consumer, free, sequence, time, sequence',
      time'⟩ := plan_cells s c d
    obtain ⟨place1, place2, place3⟩ := place_tables s
    refine ⟨base_cells s c d, drive_cells s c d,
      ⟨operand1, operand2, operand3, head, accepted, tail, producer, consumer, free,
        ⟨sequence, time, jam_cells s c d _ _ jamTable⟩, ⟨sequence', time', jam_cells s c d _ _ lastTable⟩,
      count_cells s c d⟩, state_cells s c d, flag_cells s c d, buffer_cells s c d, fun h sh live => ?_,
      sensor_cells s c d,
      ⟨place_cells c d place1, place_cells c d place2, place_cells c d place3⟩, output_cells s c d,
      ⟨fun i small => ?_, fun i small => ?_⟩, fun i small => broken_cells s c d small,
      fun i small => ring_cells s c d small, last_cells s c d⟩
    · obtain ⟨sequence, slot, unused, opening, statement, k, n, tray, media, sides, front, back, mode, breakFlag⟩ :=
        sheet_plan_cells s c d h sh live
      obtain ⟨pass, frontSlot, backSlot, finalSlot, idle, leg, unused2, reference, lastSensor, route, frontFaulted,
        backFaulted, broken, halted, covering, unused3, coverStart, unused4⟩ := sheet_track_cells s c d h sh live
      exact ⟨sequence, slot, opening, statement, k, n, tray, media, sides, front, back, mode, breakFlag, pass,
        frontSlot, backSlot, finalSlot, idle, leg, unused, unused2, unused3, unused4, reference, lastSensor, route,
        frontFaulted, backFaulted, broken, halted, covering, coverStart⟩
    · have entry := member_entry s (k := i) (by omega)
      rw [SetRecord.shown, if_pos small] at entry
      exact member_cells c d entry
    · have entry := member_entry s (k := 24 + i) (by omega)
      rw [SetRecord.shown, if_neg (by omega), Nat.add_sub_cancel_left, Nat.mul_add, ← Nat.add_assoc] at entry
      exact member_cells c d entry

end Sys2Proof.Proofs.ViewTables
